-- ==== Sys2Proof/Word.lean ====
section
/-! DEFINITION. The words of the CZ7810's packets, registers and records, and their plainest arithmetic. -/

namespace Sys2Proof

/-- One byte of a packet, record or host buffer. -/
abbrev Byte := BitVec 8
abbrev U16 := BitVec 16
abbrev U32 := BitVec 32
abbrev U48 := BitVec 48
abbrev U64 := BitVec 64
/-- A local index (IDX of R364): 20 bits. -/
abbrev Idx := BitVec 20
/-- An EUI-64. -/
abbrev Eui := BitVec 64

/-- The low `n` bytes of `v`, least significant first. -/
def leBytes : Nat → Nat → List Byte
  | 0, _ => []
  | n + 1, v => BitVec.ofNat 8 v :: leBytes n (v / 256)

/-- The number a little-endian byte string spells. -/
def ofLe : List Byte → Nat
  | [] => 0
  | b :: bs => b.toNat + 256 * ofLe bs

/-- The low `n` bytes of `v`, most significant first. -/
def beBytes (n v : Nat) : List Byte := (leBytes n v).reverse

/-- The number a big-endian byte string spells. -/
def ofBe (bs : List Byte) : Nat := ofLe bs.reverse

/-- `n` zero bytes. -/
def zeros (n : Nat) : List Byte := List.replicate n 0

/-- The bytes `[ofs, ofs + n)` of a string. -/
def slice (bs : List Byte) (ofs n : Nat) : List Byte := (bs.drop ofs).take n

/-- Bits `[lo, lo + w)` of a number. -/
def bits (v lo w : Nat) : Nat := v / 2 ^ lo % 2 ^ w

/-- One bit of a number. -/
def bit (v k : Nat) : Bool := v.testBit k

/-- A flag as the number 0 or 1. -/
def b2n (b : Bool) : Nat := if b then 1 else 0

/-- An unsigned 32-bit number read as a signed one. -/
def sgn32 (v : Nat) : Int := if v % 2 ^ 32 < 2 ^ 31 then (v % 2 ^ 32 : Nat) else (v % 2 ^ 32 : Nat) - (2 ^ 32 : Int)

/-- A signed number as its 32-bit two's-complement pattern. -/
def toU32 (v : Int) : Nat := (v % (2 ^ 32 : Int)).toNat

/-- The value of `v` held between `lo` and `hi`. -/
def clampI (v lo hi : Int) : Int := max lo (min hi v)

/-- Saturation of an unsigned count at 0xFFFF_FFFF. -/
def sat32 (v : Nat) : Nat := min v 0xFFFFFFFF

end Sys2Proof
end

