-- ==== Sys2Proof/Syntax.lean ====
section
/-! DEFINITION. The commands of the block, with their operands. -/

namespace Sys2Proof

/-- What every command packet carries beside its parameters (R350): the queue pair it came on, its TAG, the bytes
XLEN asks to transfer, and the bytes an "in" transfer brought from host memory. -/
structure Ctx where
  pair : Fin 16
  tag : U16
  xlen : Nat
  xin : List Byte
  deriving DecidableEq, Repr

/-- One entry of a configuration command (R367). -/
structure CfgEntry where
  pid : U16
  scope : U16
  value : U32
  deriving DecidableEq, Repr

/-- The register blocks of BAR0 (R341) and the Ledger windows of BAR2. -/
inductive Blk where
  | dev | hop | evt | fan | ing | wei | van | lea | tai | flu | gra | brk | sec | pwr | log | que | ldg
  deriving DecidableEq, Repr

/-- Where a host access of one dword goes beside BAR2: the registers, the doorbells, the configuration header (R336, R342, R343). -/
inductive Space where
  | bar0 | bar4 | config
  deriving DecidableEq, Repr

/-- A host write of registers without a row of its own: BAR0 and BAR4 by offset with byte enables (R342, R343); in configuration space by
what it writes, since the spec gives no offsets there: Command, a BAR, MSI-X Message Control, Device Control's size codes, and the error
bits it clears (R336, R337). -/
inductive HostWr where
  | bar0 (addr value : U32) (be : Byte)
  | bar4 (addr value : U32) (be : Byte)
  | command (value : U16)
  | bar (n : Fin 3) (base : U64)
  | msixControl (enable funcMask : Bool)
  | deviceControl (mps mrrs : Fin 6)
  | aerClear (value : U32)
  deriving DecidableEq, Repr

/-- The clock domains of R28; each radio port has its own receive clock. -/
inductive Dom where
  | tb | eth | pcie | mem | nand | rfiq (port : Fin 8) | afe | svc | aon
  deriving DecidableEq, Repr

/-- How the comparison of the two setpoint channels came out (R273, R274). -/
inductive SpCompare where
  | equal | transient | lasting
  deriving DecidableEq, Repr

/-- Which PCIe DMA request a completion belongs to (R351). -/
inductive DmaWhat where
  | fetch | binWrite | transfer (tag : U16)
  deriving DecidableEq, Repr

/-- How a PCIe DMA request ended (R351). -/
inductive DmaResult where
  | good | error | poisoned
  deriving DecidableEq, Repr

/-- One scatter-list entry (R351). -/
structure SgEntry where
  addr : U64
  len : U32
  ctl : U32
  deriving DecidableEq, Repr

/-- A command packet as fetched (R350): its 64 bytes and the scatter-list segments SGL leads to. -/
structure Packet where
  bytes : List Byte
  segs : List (List SgEntry)
  deriving DecidableEq, Repr

/-- What a NAND program wrote (R417): an archive unit, a garbage-collection or rewrite copy, an anchor, map or journal page, or
checkpoint data. -/
inductive ProgWhat where
  | unit | copy | system | ckpt
  deriving DecidableEq, Repr

/-- How the checks of a stored image came out (R459–R461), by the causes of R471. -/
inductive ImgCheck where
  | good | signature | gcm | svn
  deriving DecidableEq, Repr

/-- What a debug session asks for (R466); `readLog` names the first sequence number wanted. -/
inductive DbgAccess where
  | readReg (addr : Nat)
  | readLog (first : Nat)
  | readBank
  | readMem (addr len : Nat)
  | writeMem (addr : Nat) (bytes : List Byte)
  | halt (core : Fin 4)
  | step (core : Fin 4)
  | resume (core : Fin 4)
  | test
  deriving DecidableEq, Repr

/-- What a provisioning session supplies before its commit record (R451, R454): owner-slot hashes, KTK, OIK, the pair key and
the subsystem IDs. -/
structure Provision where
  owners : List (Fin 4 × List Byte)
  ktk : List Byte
  oik : List Byte
  pair : Option (List Byte)
  subsys : Option (U16 × U16)
  deriving DecidableEq, Repr

/-- What a message with OP 0x20–0x3F carries (R466, R467, R512), whose payload the spec does not lay out. -/
inductive SvcExch where
  | challenge
  | token (level : Byte) (bytes : List Byte)
  | provision (p : Provision)
  | access (a : DbgAccess)
  deriving DecidableEq, Repr

/-- A PTP message received on PTP_PORT (R327): its sender's port identity; times are PTP-timescale nanoseconds with the correction
field added; intervals are base-2 logarithms of seconds. An Announce carries the values BMCA ranks it by, its grandmaster, and
UTC offset, leap61 and leap59 where currentUtcOffsetValid is set; a one-step Sync carries its origin time. -/
inductive PtpMsg where
  | announce (src : Nat) (rank : List Nat) (gm : Eui) (logInt : Int) (utc : Option (U16 × Bool × Bool))
  | sync (src : Nat) (seq : U16) (logInt : Int) (origin : Option Int)
  | followUp (src : Nat) (seq : U16) (origin : Int)
  | delayResp (src : Nat) (seq : U16) (recv : Int)
  deriving DecidableEq, Repr

/-- An Ethernet frame for Headrace: the port it came in on, and its bytes without the FCS (R94). -/
structure UdpIn where
  eth : Fin 2
  frame : List Byte
  deriving DecidableEq, Repr

/-- A PPDU that ends on a radio port's receive lane (R187, R189): whether its PHR is valid (one that announces a mode switch is
not) and its FCS verifies, its FCS length, the PSDU without the FCS, the nanoseconds from its first symbol to its first PHR
symbol and from there to its end, and the mean sample power over the SHR, dBm before RSSI_OFF. -/
structure Ppdu where
  phr : Bool
  fcs : Bool
  fcs4 : Bool
  psdu : List Byte
  shr : U32
  air : U32
  power : Int
  deriving DecidableEq, Repr

/-- A page of a NAND channel as it reads (R406, R407): the fields of its tag, and its data bytes. -/
structure RawPage where
  kind : Nat
  tflags : Nat
  lunit : Nat
  wseq : Nat
  dseq : Nat
  pidx : Nat
  data : List Byte
  deriving DecidableEq, Repr

/-- A frame received whole on a power-line port (R217–R221, R236, R240): its PSDU with the FCS, the nanoseconds from its first
preamble symbol to its end, the measured SNR of each carrier over the symbols not erased, in units of 0.25 dB, and each payload
symbol's energy over the preamble's mean, dB. -/
structure PlcRx where
  psdu : List Byte
  air : U32
  snr : List Int
  excess : List Int
  deriving DecidableEq, Repr

/-- The unit a fabric stage belongs to (R23). -/
inductive StageUnit where
  | sluice (lane : Fin 4) (copy : Bool)
  | setpointA | setpointB | setpointComparator | safeLogic
  | bundled (blk : Fin 16)
  deriving DecidableEq, Repr

/-- An uncorrectable word a scrub finds in an SRAM (R398, R458, R475): in the Ledger entry of an index, at an offset of the Event
Recorder's memory with its syndrome, or in a Key Vault cache entry. -/
inductive ScrubFind where
  | ledger (idx : Idx)
  | recorder (ofs syn : U32)
  | keyCache (idx : Idx)
  deriving DecidableEq, Repr
/-- The commands of the block: one constructor per row of the operations table, in the table's order. -/
inductive Instr where
  /-- STATUS (R370): Device-group command that returns DEV_STATUS in RESULT. -/
  | status (c : Ctx)
  /-- INGEST_CONFIG (R135): Sets or gets Millrace, export and Headrace parameters under the common configuration layout. -/
  | ingestConfig (c : Ctx) (op : Byte) (ents : List CfgEntry)
  /-- GATEWAY_SET (R94): Writes or clears one entry of the Headrace gateway table. -/
  | gatewaySet (c : Ctx) (gwId : U16) (op : Byte) (af : Byte) (addr : BitVec 128)
  /-- EXPORT_SET (R134): Pauses or resumes export, or sets the head-end address and port. -/
  | exportSet (c : Ctx) (op : Byte) (af : Byte) (port : U16) (addr : BitVec 128)
  /-- CONFIG_SAVE (R523): Stores the running configuration as a configuration set in the slot the rules select. -/
  | configSave (c : Ctx)
  /-- BIND (R59): Binds a FREE index to an EUI-64, sets the entry to REGISTERED and creates the cold record. -/
  | bind (c : Ctx) (idx : Idx) (eui : Eui) (kind : Byte) (leg : U32)
  /-- UNBIND (R59): Returns a bound entry to FREE, clears its state, withdraws its content and zeroises its key slot. -/
  | unbind (c : Ctx) (idx : Idx)
  /-- BLOCK (R59): Moves a bound entry to BLOCKED. -/
  | block (c : Ctx) (idx : Idx)
  /-- UNBLOCK (R59): Returns a BLOCKED entry to REGISTERED. -/
  | unblock (c : Ctx) (idx : Idx)
  /-- COLD_READ (R67): Drains posted updates for an index and copies its cold record to the host. -/
  | coldRead (c : Ctx) (idx : Idx)
  /-- COLD_WRITE (R371): Writes bytes of the host area of a cold record. -/
  | coldWrite (c : Ctx) (idx : Idx) (ofs : U32)
  /-- LEDGER_CONFIG (R372): Sets or gets ABSENCE_TIMEOUT, STRANGER_HOLDOFF and COLD_SIZE. -/
  | ledgerConfig (c : Ctx) (op : Byte) (ents : List CfgEntry)
  /-- STRANGER_DRAIN (R69): Copies stranger records to the host, oldest first, removing them from the queue. -/
  | strangerDrain (c : Ctx) (max : U16) (bad : List (Fin 4096))
  /-- RELAY (R98): Places host-supplied Headrace datagrams into the staging ring as PCIe-relayed frames. -/
  | relay (c : Ctx) (ndg : U16)
  /-- HOST_PEND (R371): Sets or clears the HOST pending flag of an entry. -/
  | hostPend (c : Ctx) (idx : Idx) (set : Byte)
  /-- NODE_ACTIVATE (R373): Activates a topology node under a parent, incrementing GEN and TOPO_GEN. -/
  | nodeActivate (c : Ctx) (lvl : Byte) (num : U32) (parent : U32)
  /-- NODE_DEACTIVATE (R373): Deactivates a childless node, dropping its pending move and its anchor. -/
  | nodeDeactivate (c : Ctx) (lvl : Byte) (num : U32)
  /-- NODE_SET (R373): Writes PHASE_REF, INVERT or FROZEN in a node header. -/
  | nodeSet (c : Ctx) (lvl : Byte) (field : Byte) (value : Byte) (num : U32)
  /-- ATTACH (R76): Attaches, moves or detaches an endpoint's leg in one indivisible Ledger update. -/
  | attach (c : Ctx) (idx : Idx) (leg : U32)
  /-- REJECT_PROPOSAL (R173): Rejects a topology proposal, clears MOVE_PROP and adds a suppression entry. -/
  | rejectProposal (c : Ctx) (idx : Idx) (phase : Byte)
  /-- NODE_MOVE (R77): Lists a transformer or feeder move for the next interval boundary. -/
  | nodeMove (c : Ctx) (lvl : Byte) (num : U32) (parent : U32)
  /-- WEIR_CONFIG (R177): Sets or gets Weir parameters. -/
  | weirConfig (c : Ctx) (op : Byte) (ents : List CfgEntry)
  /-- WEIR_ENABLE (R152): Enables or disables the Weir interval machine. -/
  | weirEnable (c : Ctx) (en : Byte)
  /-- LOSS_CLASS (R162): Writes one loss-class entry. -/
  | lossClass (c : Ctx) (lvl : Byte) (cls : Byte) (p0 : U32) (k1 : U32) (k2 : U32) (tolFix : U32) (tolPpm : U32)
  /-- NODE_CLASS (R374): Writes a node's LCLASS for use from the next close or re-issue. -/
  | nodeClass (c : Ctx) (lvl : Byte) (cls : Byte) (num : U32)
  /-- CHECK_BIND (R161): Enters a bound, unattached endpoint as the check meter of a leg or transformer. -/
  | checkBind (c : Ctx) (idx : Idx) (lvl : Byte) (num : U32)
  /-- CHECK_UNBIND (R161): Removes a check-meter entry from the next open interval on. -/
  | checkUnbind (c : Ctx) (idx : Idx)
  /-- INTERVAL_RESULTS (R158): Copies a retained history slot, or a range of its records, to the host. -/
  | intervalResults (c : Ctx) (interval : U64) (first : U32) (count : U32)
  /-- AFFINITY_TEST (R174): Fills test slots with voltage-correlation tests for named endpoints. -/
  | affinityTest (c : Ctx) (mode : Byte) (n : U16) (ncand : U16)
  /-- AFFINITY_ABORT (R374): Empties named or all affinity test slots, reporting commanded tests as aborted. -/
  | affinityAbort (c : Ctx) (all : Byte) (n : U16)
  /-- WEIR_REPORT_DRAIN (R176): Copies records of the Weir report queue to the host. -/
  | weirReportDrain (c : Ctx) (max : U16) (bad : List (Fin 4096))
  /-- VANE_CONFIG (R211): Sets or gets Vane parameters, restarting ports for PHY-level values. -/
  | vaneConfig (c : Ctx) (op : Byte) (ents : List CfgEntry)
  /-- SCRIPT_LOAD (R182): Replaces one SPI script of a radio port. -/
  | scriptLoad (c : Ctx) (port : Byte) (script : Byte) (ntx : Byte)
  /-- CHANNEL (R186): Runs a port's CHANNEL script and replies when it ends. -/
  | channel (c : Ctx) (port : Byte)
  /-- LEAT_CONFIG (R246): Sets or gets Leat parameters, restarting ports for band-plan and latency values. -/
  | leatConfig (c : Ctx) (op : Byte) (ents : List CfgEntry)
  /-- SCHEDULE_LOAD (R226): Loads a port's poll schedule, taking effect at the end of the current cycle. -/
  | scheduleLoad (c : Ctx) (port : Byte) (nstep : U16)
  /-- SLOT_READ (R224): Copies slave-table slot entries to the host. -/
  | slotRead (c : Ctx) (port : Byte) (first : U16) (count : U16)
  /-- SLOT_ASSIGN (R227): Assigns a FREE slot to a bound index and schedules an ASSIGN. -/
  | slotAssign (c : Ctx) (port : Byte) (slot : U16) (idx : Idx)
  /-- SLOT_RELEASE (R227): Frees a slot and schedules a RELEASE. -/
  | slotRelease (c : Ctx) (port : Byte) (slot : U16)
  /-- TM_OVERRIDE (R236): Sets or clears a fixed tone map for a slot. -/
  | tmOverride (c : Ctx) (port : Byte) (slot : U16) (op : Byte) (tm : U32)
  /-- TAILRACE_CONFIG (R279): Sets or gets Tailrace parameters and the limit table of both channels. -/
  | tailraceConfig (c : Ctx) (op : Byte) (ents : List CfgEntry)
  /-- TARIFF_LOAD (R261): Writes a tariff slot with a newer version and starts its sweep. -/
  | tariffLoad (c : Ctx) (slot : Byte) (ver : U32) (size : U32)
  /-- TARIFF_ASSIGN (R262): Assigns a tariff slot to a list of indices. -/
  | tariffAssign (c : Ctx) (slot : Byte) (n : U16)
  /-- CAMPAIGN_LOAD (R264): Places a firmware image in an IDLE campaign and moves it to LOADED. -/
  | campaignLoad (c : Ctx) (camp : Byte) (imgVer : U32) (size : U32)
  /-- CAMPAIGN_TARGET (R264): Adds or removes campaign members by list or KIND. -/
  | campaignTarget (c : Ctx) (camp : Byte) (op : Byte) (kind : Byte) (n : U16)
  /-- CAMPAIGN_START (R267): Starts a LOADED campaign in ANNOUNCE with a deadline. -/
  | campaignStart (c : Ctx) (camp : Byte) (deadline : U48)
  /-- CAMPAIGN_ACTIVATE (R267): Moves a campaign from REPAIR to ACTIVATE. -/
  | campaignActivate (c : Ctx) (camp : Byte)
  /-- CAMPAIGN_ABORT (R267): Aborts a campaign, clearing members and recalling its queued TDFs. -/
  | campaignAbort (c : Ctx) (camp : Byte)
  /-- CAMPAIGN_RELEASE (R267): Returns a CLOSED campaign to IDLE and frees its image area. -/
  | campaignRelease (c : Ctx) (camp : Byte)
  /-- CAMPAIGN_RELOAD (R267): Resupplies the image of a SUSPENDED campaign and restores its prior state. -/
  | campaignReload (c : Ctx) (camp : Byte) (size : U32)
  /-- SETPOINT (R272): Checks a setpoint in channels A and B, builds and compares the frame, and releases it. -/
  | setpoint (c : Ctx) (idx : Idx) (body : List Byte) (cmp : SpCompare)
  /-- SETPOINT_WITHDRAW (R276): Ends an outstanding setpoint with result WITHDRAWN. -/
  | setpointWithdraw (c : Ctx) (idx : Idx)
  /-- RECORD_READ (R254): Copies downlink records to the host. -/
  | recordRead (c : Ctx) (first : U32) (count : U32)
  /-- TAI_REPORT_DRAIN (R276): Copies records of the setpoint report queue to the host. -/
  | taiReportDrain (c : Ctx) (max : U16) (bad : List (Fin 4096))
  /-- FLUME_CONFIG (R308): Sets or gets Flume parameters. -/
  | flumeConfig (c : Ctx) (op : Byte) (ents : List CfgEntry)
  /-- CHANNEL_CONFIG (R285): Sets a modulator channel's role, scale and inversion, restarting its metering points. -/
  | channelConfig (c : Ctx) (ch : Byte) (role : Byte) (invert : Byte) (scale : U32)
  /-- DC_BLOCKER (R291): Sets a channel's DC-tracker setting and optionally loads its estimate. -/
  | dcBlocker (c : Ctx) (ch : Byte) (set : Byte) (load : Byte) (dc : U32)
  /-- COEF_LOAD (R292): Writes a whole compensation-FIR coefficient bank with its CRC. -/
  | coefLoad (c : Ctx) (bank : Byte) (crc : U32)
  /-- BANK_SWAP (R293): Starts a cross-fade from the active coefficient bank to the other. -/
  | bankSwap (c : Ctx) (f : U16)
  /-- DECIM_RESET (R289): Requests a decimator reset at the next MOD_CLK rising edge. -/
  | decimReset (c : Ctx)
  /-- FACTORY_CAL (R295): Burns a channel's factory calibration record in OTP. -/
  | factoryCal (c : Ctx) (ch : Byte) (rcd : List Byte)
  /-- USER_CAL (R296): Stages a user calibration record for the next interval boundary. -/
  | userCal (c : Ctx) (ch : Byte) (rcd : List Byte)
  /-- METERING_POINT (R298): Defines, changes or deletes a metering point and its optional anchor. -/
  | meteringPoint (c : Ctx) (point : Byte) (nelem : Byte) (ref : Byte) (alvl : Byte) (anum : U32) (elems : List U32)
  /-- FLUME_INTERVALS (R303): Copies a point's interval records to the host. -/
  | flumeIntervals (c : Ctx) (point : Byte) (first : Byte) (count : Byte)
  /-- FANTAIL_CONFIG (R333): Sets or gets Fantail parameters. -/
  | fantailConfig (c : Ctx) (op : Byte) (ents : List CfgEntry)
  /-- TIME_SET (R324): Supplies a time value as an initial step or an accepted sample, refused if beyond JUMP_THR. -/
  | timeSet (c : Ctx) (sec : U64) (nsec : U32)
  /-- TIME_FORCE (R325): Forces a step to an absolute time or a named source's latest error. -/
  | timeForce (c : Ctx) (mode : Byte) (src : Byte) (sec : U64) (nsec : U32)
  /-- UTC_OFFSET (R319): Sets UTC_OFS and the leap flags. -/
  | utcOffset (c : Ctx) (ofs : U16) (leap : Byte)
  /-- PTP_TRANSMIT (R328): Sends a host-built PTP event message one-step or two-step. -/
  | ptpTransmit (c : Ctx) (port : Byte) (mode : Byte) (id : U16) (len : U16)
  /-- STAMP_DRAIN (R329): Copies transmit stamp queue entries to the host. -/
  | stampDrain (c : Ctx) (max : U16) (bad : List (Fin 4096))
  /-- GRANARY_CONFIG (R426): Sets or gets Granary parameters. -/
  | granaryConfig (c : Ctx) (op : Byte) (ents : List CfgEntry)
  /-- HMR_SET (R412): Lends or removes the Host Map Region. -/
  | hmrSet (c : Ctx) (size : U16) (base : U64)
  /-- ARCHIVE_READ (R422): Copies whole archive units from an offset to the host. -/
  | archiveRead (c : Ctx) (ofs : U64) (hmrReads : List (Nat × Nat))
  /-- MEDIA_STATUS (R409): Returns a NAND channel's state and status block. -/
  | mediaStatus (c : Ctx) (ch : Byte)
  /-- FORMAT (R420): Erases and formats a NAND channel, replying when the format ends. -/
  | format (c : Ctx) (ch : Byte) (confirm : U32)
  /-- BRAKE_CONFIG (R446): Sets or gets Brake parameters. -/
  | brakeConfig (c : Ctx) (op : Byte) (ents : List CfgEntry)
  /-- CLAIM_SET (R429): Drops the claim at once or raises it for the next arbitration round. -/
  | claimSet (c : Ctx) (op : Byte) (level : Byte)
  /-- CHECKPOINT (R439): Writes a checkpoint now and replies when its commit record is written. -/
  | checkpoint (c : Ctx)
  /-- KEY_LOAD (R383): Unwraps an endpoint key into its Key Vault slot and bumps KEY_GEN for a bound index. -/
  | keyLoad (c : Ctx) (idx : Idx) (klen : Byte)
  /-- DEVICE_KEY (R456): Replaces the export, beacon, downlink group or setpoint root key. -/
  | deviceKey (c : Ctx) (which : Byte) (klen : Byte)
  /-- LIFECYCLE (R451): Performs a token-authorised lifecycle transition or owner-slot revocation. -/
  | lifecycle (c : Ctx) (target : Byte)
  /-- FIREWALL_RULE (R463): Writes or removes an owner firewall rule. -/
  | firewallRule (c : Ctx) (rule : Byte) (master : Byte) (perm : Byte) (base : U64) (size : U64)
  /-- FIREWALL_RELEASE (R465): Releases a frozen firewall master. -/
  | firewallRelease (c : Ctx) (master : Byte)
  /-- POWER_STATE (R491): Changes the device power state, starting the entry sequence for DOZE, HUSH or OFF. -/
  | powerState (c : Ctx) (target : Byte)
  /-- WAKE_CONFIG (R495): Sets the MGMT address and the enabled wake sources. -/
  | wakeConfig (c : Ctx) (addr : Byte) (src : Byte)
  /-- RESET (R501): Performs a HOST, FIRMWARE or SYSTEM reset after writing its reply. -/
  | reset (c : Ctx) (kind : Byte)
  /-- LOG_READ (R397): Copies Event Recorder records from a sequence number, within any standing view. -/
  | logRead (c : Ctx) (start : U32) (max : U16) (bad : List (U32 × U32))
  /-- LOG_VIEW (R397): Releases, freezes or snapshots the recorder view. -/
  | logView (c : Ctx) (op : Byte) (bad : List (Fin 256))
  /-- LOG_CONFIG (R400): Sets or gets READ_MODE, FREEZE_MAX and per-code rate buckets. -/
  | logConfig (c : Ctx) (op : Byte) (ents : List CfgEntry)
  /-- LOG_RESTART (R395): Empties recorder memory and resumes recording after stop-when-full. -/
  | logRestart (c : Ctx)
  /-- LASTGASP (R399): Copies the last-gasp bank, optionally clearing it and LG_STICKY. -/
  | lastgasp (c : Ctx) (op : Byte)
  /-- NOP (R386): Returns the first parameter bytes in RESULT. -/
  | nop (c : Ctx) (params : List Byte)
  /-- LANE_STOP (R101): Stops a Millrace lane by command and recomputes the lane map. -/
  | laneStop (c : Ctx) (lane : Byte)
  /-- LANE_RESTART (R102): Self-tests a stopped lane's Sluice and returns it to service if it passes. -/
  | laneRestart (c : Ctx) (lane : Byte) (pass : Bool)
  /-- SELF_TEST (R485): Runs one functional-safety self-test. -/
  | selfTest (c : Ctx) (test : Byte) (arg : Byte) (code : U32)
  /-- FAULT_CLEAR (R478): Retests and clears a latched fault cause, leaving the safe state when none remains. -/
  | faultClear (c : Ctx) (cause : Byte) (pass : Bool)
  /-- QUEUE_FLUSH (R392): Requests a flush of a host-consumed internal queue at its next packet boundary. -/
  | queueFlush (c : Ctx) (qid : Byte)
  /-- IDENTIFY (R512): Service Port operation returning identity and update status. -/
  | identify (entry : Fin 2) (tag : U16)
  /-- LOCK (R514): Service Port operation that checks a container header and takes the staging lock. -/
  | lock (entry : Fin 2) (tag : U16) (header : List Byte)
  /-- DATA (R512): Service Port operation writing container bytes into STAGING at the staged offset. -/
  | data (entry : Fin 2) (tag : U16) (arg : U32) (bytes : List Byte)
  /-- DONE (R517): Service Port operation that arms a fully staged image and optionally reboots. -/
  | done (entry : Fin 2) (tag : U16) (reboot : Bool)
  /-- RELEASE (R515): Service Port operation that releases the staging lock. -/
  | release (entry : Fin 2) (tag : U16)
  /-- DISARM (R517): Service Port operation returning an ARMED image to IDLE. -/
  | disarm (entry : Fin 2) (tag : U16)
  /-- DEBUG_CHALLENGE (R467): Service Port exchange returning a fresh 32-byte session challenge. -/
  | debugChallenge (entry : Fin 2) (tag : U16)
  /-- DEBUG_TOKEN (R467): Service Port exchange presenting a debug token that opens a session at its level. -/
  | debugToken (entry : Fin 2) (tag : U16) (level : Byte) (token : List Byte)
  /-- PROVISIONING_SESSION (R451): Service Port provisioning session whose commit record burns owner keys and enters PROVISIONED. -/
  | provisioningSession (entry : Fin 2) (tag : U16) (what : Provision)
  /-- DEBUG_ACCESS (R466): Debug-session memory, register or core halt, step and resume access at the granted level. -/
  | debugAccess (entry : Fin 2) (tag : U16) (access : DbgAccess)
  /-- HQ_TAIL_WRITE (R348): Hopper doorbell write giving a new tail for a queue pair. -/
  | hqTailWrite (pair : Fin 16) (value : U32) (be : Byte)
  /-- BQ_HEAD_WRITE (R353): Bin doorbell write releasing reply slots and possibly arming a signal. -/
  | bqHeadWrite (pair : Fin 16) (value : U32) (be : Byte)
  /-- QP_ENABLE (R346): Write of HOP_QP_CTRL.EN to 1, enabling a queue pair or faulting the enable. -/
  | qpEnable (pair : Fin 16) (value : U32)
  /-- QP_DISABLE (R346): Write of HOP_QP_CTRL.EN to 0, moving the pair to DRAINING. -/
  | qpDisable (pair : Fin 16) (value : U32)
  /-- EVT_PEND_CLEAR (R357): RW1C write clearing event pending bits, never losing an overlapping raise. -/
  | evtPendClear (word : Fin 4) (value : U32)
  /-- DEV_ACCESS_ERR_CLEAR (R34): RW1C write of VALID re-arming dark-access capture. -/
  | devAccessErrClear (value : U32)
  /-- SEC_FW_VIOL_INFO_CLEAR (R465): RW1C write of VALID re-arming firewall violation capture. -/
  | secFwViolInfoClear (value : U32)
  /-- FAN_SNAP_TAKE (R317): Write of TAKE to FAN_SNAP_CTRL capturing one instant in the snapshot registers. -/
  | fanSnapTake (value : U32)
  /-- SEC_FW_RELEASE_WRITE (R465): Write to SEC_FW_RELEASE releasing the PCIe DMA master on the magic value. -/
  | secFwReleaseWrite (value : U32)
  /-- DEV_UPD_REVERT_WRITE (R521): Write of the revert value in TRIAL journalling REVERT_REQ and resetting. -/
  | devUpdRevertWrite (value : U32)
  /-- DEV_UPD_HOLD_WRITE (R516): Write of MOVING and HOLD_CONFIRM affecting update refusal and confirmation. -/
  | devUpdHoldWrite (value : U32)
  /-- DEV_SVC_OUT_LEN_WRITE (R510): Write submitting a pass-through Service Port message from DEV_SVC_OUT. -/
  | devSvcOutLenWrite (value : U32) (exch : Option SvcExch)
  /-- DEV_SVC_IN_ACK_WRITE (R525): Write freeing DEV_SVC_IN for the next pass-through reply. -/
  | devSvcInAckWrite (value : U32)
  /-- PACE_CTRL_WRITE (R25): Write of PACE_CTRL; a WINDOW change clears lane counters and restarts the window. -/
  | paceCtrlWrite (value : U32)
  /-- MSIX_VECTOR_UNMASK (R359): Clearing a vector or function mask sends the message the vector owes. -/
  | msixVectorUnmask (vec : Option (Fin 32))
  /-- RC_REGISTER_READ (R14): Read of a read-clear counter returning its value and clearing it; of any other register,
doorbell or dword of the configuration header, returning its value (R336, R343). -/
  | rcRegisterRead (space : Space) (addr : U32)
  /-- REGISTER_WRITE (R342): Write to any BAR0 register without a row of its own, under the access rules. -/
  | registerWrite (w : HostWr)
  /-- BAR2_WRITE (R79): Write to read-only BAR2, discarded and counted in LDG_WR_DROP. -/
  | bar2Write (addr : U32)
  /-- DARK_BLOCK_ACCESS (R32): An access on any bus to a dark block completes with POWERED_DOWN and is captured. -/
  | darkBlockAccess (bus : Fin 5) (blk : Blk) (write : Bool) (addr : U32)
  /-- MGMT_READ (R499): MGMT bus register read returning a status byte and register bytes. -/
  | mgmtRead (reg : Byte) (count : Nat)
  /-- MGMT_WRITE (R499): MGMT bus write, acting only on WAKE_RETRY with value 0xA5. -/
  | mgmtWrite (reg : Byte) (value : Byte)
  /-- POWER_ON (R503): PORn release starts the power-on timeline and boot. -/
  | powerOn (unitId : Bool)
  /-- SYSTEM_RESET (R501): RSTn low clears everything outside AON and restarts from step 2 of start-up. -/
  | systemReset
  /-- HOST_RESET (R339): Function Level Reset, Hot Reset or link-down resets the host interface only. -/
  | hostReset
  /-- D3HOT_ENTRY (R338): The function enters D3hot, stopping fetches, Bin writes and MSI-X. -/
  | d3hotEntry
  /-- D0_RETURN (R338): Return to D0 writes held replies and resumes fetching. -/
  | d0Return
  /-- BOOT_CHAIN (R459): Boot ROM and loader verify and start images, lock firewall device rules and set READY. -/
  | bootChain (suite : Byte) (format : Byte)
  /-- WAKE_EVENT (R495): A MGMT address match, WAKEn low level or claim-watcher firing latches a wake and raises PWR_EN. -/
  | wakeEvent (cause : Fin 3)
  /-- WAKE_ATTEMPT_TIMEOUT (R498): PG_CORE or PLL lock not reached in time fails a wake attempt. -/
  | wakeAttemptTimeout (pll : Bool)
  /-- WAKE_RETRY_TIMER (R498): 10 ms after a failed attempt the PMC retries the wake. -/
  | wakeRetryTimer
  /-- WAKE_COMPLETE (R496): Domains come up; from DOZE the device resumes from retention, from HUSH it boots. -/
  | wakeComplete
  /-- POWER_ENTRY_STEP (R492): Each awaited stage of the entry sequence completes: transmissions end, batch closes, checkpoint and flush done. -/
  | powerEntryStep
  /-- BKP_ACTIVE_RISE (R493): Rising BKP_ACTIVE flushes Granary, sets PWR_STATUS.BKP and raises the backup-power event. -/
  | bkpActiveRise
  /-- TILT_MOVING (R516): TILTn held low for 100 ms makes MOVING stand. -/
  | tiltMoving
  /-- USB_DETACH (R515): USB detach or bus reset releases a USB-owned staging lock and ends a debug session. -/
  | usbDetach
  /-- CLOCK_LOSS (R31): No edge within the monitor limit declares a domain unclocked and dark. -/
  | clockLoss (dom : Dom)
  /-- CLOCK_RESTORE (R31): 64 good edges clear a domain's unclocked mark. -/
  | clockRestore (dom : Dom)
  /-- STAGE_WATCHDOG_TRIP (R23): A fabric stage watchdog trips, raising the fabric-stall event and starting the retry. -/
  | stageWatchdogTrip (unit : StageUnit) (stage : Byte) (rerun : Bool)
  /-- PACE_WINDOW_END (R25): At each window end the lane counters and PACE_SEQ update together. -/
  | paceWindowEnd
  /-- PACE_SPEED_REFRESH (R26): PACE_SPEED refreshes every 10 µs and raises the margin event below PACE_FLOOR. -/
  | paceSpeedRefresh (speed : U16)
  /-- ING_LOAD_REFRESH (R99): ING_LOAD.LEVEL is recomputed from lane and staging-ring occupancy every 1 ms. -/
  | ingLoadRefresh
  /-- HEADRACE_DATAGRAM (R94): A UDP datagram on ETH0 or ETH1 is checked and written whole to the staging ring or dropped. -/
  | headraceDatagram (d : UdpIn)
  /-- NACK_DATAGRAM (R133): A head-end resend request is authenticated and listed batches still in the ring are resent. -/
  | nackDatagram (d : UdpIn)
  /-- LANE_DRAW (R96): A lane draws the next datagram from the staging ring and presents its frames as admission words. -/
  | laneDraw
  /-- SLUICE_VERDICT (R104): The Sluice judges an admission word from header, Ledger and seen-cache and gives one verdict. -/
  | sluiceVerdict (lane : Fin 4) (agree : Bool) (poison : Bool)
  /-- SEEN_CACHE_INSERT (R112): An ACCEPT insertion that found every eligible way IN_FLIGHT completes when a way closes. -/
  | seenCacheInsert (lane : Fin 4)
  /-- QUERN_AUTH (R119): Quern checks KEYG, decrypts and verifies the tag, ending AUTH_FAIL or passing plaintext on. -/
  | quernAuth (lane : Fin 4)
  /-- KEY_UNWRAP_DONE (R118): A key unwrapped after a cache miss releases the parked frame or raises the unwrap-failure event. -/
  | keyUnwrapDone (lane : Fin 4) (ok : Bool)
  /-- BOLTER_RULES (R126): The Bolter applies stateless rules B1–B5 and B8 and marks the result. -/
  | bolterRules (lane : Fin 4)
  /-- LEDGER_UPDATE (R120): The indivisible read-modify-write that applies binding, replay, stateful checks and writes, giving the frame its fate. -/
  | ledgerUpdate (lane : Fin 4) (bad : Bool)
  /-- RATE_TOKEN_REFILL (R396): A code's bucket gains one token each 1 ÷ RATE s while below BURST. -/
  | rateTokenRefill (code : Nat)
  /-- ENTRY_REBUILD (R62): A poisoned Ledger entry is rebuilt from its cold record or as FREE within 10 µs. -/
  | entryRebuild (idx : Idx)
  /-- REBUILD_FREE_CLEANUP (R64): The reverse-map and Leat slot walks after a rebuild as FREE complete. -/
  | rebuildFreeCleanup (idx : Idx)
  /-- ABSENCE_SWEEP (R60): The 10 s scrub and absence sweep marks ABSENT entries, recounts legs and writes SEQ_FLOOR. -/
  | absenceSweep
  /-- SEEN_CACHE_WALK (R112): The background walk empties closed entries aged WINDOW or more. -/
  | seenCacheWalk
  /-- GW_ACK_SEND (R97): An acknowledgement datagram is sent at 64 entries or GW_ACK_HOLD after its earliest entry. -/
  | gwAckSend
  /-- BATCH_TIMEOUT (R129): BATCH_TIMEOUT after opening closes the batch and hands it to ring, archive and ports. -/
  | batchTimeout
  /-- COUNTER_RESERVE_RECORD (R131): A ceiling record is written to the COUNTERS area, resuming stopped counter users. -/
  | counterReserveRecord (which : Fin 3)
  /-- VANE_PPDU_RECEIVED (R187): A received PPDU is filtered and a GRF, beacon or downlink echo handled. -/
  | vanePpduReceived (port : Fin 8) (ppdu : Ppdu)
  /-- IQ_SYNC_LOSS (R181): Four bad SYNC words in 64 unlock a receive lane and abandon the frame; the lane's newest words. -/
  | iqSyncLoss (port : Fin 8) (words : List U32)
  /-- IQ_LOCK (R181): 64 consecutive good SYNC words lock a receive lane; its newest words. -/
  | iqLock (port : Fin 8) (words : List U32)
  /-- ACK_CUTOFF (R192): At 650 µs after a PPDU Vane builds the Enhanced Acknowledgement or counts VAN_ACK_LATE. -/
  | ackCutoff (port : Fin 8) (arriving : Bool)
  /-- VANE_TX_END (R196): A transmission ends; the port re-listens and Tailrace burst items follow. -/
  | vaneTxEnd (port : Fin 8)
  /-- CSMA_COMPLETE (R196): An unslotted CSMA-CA attempt succeeds or fails for a queued frame: each clear-channel
  assessment's backoff, in unit periods, and energy, dBm. -/
  | csmaComplete (port : Fin 8) (cca : List (Byte × Int)) (shr : U32) (air : U32)
  /-- VANE_ACK_WAIT_EXPIRY (R197): No acknowledgement to a Tailrace unicast; resend up to TX_RETRY then report failure. -/
  | vaneAckWaitExpiry (port : Fin 8)
  /-- BEACON_DUE (R204): A port's beacon falls due and is queued for CSMA-CA. -/
  | beaconDue (port : Fin 8)
  /-- BEACON_DROP (R204): A beacon not on air within half a period is dropped. -/
  | beaconDrop (port : Fin 8)
  /-- RELAY_TIME (R201): A pending relay is sent on RELAY_MASK ports or cancelled by suppression. -/
  | relayTime (bad : Bool)
  /-- RELAY_LATE_DROP (R202): A relay not on air within 50 ms of its relay time is dropped. -/
  | relayLateDrop (port : Fin 8)
  /-- SPI_TRANSACTION_DONE (R182): An SPI script transaction completes, continuing, ending or stopping the script on a check mismatch. -/
  | spiTransactionDone (port : Fin 8) (miso : List Byte)
  /-- UPSTREAM_DEADLINE (R209): An upstream beacon deadline passes, counting a miss or losing the source. -/
  | upstreamDeadline
  /-- AFE_SYNC_LOSS (R215): Four bad SYNC words in 64 unlock a PLC SDI lane; the lane's newest words. -/
  | afeSyncLoss (port : Fin 4) (words : List (BitVec 20))
  /-- LEAT_STEP_START (R225): A port begins its next schedule step, swapping tables at END. -/
  | leatStepStart (port : Fin 4)
  /-- POLL_SEND (R228): After CS_IDLE Leat builds and sends a POLL for the next due slot. -/
  | pollSend (port : Fin 4) (idle : U32)
  /-- RESPONSE_RECEIVED (R233): A RESPONSE is decoded, its GRF admitted, SNR and phase sampled. -/
  | responseReceived (port : Fin 4) (rx : PlcRx)
  /-- RESPONSE_LOST (R230): No preamble by RESP_GAP + 1 ms, or an abandoned frame, counts a loss and re-polls. -/
  | responseLost (port : Fin 4) (fch : Bool)
  /-- PHASE_WRITE (R245): A conditional read-modify-write stores the established phase class in the Ledger. -/
  | phaseWrite
  /-- DISC_ANSWER_RECEIVED (R234): A discovery answer is resolved to a stranger record or a slot allocation. -/
  | discAnswerReceived (port : Fin 4) (rx : PlcRx)
  /-- DISCOVERY_END (R234): At the end of a discovery step due ASSIGN and RELEASE frames are sent. -/
  | discoveryEnd (port : Fin 4)
  /-- IDLE_STEP_END (R225): An IDLE step's time elapses and the schedule advances. -/
  | idleStepEnd (port : Fin 4)
  /-- PLC_AFE_CALIBRATION_DONE (R484): A PLC AFE calibration inside an IDLE step completes. -/
  | plcAfeCalibrationDone (port : Fin 4)
  /-- TM_REFRESH_DUE (R238): TM_REFRESH passes since TM_AGE and a refresh is marked due. -/
  | tmRefreshDue (port : Fin 4) (slot : BitVec 12)
  /-- CONFIRM_PROCESS (R260): Tailrace acts on a committed CONFIRM for tariff, firmware or setpoint content. -/
  | confirmProcess
  /-- PEND_FLAG_WRITE (R259): Tailrace writes a changed pending flag through the read-modify-write port. -/
  | pendFlagWrite (idx : Idx)
  /-- TDF_MAC_OUTCOME (R257): A downlink item's MAC success or failure advances the burst, cursor or UFAIL. -/
  | tdfMacOutcome
  /-- TARIFF_SWEEP_DONE (R262): The sweep of downlink records for a loaded tariff slot completes. -/
  | tariffSweepDone
  /-- SETPOINT_RETRY (R275): SP_RETRY elapses and an outstanding setpoint is sent again under a new DSEQ. -/
  | setpointRetry (idx : Idx) (cmp : SpCompare)
  /-- SETPOINT_EXPIRE (R276): Fantail seconds reach UNTIL_S and the setpoint ends EXPIRED. -/
  | setpointExpire (idx : Idx)
  /-- ANNOUNCE_ELAPSED (R267): ANNOUNCE_S elapses and the campaign enters MULTICAST. -/
  | announceElapsed (camp : Fin 16)
  /-- FRAG_GAP_SEND (R268): A campaign path sends its next multicast fragment, completing passes. -/
  | fragGapSend (path : Fin 13)
  /-- CAMPAIGN_DEADLINE (R267): A campaign's deadline is reached and it closes with unfinished members failed. -/
  | campaignDeadline (camp : Fin 16)
  /-- ABORT_HOLD_ELAPSED (R267): ABORT_HOLD elapses and an ABORTED campaign returns to IDLE. -/
  | abortHoldElapsed (camp : Fin 16)
  /-- REPAIR_RESEND (R270): REPAIR_RESEND passes and a parked repair cursor returns to the first range. -/
  | repairResend (entry : U16)
  /-- MODULATOR_STUCK (R284): 256 equal bits put a channel in fault with cause 1. The channel's last 256 bits, oldest in bit 0. -/
  | modulatorStuck (ch : Fin 12) (bits : BitVec 256)
  /-- CHANNEL_RESTORE (R284): A faulted channel's cause clears and it enters SETTLING. Its last 4,096 bits, oldest in bit 0. -/
  | channelRestore (ch : Fin 12) (bits : BitVec 4096)
  /-- MSYNC_RISE (R289): A rising MSYNC edge with MSYNC_EN resets all decimators together. -/
  | msyncRise
  /-- SETTLING_END (R288): A tap's settling time ends and its samples become valid. -/
  | settlingEnd
  /-- FADE_COMPLETE (R293): The cross-fade ends after F samples and the target bank is alone active. -/
  | fadeComplete
  /-- FLUME_SECOND_END (R300): Per-second power, RMS, angles and frequency are published with FLU_LIVE_SEQ.
  The modulators' bits of the samples since the last that came, 128 a sample, channel by channel (R282). -/
  | flumeSecondEnd (bits : List (List (Option (BitVec 128))))
  /-- ZERO_CROSSING (R305): A reference-phase crossing is detected and the crossings handed to Leat.
  The modulators' bits since the last that came. -/
  | zeroCrossing (phase : Fin 3) (bits : List (List (Option (BitVec 128))))
  /-- FLUME_INTERVAL_CLOSE (R303): At an interval boundary each point closes its record, hands anchor energy to the Weir and applies staged calibration and anchors.
  The channels whose calibration record fails its CRC, whether the active bank does, and the modulators' bits since the last that came. -/
  | flumeIntervalClose (badCal : List (Fin 12)) (badBank : Bool) (bits : List (List (Option (BitVec 128))))
  /-- WEIR_PART_ACCUMULATE (R153): An attributed part is added to its bank, close FIFO or history slot, or counted stale. -/
  | weirPartAccumulate
  /-- INTERVAL_END (R152): Fantail reaches E_N: N enters LATE, PARENT column written, node moves applied, slot retired. -/
  | intervalEnd
  /-- LATE_WINDOW_END (R152): E_N + LATE_WIN freezes bank N and starts the close. -/
  | lateWindowEnd
  /-- CLOSE_COMPLETE (R171): The close publishes residuals, scores and verdicts, clears the bank and applies the close FIFO. -/
  | closeComplete (us : U32) (again : U32) (bad : List (Fin 65536))
  /-- AFFINITY_TEST_END (R175): A test reaches AFF_N pairs or 2 × AFF_N s and is judged. -/
  | affinityTestEnd (idx : Idx)
  /-- PTP_MESSAGE_RECEIVED (R327): An Announce, Sync, Follow_Up or Delay_Resp is received on PTP_PORT.
  `frac`: the thirty-seconds of a tick into its TB period, here and below (R311). -/
  | ptpMessageReceived (port : Fin 2) (domain : Byte) (transport : Fin 3) (frac : Fin 32) (msg : PtpMsg)
  /-- DELAY_REQ_SEND (R327): A Delay_Req is sent every 2^DREQ_LOG s. -/
  | delayReqSend (frac : Fin 32)
  /-- PTP_TRANSPARENT_FORWARD (R330): A forwarded PTP event message receives a residence-time correction. -/
  | ptpTransparentForward (ingress : Fin 2) (frame : List Byte) (residence : Nat)
  /-- PPS_IN_EDGE (R331): A PPS_IN rising edge is stamped and used as a sample or counted missing. -/
  | ppsInEdge (frac : Fin 32)
  /-- SOURCE_LOST (R320): A source's timeout passes; a selected source is dropped and Fantail enters HOLDOVER. -/
  | sourceLost (src : Fin 3)
  /-- SWITCH_HOLD_ELAPSED (R321): A higher-priority source usable for SWITCH_HOLD is selected. -/
  | switchHoldElapsed
  /-- PPS_OUT_PULSE (R332): PPS_OUT rises at each whole second and falls after PPS_WIDTH. -/
  | ppsOutPulse
  /-- RTC_LOAD (R326): Once a second in SYNC the AON RTC is loaded from the time value. -/
  | rtcLoad
  /-- LEAP_SECOND_END (R319): At the end of a flagged UTC day the calendar applies the leap second. -/
  | leapSecondEnd
  /-- HOPPER_FETCH (R348): Hopper fetches due command packets of a pair by priority and starts them. -/
  | hopperFetch (pair : Fin 16) (packets : List Packet)
  /-- BIN_REPLY_WRITE (R352): A command's reply is written to its Bin slot, overwriting the oldest if full. -/
  | binReplyWrite (pair : Fin 16) (pick : Nat) (parityBad : Bool)
  /-- BIN_AGG_TIMER (R354): AGG_TIME after the oldest unsignalled reply the pair's vector is signalled. -/
  | binAggTimer (pair : Fin 16)
  /-- HOLDOFF_EXPIRY (R359): HOLDOFF ends and one message carries every cause held on the vector. -/
  | holdoffExpiry (vec : Fin 32)
  /-- QUEUE_FLUSH_BOUNDARY (R392): At the packet boundary the flush removes every earlier item. -/
  | queueFlushBoundary (qid : Fin 4)
  /-- QUEUE_SCRUB_VISIT (R390): The queue scrub checks words and marks poisoned items. -/
  | queueScrubVisit (qid : Fin 7) (bad : List (Nat × Nat))
  /-- QUEUE_STALL (R403): A fabric-consumed queue item older than 100 ms raises the stall event. -/
  | queueStall (qid : Fin 7)
  /-- FREEZE_TIMEOUT (R397): FREEZE_MAX expires, the freeze is released and the hold buffer appended. -/
  | freezeTimeout (bad : List (Fin 256))
  /-- NAND_PROGRAM_DONE (R417): A page program completes or fails, with retirement handling on failure. -/
  | nandProgramDone (ch : Bool) (what : ProgWhat) (block : Nat) (ok : Bool)
  /-- NAND_ERASE_DONE (R417): A block erase completes or fails and the block is retired. -/
  | nandEraseDone (ch : Bool) (block : Nat) (ok : Bool)
  /-- NAND_READ_DONE (R421): A page read completes and is checked against RW_THR or found uncorrectable. -/
  | nandReadDone (ch : Bool) (ppn : U32) (corr : Option Nat) (patrol : Bool)
  /-- JOURNAL_TIMER (R413): JOURNAL_MS passes and the journal buffer is written as a page. -/
  | journalTimer
  /-- ARC_FLUSH_TIMER (R418): ARC_FLUSH passes and open archive units are closed SHORT and programmed. -/
  | arcFlushTimer
  /-- PATROL_READ (R421): The patrol reads the next programmed page in its PATROL_DAYS cycle. -/
  | patrolRead (ch : Bool)
  /-- TARGET_NOT_READY (R409): A target fails to be ready within 50 ms three times and the channel becomes FAILED. -/
  | targetNotReady (ch : Bool) (target : Fin 8)
  /-- MOUNT_REBUILD_COMPLETE (R414): Anchor scan, journal replay and block scan finish and the channel is READY or READ_ONLY. `found` are the
  blocks the scan found a part-written page in, or for a first FORMAT the factory-marked ones; `media` is what the other twin has changed on CHK
  since this device last drove it, by PPN: a page it programmed, or none where it erased. -/
  | mountRebuildComplete (ch : Bool) (ms : Nat) (found : List Nat) (media : List (Nat × Option RawPage))
  /-- HMR_DMA_ERROR (R412): A PCIe error on a Host Map Region access ends its use. -/
  | hmrDmaError (page : Nat)
  /-- CHECKPOINT_COMPLETE (R425): The anchor with the commit record reads back correctly and the generation is complete. -/
  | checkpointComplete (ok : Bool)
  /-- CKPT_PERIOD_TIMER (R439): CKPT_PERIOD after the last start a checkpoint starts, or is skipped if one runs. -/
  | ckptPeriodTimer
  /-- BUS_IDLE (R435): Both claim lines high for LISTEN_US moves a listener to contend. -/
  | busIdle
  /-- CLAIM_ROUND_END (R432): A claim round ends in a win or loss, changing claim holding and groups. -/
  | claimRoundEnd (seen : Byte) (presence : Bool)
  /-- CLAIM_LINE_FAULT (R433): A line fault releases groups, zeroes the claim and enters the safe state. -/
  | claimLineFault (cause : Fin 4) (slot : Fin 10)
  /-- CLAIM_WATCHER_FIRE (R436): Four AON periods without round activity fire the watcher and wake the standby. -/
  | claimWatcherFire (oneLine : Bool)
  /-- RESTORE_COMPLETE (R441): The checkpoint restore finishes and the device raises ACTIVE_LEVEL and ends QUIET. -/
  | restoreComplete (newestOk : Bool) (prevOk : Bool)
  /-- PROOF_TIMER (R444): PROOF_PERIOD in STANDBY wakes the standby for proof tests. -/
  | proofTimer
  /-- PEER_SILENT (R444): BRK_PEER_S exceeds PEER_SILENT and the peer-silent event is raised. -/
  | peerSilent
  /-- TOKEN_LOCKOUT_END (R453): The 60 s refusal after eight token rejections ends. -/
  | tokenLockoutEnd
  /-- DEBUG_LIMIT_EXPIRY (R467): A debug session's LIMIT elapses and the session ends. -/
  | debugLimitExpiry
  /-- COMPARATOR_SELF_CHECK (R483): Each second a differing pair is injected into each comparator. -/
  | comparatorSelfCheck (stuck : BitVec 5) (again : BitVec 5) (gap : BitVec 5)
  /-- TB_RATE_CHECK (R476): Each second TB cycles over 32,768 AON periods are compared with TB_TOL. -/
  | tbRateCheck (cycles : U32)
  /-- TB_MONITOR_STOP (R475): The AON monitor finds the TB clock stopped and enters the safe state. -/
  | tbMonitorStop
  /-- HEARTBEAT_MISS (R475): A control core misses its heartbeat and is restarted once or frozen. -/
  | heartbeatMiss (core : Fin 4) (restarted : Bool)
  /-- BANK_ROTATION (R482): Every 2 s a Ledger bank is copied to the mirror, march-tested and restored. -/
  | bankRotation (bad : Option U32) (again : Option U32)
  /-- SAFE_NFAULT_READBACK (R475): A disagreement between driven and read SAFE_nFAULT level is retried and latched. -/
  | safeNfaultReadback (read : Bool) (again : Bool)
  /-- SAFE_STATE_CLAIM_DROP (R480): Once transmitters are idle or at t0 + 8 ms the claim drops to zero and groups release. -/
  | safeStateClaimDrop
  /-- LOADER_CHUNK_DONE (R518): A 64 KiB copy chunk is written, compared and journalled, advancing the update phase. -/
  | loaderChunkDone (ok : Bool)
  /-- HEALTH_CONFIRM (R520): 300 s of health within the window confirms the trial firmware and burns the SVN. -/
  | healthConfirm
  /-- TRIAL_WINDOW_EXPIRY (R521): The 900 s window passes unconfirmed, journalling a revert and resetting. -/
  | trialWindowExpiry
  /-- TRIAL_TIMER_RESET (R521): The AON trial timer forces a SYSTEM reset at 960 s from READY. -/
  | trialTimerReset
  /-- STAGING_LOCK_IDLE (R515): 60 s without a message from the owning entry releases the staging lock. -/
  | stagingLockIdle
  /-- AFE_SYNC_LOCK (R215): After 64 consecutive SDI words with correct SYNC a PLC receive lane becomes locked. -/
  | afeSyncLock (port : Fin 4) (words : List (BitVec 20))
  /-- BKP_ACTIVE_FALL (R516): BKP_ACTIVE falling clears PWR_STATUS.BKP and ends the ON_BACKUP refusal of updates. -/
  | bkpActiveFall
  /-- TILT_RELEASE (R516): TILTn returning high ends the MOVING condition that refuses updates. -/
  | tiltRelease
  /-- SAFE_STATE_DRILL_END (R485): After ARG ms the safe-state drill releases SAFE_nFAULT, checks the readback and completes SELF_TEST 6. -/
  | safeStateDrillEnd (pass : Bool)
  /-- PTP_FRAME_EGRESS (R328): A host PTP frame leaves the pin, its one-step originTimestamp is written or its two-step stamp is queued, and PTP_TRANSMIT completes OK. -/
  | ptpFrameEgress (port : Fin 2) (frac : Fin 32)
  /-- DMA_TRANSFER_COMPLETION (R351): A PCIe DMA request's completion, error or timeout returns, finishing a fetch or scatter-list transfer or faulting the pair with DMA_FAULT or POISONED. -/
  | dmaTransferCompletion (pair : Fin 16) (what : DmaWhat) (result : DmaResult)
  /-- SRAM_SCRUB (R475): The 10 s scrub of every SRAM corrects errors and declares uncorrectable words, such as a recorder memory failure. -/
  | sramScrub (found : List ScrubFind)
  /-- RAMP_END (R207): The admission ramp ends after 7 × RAMP_STEP, clearing RAMP and raising the ramp-end event. -/
  | rampEnd
  /-- USB_ATTACH (R510): VBUS rising on SVC_VBUS attaches the USB entry of the Service Port for messages and debug. -/
  | usbAttach
  /-- SUPPLY_LOSS (R502): PORn falls or supplies are lost, releasing the claim by the clamps, losing DRAM and in-flight work, and clearing the RTC and last-gasp bank if VDD_AON goes. -/
  | supplyLoss (aon : Bool)
  deriving DecidableEq, Repr

end Sys2Proof
end

