-- ==== Sys2Proof/Decode.lean ====
section
/-! DEFINITION. The command a table word spells. The operations table of the CZ7810 gives no row any bits: its commands are register
accesses, packets, messages and events, so no word spells one. -/

namespace Sys2Proof

/-- No row of the table has bits, so no word is a command. -/
def decodeTableWord (_nbits _w : Nat) : Option Instr := none

end Sys2Proof
end

