-- ==== Sys2Proof/Machine/State.lean ====
section
/-! DEFINITION. The state of the block: every register, queue, table, buffer, mode and pin the spec gives it. -/

namespace Sys2Proof.Machine

/-- A sparse table: keys strictly rising, no entry equal to what an unlisted key reads as. -/
abbrev Tab (α : Type) := List (Nat × α)

/-- What stops a step with a fault: nothing does. Every command of this block has a next state in every state, so the type has no
constructor. Safe: no run of the model ends where the block's goes on. -/
inductive Fault where
  deriving DecidableEq, Repr

/-- Who refuses a command. -/
inductive Refusal where
  /-- A command whose meaning is not written yet. Safe: nothing is claimed about it. -/
  | notModelled (mnemonic : String)
  /-- DEBUG_ACCESS in a level-3 session for boundary scan, memory BIST or a test mode: R466 names the access and
  gives it no effect. Safe: nothing is claimed about it. -/
  | testAccess
  deriving DecidableEq, Repr

/-- The status codes of R361, in their numeric order. -/
inductive Status where
  | ok | busy | badParam | unknownOpcode | refusedState | notFound | existing | noSpace | notReady | poweredDown
  | dmaFault | poisoned | timeJumpRefused | mediaExhausted | denied | verifyFailed
  deriving DecidableEq, Repr

/-! ### Hopper, Bin and MSI-X -/

/-- A reply waiting to be written to its Bin slot (R352). -/
structure Reply where
  status : Status := .ok
  result : Nat := 0
  xdone : Nat := 0
  deriving DecidableEq, Repr

/-- A fetched packet whose reply is not yet written (R345 INFLIGHT): a number no other fetch has had, and what the device copied of it
(R348): TAG, OPCODE, FENCE, PARAM, XLEN. With it the answer of its form checks (R350, R351), its reply once it has one, whether it has
started and replies later, the bytes its transfer has moved by then, the outcome of its own transfer when that failed (R351), and the
host buffers an "out" transfer is to write: address and bytes. -/
structure Inflight where
  serial : Nat := 0
  tag : U16 := 0
  opcode : Nat := 0
  fence : Bool := false
  par : List Byte := []
  xlen : Nat := 0
  bad : Option Status := none
  reply : Option Reply := none
  started : Bool := false
  moved : Nat := 0
  xfault : Option Status := none
  writes : List (Nat × Nat) := []
  deriving DecidableEq, Repr

/-- HOP_QP_STATUS.STATE (R345). -/
inductive PairSt where
  | disabled | enabled | draining | faulted
  deriving DecidableEq, Repr

/-- One queue pair (R345, R346). -/
structure QPair where
  en : Bool := false
  prio : Nat := 0
  vector : Nat := 0
  ien : Bool := false
  st : PairSt := .disabled
  hqBase : Nat := 0
  bqBase : Nat := 0
  size : Nat := 0x44
  agg : Nat := 0
  hqHead : Nat := 0
  hqTail : Nat := 0
  bqTail : Nat := 0
  /-- Replies written and not yet released: the distance from the device's head view to BQ_TAIL. -/
  unreleased : Nat := 0
  /-- The BSEQ the next reply gets. -/
  bseq : Nat := 1
  /-- Replies written since the last signal, and the tick of the oldest of them. -/
  unsig : Nat := 0
  unsigAt : Nat := 0
  cause : Nat := 0
  inflight : List Inflight := []
  deriving DecidableEq, Repr

/-- What the host has written in the function's configuration space (R336, R337): bus-master and memory enables, the BARs' bases, MSI-X
Enable and Function Mask, Max_Payload_Size and Max_Read_Request_Size codes, and the uncorrectable errors Advanced Error Reporting holds.
PRESUMED: log entry 20. -/
structure PcieRegs where
  command : Nat := 0
  bars : Vector Nat 3 := #v[0, 0, 0]
  msixEn : Bool := false
  funcMask : Bool := false
  mps : Nat := 0
  mrrs : Nat := 2
  aerUnc : Nat := 0
  deriving DecidableEq, Repr

/-- The HOP block beyond its pairs: the PCIe function's power state (R338), the pair served last in each PRIO class (R349; 15 where none
has been), the number of the last packet fetched, and the configuration registers. -/
structure HopState where
  pairs : Tab QPair := []
  d3hot : Bool := false
  pcie : PcieRegs := {}
  lastServed : Tab Nat := []
  serial : Nat := 0
  deriving DecidableEq, Repr

/-- The EVT block (R358) and the MSI-X table. -/
structure EvtState where
  /-- EVT_ROUTE words that differ from reset, by source. -/
  route : Tab Nat := []
  pend : BitVec 128 := 0
  /-- EVT_VEC_MOD holdoffs, µs, by vector. -/
  holdoff : Tab Nat := []
  /-- MSI-X table dwords (address low, address high, data), by byte offset. -/
  msix : Tab Nat := []
  /-- Vectors whose mask bit is clear (PCIe: the mask bit is 1 at reset). -/
  unmasked : BitVec 32 := 0
  /-- Vectors that owe a message withheld by holdoff or a mask (R359). -/
  owed : BitVec 32 := 0
  /-- Tick of the last message on each vector, plus one. -/
  lastMsg : Tab Nat := []
  deriving DecidableEq, Repr

/-! ### Event Recorder and internal queues -/

/-- One event record (R393); CODE fixes PLANE (R542). -/
structure Rec where
  code : Nat := 0
  supp : Nat := 0
  step : Bool := false
  lg : Bool := false
  seq : Nat := 0
  cal : Nat := 0
  p0 : Nat := 0
  p1 : Nat := 0
  p2 : Nat := 0
  p3 : Nat := 0
  deriving DecidableEq, Repr

/-- A code's token bucket (R396): tokens taken and not regained, the tick the bucket last fell below its depth,
tokens regained since then, and the records withheld since the last stored one. -/
structure Bucket where
  used : Nat := 0
  since : Nat := 0
  regained : Nat := 0
  supp : Nat := 0
  deriving DecidableEq, Repr

/-- The Event Recorder (R394–R401). -/
structure LogState where
  /-- Records in memory, newest first. -/
  mem : List Rec := []
  nextSeq : Nat := 1
  oldest : Nat := 1
  newest : Nat := 0
  full : Bool := false
  failed : Bool := false
  highWater : Bool := false
  /-- Standing snapshot bound (R397). -/
  snap : Option Nat := none
  /-- Tick at which a standing freeze began or was renewed. -/
  freeze : Option Nat := none
  freezeBound : Nat := 0
  buckets : Tab Bucket := []
  /-- The next stored record is the first after a forced step (R393 STEP). -/
  stepMark : Bool := false
  /-- Sequence numbers whose stored words no longer read back (R398). -/
  badWords : List Nat := []
  /-- The last-gasp bank, oldest first (R399, AON). -/
  bank : List Rec := []
  lgSticky : Bool := false
  deriving DecidableEq, Repr

/-- A job of the Vane relay queue (R202): its own copy of the frame, the index, SEQ and TAGH of its seen-cache entry, and its relay
time in ticks. -/
structure RelayJob where
  frame : List Byte := []
  idx : Nat := 0
  seq : Nat := 0
  tagh : Nat := 0
  due : Nat := 0
  deriving DecidableEq, Repr

/-- An attributed part of a delta on its way to the accumulation unit (R143–R145, R153). -/
structure Part where
  interval : Nat := 0
  idx : Nat := 0
  leg : Nat := 0x3FFFF
  net : Int := 0
  reporter : Bool := false
  est : Bool := false
  outage : Bool := false
  deriving DecidableEq, Repr

/-- What an internal queue item holds. -/
inductive QBody where
  | bytes (b : List Byte)
  | rcd (r : Rec)
  | job (j : RelayJob)
  | part (p : Part)
  deriving DecidableEq, Repr

/-- An item of an internal queue: its body, its poison tag (R390) and the tick of its push. -/
structure QItem where
  body : QBody
  poison : Bool := false
  born : Nat := 0
  deriving DecidableEq, Repr

/-- The internal queues (R387), by QID, oldest item first, with the flush and high-water marks. -/
structure QueueState where
  q : Tab (List QItem) := []
  hwm : Tab Nat := []
  /-- Queues whose high-water event has been raised and not re-armed (R403). -/
  hwRaised : List Nat := []
  /-- Flushes requested and waiting for their boundary: QID, and the pair and packet number of the command (R392). -/
  flush : List (Nat × Nat × Nat) := []
  poisonLast : Nat := 0
  deriving DecidableEq, Repr

/-! ### Fantail -/

/-- FAN_STATUS.STATE (R323). -/
inductive FanSt where
  | unset | acquire | sync | holdover
  deriving DecidableEq, Repr

/-- A PTP master heard in Announce messages (R327): its port identity, the values BMCA ranks it by (lower is better),
its grandmaster, and when and how often it announces. -/
structure Master where
  port : Nat := 0
  rank : List Nat := []
  gm : Nat := 0
  lastAt : Nat := 0
  period : Nat := 0
  /-- Tick of the Announce message before the last. -/
  before : Option Nat := Option.none
  deriving DecidableEq, Repr

/-- A host PTP frame handed to its pin and not yet gone (R328): the command's pair and packet number, the Ethernet port, two-step or
one-step, the identifier, the frame. -/
structure PtpOut where
  job : Nat × Nat
  port : Nat
  twoStep : Bool
  id : Nat
  frame : List Byte
  deriving DecidableEq, Repr

/-- Fantail (R311–R334). Times kept exactly are in units of 2⁻⁴¹ ns ("fix"). -/
structure FanState where
  /-- Tick at which the TB domain started: the counter is the ticks since, modulo 2⁴⁸ (R311). -/
  tbStart : Nat := 0
  baseFix : Nat := 0
  baseRaw : Nat := 0
  rate : Int := 0
  freq : Int := 0
  st : FanSt := .unset
  /-- The selected source and the source reported (R320, R323). -/
  sel : Nat := 7
  rep : Nat := 7
  ptpUsable : Bool := false
  ppsUsable : Bool := false
  /-- Sources marked disagreeing (R324). -/
  disagree : List Nat := []
  /-- Consecutive refused samples, by source. -/
  refused : Tab Nat := []
  /-- Origins whose last refusal no acceptance has followed; sources whose jump-refused event was raised. -/
  refStanding : List Nat := []
  refRaised : List Nat := []
  lockRun : Nat := 0
  unlockRun : Nat := 0
  /-- The last accepted sample: source (4: a TIME_SET), e (ns), time value (fix); the integral of RATE over the
  time value since, and the time value up to which it is taken (R322). -/
  lastAcc : Option (Nat × Int × Nat) := none
  rateSum : Int := 0
  rateAt : Nat := 0
  lastErr : Int := 0
  /-- Latest error of each source, plus presence (R325). -/
  srcErr : Tab (Option Int) := []
  /-- The initial step after the RTC seed is still allowed (R323, R325). -/
  initStep : Bool := false
  /-- Tick since which each source has been usable, plus one (R321), and the source at the last entry to SYNC. -/
  upAt : Tab Nat := []
  syncSrc : Nat := 7
  utcOfs : Nat := 37
  leap61 : Bool := false
  leap59 : Bool := false
  /-- The UTC seconds count at the end of the flagged day. -/
  leapAt : Nat := 0
  fromPtp : Bool := false
  masters : List Master := []
  master : Option Nat := none
  gm : Nat := 0
  /-- The open PTP exchange (R327): Sync sequence, t1 and t2; Delay_Req sequence and t3; all in ns. -/
  syncSeq : Option Nat := none
  t1 : Option Int := none
  t2 : Option Int := none
  dreq : Option (Nat × Int) := none
  dreqAt : Nat := 0
  dreqSeq : Nat := 0
  syncPeriod : Nat := 400000000
  exchAt : Option Nat := none
  ppsLast : Option Nat := none
  ppsRun : Nat := 0
  ppsMissRun : Nat := 0
  ppsOut : Bool := false
  /-- Tick of the last PPS_OUT rising edge, and the PPS_WIDTH it rose with, in TB periods. -/
  ppsRose : Option Nat := none
  ppsWidth : Nat := 0
  snapSec : Nat := 0
  snapNsec : Nat := 0
  snapStamp : Nat := 0
  snapRaw : Nat := 0
  ptpOut : List PtpOut := []
  /-- Ticks of the stamps lost in the last second (R335). -/
  txLost : List Nat := []
  deriving DecidableEq, Repr

/-! ### Power, reset and the DEV block -/

/-- The power states, in the order POWER_STATE codes them (R384, R490). -/
inductive PState where
  | run | trim | doze | hush | off
  deriving DecidableEq, Repr

/-- A wake sequence, or step 2 of a start-up (R496, R498, R503): the tick of its latched event, attempts that have failed, the
tick the present attempt began or the last one failed, and whether the next attempt is awaited. -/
structure Waking where
  since : Nat
  tries : Nat := 0
  at_ : Nat
  pause : Bool := false
  deriving DecidableEq, Repr

/-- Power, pins and the AON domain (R490–R506). -/
structure PwrState where
  st : PState := .run
  /-- The state the last start came from. -/
  startFrom : PState := .run
  /-- The state DOZE was entered from. -/
  dozeFrom : PState := .run
  pwrEn : Nat := 0xF
  pgCore : Bool := true
  bkp : Bool := false
  quiet : Bool := true
  wakeFail : Bool := false
  /-- A running entry sequence: its target, the step it is at (R492), the tick it began, and whether it is the
  standby's (steps 6–7 only). -/
  entry : Option (PState × Nat × Nat × Bool) := none
  /-- Wake causes held until an entry sequence ends (R492). -/
  heldWake : Nat := 0
  wakeCause : Nat := 0
  wakeAttempts : Nat := 0
  wakeOk : Bool := false
  wakeFrom : Nat := 0
  /-- The wake or start-up sequence in progress; with STATE in RUN it is a start-up's. -/
  waking : Option Waking := none
  mgmtAddr : Nat := 0x5A
  wakeSrc : Nat := 7
  resetCause : Nat := 1
  entryMs : Nat := 0
  wakeUs : Nat := 0
  quietMs : Nat := 0
  /-- Tick at which the present or last QUIET began. -/
  quietAt : Nat := 0
  /-- The AON RTC (R326): its value in 2⁻¹⁵ s at a tick. -/
  rtcBase : Nat := 0
  rtcAt : Nat := 0
  rtcValid : Bool := false
  /-- The tick of the last DOZE entry, and the time value (ns) then (R335). -/
  dozeAt : Nat := 0
  dozeNs : Nat := 0
  /-- SAFE_nFAULT driven low by a wake failure (R498). -/
  wakeFault : Bool := false
  /-- SAFE_STATUS.FIRST as last copied in RUN (R500). -/
  safeFirst : Nat := 0
  /-- The supply holds PORn high (POWER_ON seen since the last SUPPLY_LOSS). -/
  on : Bool := false
  deriving DecidableEq, Repr

/-- The DEV block (R344, R34), the clock monitors (R31) and PACE (R24–R27). -/
structure DevState where
  ready : Bool := false
  quiet : Bool := false
  fwVer : Nat := 0
  loaderVer : Nat := 0
  scratch : Nat := 0
  accStatus : Nat := 0
  accBus : Nat := 0
  accValid : Bool := false
  accAddr : Nat := 0
  /-- Domains declared unclocked (R31). -/
  unclocked : List Dom := []
  paceWindow : Nat := 2
  paceEn : Bool := true
  paceSeq : Nat := 0
  paceSpeed : Nat := 0
  paceMin : Nat := 0xFFFF
  paceFloor : Nat := 0x10C
  /-- The margin event may be raised again (R26), and the tick since which the speed has held the floor. -/
  paceArmed : Bool := true
  paceOkAt : Option Nat := none
  paceAt : Nat := 0
  /-- Verdicts and Ledger hand-overs of each lane: the running window and the last complete one. -/
  verdRun : Tab Nat := []
  doneRun : Tab Nat := []
  verd : Tab Nat := []
  doneW : Tab Nat := []
  deriving DecidableEq, Repr

/-! ### Endpoint Ledger and Topology Node Table -/

/-- STATE of a Ledger entry (R50), in code order. -/
inductive EState where
  | free | registered | present | absent | blocked
  deriving DecidableEq, Repr

/-- A hot entry (R49–R52); every field at its reset value in a FREE entry that was never bound. -/
structure Entry where
  state : EState := .free
  kind : BitVec 2 := 0
  key256 : Bool := false
  keyGen : BitVec 2 := 0
  pend : BitVec 4 := 0
  bindGen : BitVec 8 := 0
  moveProp : Bool := false
  resync : Bool := false
  baseline : Bool := false
  lastSeq : U32 := 0
  seqMap : U32 := 0
  lastHeard : U32 := 0
  leg : BitVec 18 := 0x3FFFF
  phase : BitVec 3 := 0
  path : BitVec 3 := 0
  port : BitVec 3 := 0
  hops : BitVec 4 := 0
  impWh : U32 := 0
  expWh : U32 := 0
  euiTag : U16 := 0
  anom : Byte := 0
  intTag : Byte := 0
  deriving DecidableEq, Repr

/-- A cold record (R66): the device area, and the bytes of the host area that are not zero, by offset. -/
structure Cold where
  eui : Nat := 0
  bindTime : Nat := 0
  bindGen : Nat := 0
  kind : Nat := 0
  key256 : Bool := false
  keyGen : Nat := 0
  blocked : Bool := false
  leg : Nat := 0
  seqFloor : Nat := 0
  firstHeard : Nat := 0
  nAccept : Nat := 0
  nDup : Nat := 0
  nReplay : Nat := 0
  nAuth : Nat := 0
  nBolter : Nat := 0
  tariffVer : Nat := 0
  setpointSeq : Nat := 0
  lastReading : List Nat := []
  host : Tab Nat := []
  deriving DecidableEq, Repr

/-- A node header (R74). `defined` says the node has been activated once, so LEVEL reads its code. -/
structure Node where
  defined : Bool := false
  active : Bool := false
  frozen : Bool := false
  anchor : Bool := false
  parent : Nat := 0
  gen : BitVec 8 := 0
  children : Nat := 0
  phaseRef : BitVec 2 := 0
  invert : Bool := false
  deriving DecidableEq, Repr

/-- A record of the pending node-move list (R77). -/
structure NodeMv where
  lvl : Nat
  num : Nat
  newParent : Nat
  oldParent : Nat
  deriving DecidableEq, Repr

/-- An entry of the stranger holdoff filter (R70): the EUI-64 or the named index, the tick of its last record, and the
records withheld since. -/
structure Holdoff where
  byIndex : Bool := false
  key : Nat := 0
  at_ : Nat := 0
  count : Nat := 0
  deriving DecidableEq, Repr

/-- The Endpoint Ledger, the reverse map, the cold region, the tree and the stranger filter (R44–R83). -/
structure LedgerState where
  entries : Tab Entry := []
  /-- Entries whose stored words carry an uncorrectable error not yet rebuilt (R62). -/
  poisoned : List Nat := []
  /-- The reverse map (R47): EUI-64 to index. -/
  rev : Tab (Option Nat) := []
  cold : Tab (Option Cold) := []
  nodes : Tab Node := []
  moves : List NodeMv := []
  topoGen : BitVec 32 := 0
  holdoff : List Holdoff := []
  sweep : BitVec 32 := 0
  sweepAt : Nat := 0
  rebuilt : Nat := 0
  wrDrop : Nat := 0
  /-- Indices rebuilt as FREE whose walks have not ended (R64). -/
  walking : List Nat := []
  /-- Fitted DRAM, MiB, as the memory controller read it (R541). -/
  dramMiB : Nat := 4096
  deriving DecidableEq, Repr

/-! ### Millrace, Headrace and export -/

/-- Where a frame's acknowledgement would go (R97, R115): nowhere (PCIe relay), the radio port's PPDU, the PLC slot whose
RESPONSE carried it, or a gateway's address and port. -/
inductive Return where
  | none
  | radio (port : Nat) (ppdu : Nat) (ackable : Bool) (endAt : Nat)
  | plc (port : Nat) (slot : Nat)
  | gateway (eth : Nat) (addr : Nat) (udp : Nat) (gwId : Nat)
  deriving DecidableEq, Repr

/-- A frame on its way through a lane (R84, R93): the GRF, its descriptor, and what the stages so far have added. -/
structure Frame where
  bytes : List Byte := []
  path : Nat := 0
  port : Nat := 0
  hops : Nat := 0
  /-- Time value of the receive stamp, ns. -/
  rxNs : Nat := 0
  rssi : Byte := 0x80
  /-- EUI-64 form: the index, BIND_GEN and EUI_TAG resolved (R47), or nothing on a miss. -/
  res : Option (Nat × Nat × Nat) := Option.none
  ret : Return := .none
  /-- GW_ID of a gateway's or the host's datagram. -/
  gw : Option Nat := Option.none
  /-- Heard as a radio broadcast. -/
  bcast : Bool := false
  /-- Index and BIND_GEN that travel with the frame after the Sluice (R105). -/
  idx : Nat := 0
  bindGen : Nat := 0
  /-- Plaintext, once Quern has verified the tag. -/
  plain : Option (List Byte) := Option.none
  /-- Lowest-numbered stateless Bolter rule the frame breaks; 0 none. -/
  rule : Nat := 0
  deriving DecidableEq, Repr

/-- A lane's buffers (R84, R99, R112, R118): frames waiting for a verdict, frames whose verdict waits with its insertion, frames
in Quern, parked on a key, in the Bolter, and before the Ledger update; oldest first. -/
structure Lane where
  input : List Frame := []
  insWait : List Frame := []
  quern : List Frame := []
  park : List Frame := []
  bolter : List Frame := []
  update : List Frame := []
  deriving DecidableEq, Repr

/-- STATE of a seen-cache entry in use (R109). -/
inductive ScSt where
  | inFlight | closedAck | closedSilent
  deriving DecidableEq, Repr

/-- A seen-cache entry in use (R109), with the way it holds in its set and the copies held for its closing (R115). -/
structure Seen where
  idx : Nat
  seq : Nat
  tagh : Nat
  st : ScSt := .inFlight
  loc : Bool := false
  born : Nat := 0
  vane : Nat := 0
  paths : Nat := 0
  copies : Nat := 1
  way : Nat := 0
  held : List Frame := []
  deriving DecidableEq, Repr

/-- A gateway-table entry (R94), the source of its last datagram (R258) and its GW_SEQ counter (R97). -/
structure Gw where
  set : Bool := false
  af : Nat := 0
  addr : Nat := 0
  seen : Bool := false
  eth : Nat := 0
  udp : Nat := 0
  gwSeq : Nat := 0
  deriving DecidableEq, Repr

/-- A datagram in the staging ring (R96): where it came from and its frame blocks. -/
structure Staged where
  gwId : Nat
  pcie : Bool
  eth : Nat
  addr : Nat
  udp : Nat
  rxNs : Nat
  payload : List Byte
  deriving DecidableEq, Repr

/-- An acknowledgement datagram being gathered (R97): where it goes, the tick of its first entry, its entries. -/
structure GwAck where
  eth : Nat
  addr : Nat
  udp : Nat
  gwId : Nat
  since : Nat
  entries : List (List Byte)
  deriving DecidableEq, Repr

/-- A batch in the export ring (R132): its datagram as first sent, its marks. -/
structure Batch where
  seq : Nat
  bytes : List Byte
  unkeyed : Bool
  sent : Bool := false
  deriving DecidableEq, Repr

/-- The open batch (R129): its BATCH_SEQ, its open time (ns) and the tick of it, the export key it is to be tagged with, empty for
none (R43, R456), its records. -/
structure OpenBatch where
  seq : Nat
  openNs : Nat
  openAt : Nat
  key : List Byte
  recs : List (List Byte)
  deriving DecidableEq, Repr

/-- One device-wide counter under a reserve (R131): its next value, its ceiling, whether the record of the present
start is still to be appended, whether its users stand stopped, and what was not sent meanwhile. -/
structure Reserve where
  val : Nat := 0
  ceil : Nat := 0
  startDue : Bool := true
  stopped : Bool := false
  notSent : Nat := 0
  deriving DecidableEq, Repr

/-- Millrace, Headrace and export (R84–R138). -/
structure IngState where
  lanes : Tab Lane := []
  run : BitVec 4 := 0xF
  cmp : BitVec 4 := 0
  wdog : BitVec 4 := 0
  cmd : BitVec 4 := 0
  /-- The lane-map input: the running set when the map was last computed (R100, R101). -/
  mapRun : BitVec 4 := 0xF
  level : Nat := 0
  seen : List Seen := []
  /-- Displacements before WINDOW of the last second: tick and age in ms, newest first (R113). -/
  displ : List (Nat × Nat) := []
  pressureAt : Option Nat := Option.none
  gws : Tab Gw := []
  staging : List Staged := []
  /-- Ticks of the datagrams dropped at a full staging ring in the last second (R138). -/
  ovf : List Nat := []
  /-- Headrace accepts datagrams (R503 step 5, R492 step 3). -/
  hrOpen : Bool := false
  gwAcks : List GwAck := []
  batch : Option OpenBatch := Option.none
  ring : List Batch := []
  lost : Nat := 0
  lastNack : Nat := 0
  paused : Bool := false
  /-- Head end: address family, address, port. -/
  headEnd : Option (Nat × Nat × Nat) := Option.none
  reserves : Tab Reserve := []
  /-- The COUNTERS area of the image store (R131, R508): its 8,192 record places, none listed where erased; the place the next record
  takes; and the record number of the last one. -/
  counters : Tab (List Byte) := []
  cntPos : Nat := 0
  recNo : Nat := 0
  /-- Slots whose key failed its unwrap check (R118). -/
  unwrapBad : List Nat := []
  deriving DecidableEq, Repr

/-! ### The Weir -/

/-- One accumulator bank of a node or check meter (R147, R161). -/
structure WBank where
  net : Int := 0
  rep : Nat := 0
  est : Bool := false
  outage : Bool := false
  moved : Bool := false
  sat : Bool := false
  /-- In a check meter's bank: a part has come in (R161). -/
  got : Bool := false
  deriving DecidableEq, Repr

/-- VERDICT (R147), in code order. -/
inductive Verdict where
  | none | nodeLoss | nodeSurplus | theftSuspect
  deriving DecidableEq, Repr

/-- The Weir area of a node (R147–R149). -/
structure WNode where
  bankA : WBank := {}
  bankB : WBank := {}
  meas : Int := 0
  resid : Int := 0
  loss : Nat := 0
  rep : Nat := 0
  eps : Nat := 0
  lclass : Nat := 0
  scorePos : Nat := 0
  scoreNeg : Nat := 0
  verdict : Verdict := .none
  /-- MEASURED of a leg or transformer; a feeder's or station's is its header's ANCHOR (R149). -/
  measured : Bool := false
  susp : Nat := 0
  deriving DecidableEq, Repr

/-- A node record of a history slot (R158). `q` is the clamped q of R166 while the interval is scored and unpaired. -/
structure SRec where
  /-- The node was active at the close; the record of any other carries zeros. -/
  active : Bool := false
  measured : Bool := false
  scored : Bool := false
  est : Bool := false
  outage : Bool := false
  moved : Bool := false
  pair : Bool := false
  sat : Bool := false
  /-- The node's own NET is in doubt (R166): own bank saturated, or the sum check of R171 failed. -/
  doubt : Bool := false
  measBad : Bool := false
  frozen : Bool := false
  start : Bool := false
  timeStep : Bool := false
  scorePos : Nat := 0
  scoreNeg : Nat := 0
  cov : Nat := 0
  verdict : Verdict := .none
  rev : Nat := 0
  net : Int := 0
  meas : Int := 0
  resid : Int := 0
  loss : Nat := 0
  rep : Nat := 0
  eps : Nat := 0
  q : Option Int := Option.none
  deriving DecidableEq, Repr

/-- A history slot (R156–R158): its header, the PARENT column taken at E_N, its node records, and what late parts have
done to it since its last issue. -/
structure Slot where
  interval : Nat := 0
  intLen : Nat := 900
  rev : Nat := 0
  start : Bool := false
  timeStep : Bool := false
  closed : Bool := false
  closeS : Nat := 0
  closeUs : Nat := 0
  parts : Nat := 0
  lateParts : Nat := 0
  staleWh : Int := 0
  topoGen : Nat := 0
  parents : Tab Nat := []
  /-- Feeders and stations whose ANCHOR bit stood at E_N before the boundary's changes, as node keys (R160). -/
  anchored : List Nat := []
  recs : Tab SRec := []
  dirty : Bool := false
  lateEnergy : Nat := 0
  /-- Sibling pairs of the last issue, as node keys (R167). -/
  pairs : List (Nat × Nat) := []
  deriving DecidableEq, Repr

/-- A check-meter entry (R161): its node, the first interval it measures, the last one after its removal, two banks. -/
structure CheckM where
  idx : Nat := 0
  lvl : Nat := 0
  num : Nat := 0
  first : Nat := 0
  last : Option Nat := Option.none
  bankA : WBank := {}
  bankB : WBank := {}
  deriving DecidableEq, Repr

/-- A loss-class entry (R162). -/
structure LossClass where
  p0 : Nat := 0
  k1 : Nat := 0
  k2 : Nat := 0
  tolFix : Nat := 100
  tolPpm : Nat := 10000
  deriving DecidableEq, Repr

/-- Anchor energy delivered by Flume for one interval (R160, R303): Wh, with PLAUS: 0 OK, 1 MISSING, 2 IMPLAUSIBLE. -/
structure AnchorE where
  interval : Nat
  lvl : Nat
  num : Nat
  wh : Int
  plaus : Nat
  deriving DecidableEq, Repr

/-- A candidate of a voltage-correlation test (R174): a phase 1–3 or a leg with its reference endpoints. -/
structure Cand where
  key : Nat := 0
  refs : List Nat := []
  deriving DecidableEq, Repr

/-- A voltage-correlation test slot in use (R174, R175): FEEDER or NEIGHBOUR mode, whether the host commanded it,
its candidates, its start (seconds), its own samples and its reference samples. -/
structure AffTest where
  idx : Nat
  feeder : Bool
  commanded : Bool
  cands : List Cand
  startS : Nat
  /-- Samples (second, mV), oldest first. -/
  own : List (Nat × Int) := []
  /-- Reference samples (candidate position, reference, second, mV). -/
  refs : List (Nat × Nat × Nat × Int) := []
  deriving DecidableEq, Repr

/-- The Weir (R139–R179). -/
structure WeirState where
  en : Bool := false
  /-- The cell of the INT_LEN grid in which the last boundary left the device (R77). -/
  grid : Nat := 0
  openIv : Option Nat := Option.none
  openStart : Bool := false
  openStep : Bool := false
  openParts : Nat := 0
  openStale : Int := 0
  /-- The interval in LATE, and the one in CLOSING (R152). -/
  late : Option Nat := Option.none
  closing : Option Nat := Option.none
  lastClosed : Option Nat := Option.none
  slots : List Slot := []
  nodes : Tab WNode := []
  /-- Parts on their way to the accumulation unit (R144). -/
  parts : List Part := []
  checks : List CheckM := []
  anchors : List AnchorE := []
  classes : Tab LossClass := []
  /-- Class table and parameters as the running close read them (R162, R177). -/
  frzClasses : Tab LossClass := []
  frzCfg : Tab Int := []
  suppress : List (Nat × Nat × Nat) := []
  tests : List AffTest := []
  survey : Nat := 0
  closeUs : Nat := 0
  closeMax : Nat := 0
  overrun : Bool := false
  deriving DecidableEq, Repr

/-! ### Vane -/

/-- One SPI transaction of a script (SCRIPT_LOAD, R375): its bytes, which MISO byte it checks (0 none) and against what. -/
structure SpiTx where
  len : Nat
  chk : Nat
  exp : Nat
  bytes : List Byte
  deriving DecidableEq, Repr

/-- A frame a radio port is to send (R196): its priority and bytes (a Tailrace frame's MAC payload; the whole MAC frame, without
FCS, of any other), the Tailrace item, relay, beacon or acknowledgement it is. -/
structure TxFrame where
  prio : Nat := 5
  bytes : List Byte := []
  /-- Index a Tailrace unicast goes to, whose acknowledgement is awaited (R197). -/
  uni : Option Nat := Option.none
  /-- Tailrace's number for the item, for TDF_MAC_OUTCOME. -/
  item : Nat := 0
  /-- Tick the frame was due: beacon due time or relay time. -/
  due : Nat := 0
  /-- Resends already made, and the sequence number they repeat. -/
  tries : Nat := 0
  seq : Option Byte := Option.none
  /-- The campaign a broadcast frame or a repair fragment belongs to. -/
  camp : Option Nat := Option.none
  /-- BSEQ of a beacon. -/
  bseq : Nat := 0
  /-- A relay: its seen-cache key, and whether a port has sent it. -/
  relay : Option (Nat × Bool) := Option.none
  /-- Index to which an acknowledgement answers with Frame Pending set (R256). -/
  ackFor : Option Nat := Option.none
  /-- Index the content is for, unicast or by directed flood (R255). -/
  idx : Option Nat := Option.none
  /-- The FCS the frame carries has four bytes, not two (R185, R193). PRESUMED: log entry 51. -/
  fcs4 : Bool := true
  deriving DecidableEq, Repr

/-- A received data frame whose acknowledgement may fall due (R191–R193): the port's number for it, the tick its PPDU ended at the
antenna, its sequence number, its source address and its FCS length. -/
structure AckDue where
  ppdu : Nat
  endAt : Nat
  seq : Option Byte
  dst : List Byte
  fcs4 : Bool
  /-- The decision, once known: acknowledge or not. -/
  decision : Option Bool := Option.none
  idx : Nat := 0
  deriving DecidableEq, Repr

/-- A radio port (R180–R197). -/
structure VPort where
  lock : Bool := false
  /-- Number of the last frame passed to Millrace. -/
  ppdu : Nat := 0
  /-- The scripts in force, and those loaded since, which a restart puts in force (R375). -/
  scripts : Tab (List SpiTx) := []
  loaded : Tab (List SpiTx) := []
  /-- The running script, its transaction, and the pair and packet number of the CHANNEL command that waits for it. -/
  running : Option (Nat × Nat × Option (Nat × Nat)) := Option.none
  /-- CHANNEL commands waiting for the port to be free. -/
  chanWait : List (Nat × Nat) := []
  /-- Put to IDLE by a failed check byte (R182). -/
  idle : Bool := false
  /-- The frame on air, or the one whose TX_ENTER script runs. -/
  tx : Option TxFrame := Option.none
  queue : List TxFrame := []
  macSeq : Byte := 0
  acks : List AckDue := []
  /-- A unicast frame whose acknowledgement is awaited, and the tick its end left the antenna. -/
  ackWait : Option (TxFrame × Nat) := Option.none
  /-- Tick of the port's last beacon due time, plus one; 0 none yet. -/
  beaconAt : Nat := 0
  deriving DecidableEq, Repr

/-- STATE of VAN_UP_STATUS (R209). -/
inductive UpSt where
  | disabled | search | track | lost
  deriving DecidableEq, Repr

/-- Vane (R180–R213). -/
structure VaneState where
  ports : Tab VPort := []
  bseqSent : Nat := 0
  lastHint : Nat := 0
  /-- Tick at which the ramp of R207 began. -/
  ramp : Option Nat := Option.none
  up : UpSt := .disabled
  misses : Nat := 0
  regain : Nat := 0
  depth : Nat := 0
  deadline : Nat := 0
  period : Nat := 0
  upBseq : Nat := 0
  /-- Upstream beacons rejected (R208). DEDUCED: log entry 57. -/
  upRejects : Nat := 0
  /-- Foreign concentrators heard: CONC_ID and the tick of the last event (R210). -/
  foreign : Tab Nat := []
  deriving DecidableEq, Repr

/-! ### Leat -/

/-- SSTATE of a slot (R224), in code order. -/
inductive SlotSt where
  | free | assigned | active | lost
  deriving DecidableEq, Repr

/-- A slave-table slot (R224), with the tone-map override and the filtered SNR of each carrier in units of 0.25 dB (R236). -/
structure LSlot where
  idx : Nat := 0
  bindGen : Nat := 0
  st : SlotSt := .free
  tmUp : Nat := 0
  tmDown : Nat := 0
  tmAge : Nat := 0
  lastResp : Nat := 0
  miss : Nat := 0
  loss : Nat := 0
  phEst : Nat := 0
  phCand : Nat := 0
  phRun : Nat := 0
  ackSeq : Nat := 0
  ackDue : Bool := false
  tmDue : Bool := false
  drop : Nat := 0
  override : Option Nat := Option.none
  snr : List Int := []
  deriving DecidableEq, Repr

/-- An exchange in progress (R228–R231): the slot, the poll number, the re-polls and extra polls spent, the Tailrace item
carried, whether the POLL carried TM_REQ, and the tick its POLL ended. -/
structure Exch where
  slot : Nat
  pseq : Nat
  repolls : Nat := 0
  more : Nat := 0
  item : Option (Nat × List Byte) := Option.none
  tmReq : Bool := false
  endAt : Nat := 0
  /-- The POLL is on the line or its response awaited; otherwise a POLL of the slot is due: an extra one when `fresh`, or a
  re-poll. -/
  open_ : Bool := true
  fresh : Bool := false
  /-- The configuration the exchange began under (R246). -/
  cfg : Tab Int := []
  deriving DecidableEq, Repr

/-- A slot change by command that waits for the slot's exchange to end (R226). -/
inductive SlotChange where
  | release (slot : Nat) (moved : Bool)
  | tone (slot : Nat) (tm : Option Nat)
  deriving DecidableEq, Repr

/-- A power-line port (R214–R245). -/
structure LPort where
  lock : Bool := false
  slots : Tab LSlot := []
  sched : List Nat := []
  nextSched : Option (List Nat) := Option.none
  run : Bool := false
  /-- Step in progress, whether it has begun, and the tick it began. -/
  step : Nat := 0
  begun : Bool := false
  stepAt : Nat := 0
  /-- SUB_MS a DISCOVERY step began with (R246). -/
  subMs : Nat := 0
  /-- Place within a POLL_RANGE step, or broadcasts sent in a BCAST step. -/
  pos : Nat := 0
  cycle : Nat := 0
  cycleAt : Nat := 0
  cycleMs : Nat := 0
  pseq : Nat := 0
  exch : Option Exch := Option.none
  /-- Tick the last exchange or transmission of the schedule ended (R229). -/
  freeAt : Nat := 0
  waiting : List SlotChange := []
  /-- ASSIGN and RELEASE frames due at the end of the next discovery step: slot and EUI-64 (R227, R234). -/
  assigns : List (Nat × Nat) := []
  releases : List (Nat × Nat) := []
  fullRaised : Bool := false
  /-- A PLC AFE calibration is due; it runs inside the present IDLE step; the SELF_TEST commands that wait for it (R484, R485). -/
  calDue : Bool := false
  calibrating : Bool := false
  calCmd : List (Nat × Nat) := []
  /-- BROADCAST contents queued by Tailrace, with the campaign each belongs to. -/
  bcast : List (Nat × List Byte) := []
  deriving DecidableEq, Repr

/-- Leat (R214–R248). -/
structure LeatState where
  ports : Tab LPort := []
  refOk : Bool := false
  /-- Conditional PHASE writes waiting for the Ledger port (R245): index, BIND_GEN, class. -/
  phaseWr : List (Nat × Nat × Nat) := []
  deriving DecidableEq, Repr

/-! ### Tailrace -/

/-- A downlink record (R254). -/
structure DlRec where
  dseq : Nat := 0
  gwId : Nat := 0
  gwEth : Nat := 0
  gwValid : Bool := false
  tslot : Nat := 0xFF
  tseg : Nat := 0
  cmemb : BitVec 16 := 0
  spx : Nat := 0xFFFF
  ufail : Nat := 0
  tunconf : Bool := false
  floodOnly : Bool := false
  dseqEnd : Bool := false
  rpx : Nat := 0xFFFF
  deriving DecidableEq, Repr

/-- A tariff slot (R261). -/
structure Tariff where
  ver : Nat := 0
  data : List Byte := []
  deriving DecidableEq, Repr

/-- Campaign states, in the order R266 codes them. -/
inductive CampSt where
  | idle | announce | multicast | repair | activate | closed | aborted | loaded | suspended
  deriving DecidableEq, Repr

/-- One campaign path's place in a multicast pass (R268): radio port 0–7, PLC port 8–11, gateway 12. -/
structure CampPath where
  block : Nat := 0
  frag : Nat := 0
  done : Bool := false
  deriving DecidableEq, Repr

/-- A campaign (R264–R267). -/
structure Camp where
  st : CampSt := .idle
  prior : CampSt := .idle
  image : List Byte := []
  size : Nat := 0
  imgVer : Nat := 0
  blocks : Nat := 0
  digest : List Byte := []
  pass : Nat := 0
  deadline : Nat := 0
  /-- Tick the campaign entered its present state. -/
  since : Nat := 0
  /-- Members that have reported COMPLETE (R269). -/
  ready : List Nat := []
  active : Nat := 0
  failed : Nat := 0
  paths : Tab CampPath := []
  deriving DecidableEq, Repr

/-- A repair entry (R270): its index and campaign, up to four block ranges, the cursor (range, block within it,
fragment), the tick the cursor was parked, and the link to the index's next entry. -/
structure Repair where
  idx : Nat := 0
  camp : Nat := 0
  ranges : List (Nat × Nat) := []
  range : Nat := 0
  block : Nat := 0
  frag : Nat := 0
  parked : Option Nat := Option.none
  next : Nat := 0xFFFF
  deriving DecidableEq, Repr

/-- An outstanding setpoint (R271, R275): its index, SP_SEQ, UNTIL_S, body, and the tick it was last sent. -/
structure SpEntry where
  idx : Nat := 0
  seq : Nat := 0
  untilS : Nat := 0
  body : List Byte := []
  sentAt : Nat := 0
  /-- The frame stored at release, until its route first takes it. -/
  frame : Option (List Byte) := Option.none
  deriving DecidableEq, Repr

/-- What a TDF handed to a MAC or port carries (R257). -/
inductive TdfWhat where
  | tariff (idx : Nat) (slot : Nat) (seg : Nat)
  | repair (idx : Nat) (entry : Nat)
  | setpoint (idx : Nat) (seq : Nat)
  | camp (camp : Nat)
  deriving DecidableEq, Repr

/-- A TDF handed to a port and not yet settled: its number, what it carries, the port class (as `CampPath`), MORE.
DEDUCED: log entry 71. -/
structure TdfItem where
  num : Nat
  what : TdfWhat
  port : Nat
  more : Bool := false
  deriving DecidableEq, Repr

/-- A burst in progress to an index (R256): items sent, the number of the item on its way, and whether the index's setpoint has
gone in it. -/
structure Burst where
  idx : Nat
  sent : Nat
  item : Nat
  sp : Bool
  deriving DecidableEq, Repr

/-- One channel's copy of the limit table (R272, R279): kW and kvar. -/
structure Limits where
  pInv : Nat := 50
  pBat : Nat := 50
  q : Nat := 50
  deriving DecidableEq, Repr

/-- Tailrace (R249–R281). -/
structure TailState where
  /-- Downlink records that differ from the record of every other index: the reset record, its DSEQ and the end of its numbers as
  restores have moved them on (R254). -/
  recs : Tab DlRec := []
  blankDseq : Nat := 0
  blankEnd : Bool := false
  tariffs : Tab Tariff := []
  /-- Tariff slots whose sweeps run, the one being swept first (R262). -/
  sweep : List Nat := []
  camps : Tab Camp := []
  repairs : Tab Repair := []
  sps : Tab (Option SpEntry) := []
  /-- Each campaign path's last send: its tick plus one, and the campaign it served plus one (R268). -/
  pathAt : Tab Nat := []
  turn : Tab Nat := []
  items : List TdfItem := []
  itemNo : Nat := 1
  bursts : List Burst := []
  /-- CONFIRM plaintexts handed over by the Ledger update (R260): index and plaintext. -/
  confirms : List (Nat × List Byte) := []
  /-- MAC outcomes waiting for Tailrace: item, success, Frame Pending of the acknowledgement (R256, R257). -/
  outcomes : List (Nat × Bool × Bool) := []
  limA : Limits := {}
  limB : Limits := {}
  deriving DecidableEq, Repr

/-- The record of every index that `recs` does not list: the reset record with its DSEQ as restores have moved it on (R254). -/
def TailState.blank (t : TailState) : DlRec := { dseq := t.blankDseq, dseqEnd := t.blankEnd }

/-! ### Flume -/

/-- A calibration record (R295, R296): gain in Q2.30, offset in LSB, delay in 2⁻¹⁵ sample. -/
structure CalRec where
  gain : Nat := 0x40000000
  ofs : Int := 0
  tau : Int := 0
  deriving DecidableEq, Repr

/-- A modulator channel (R284–R297). -/
structure FluCh where
  role : Nat := 0
  scale : Nat := 0
  invert : Bool := false
  dc : Int := 0
  /-- FAULT of FLU_CH_STAT and the tick the fault began. -/
  fault : Nat := 0
  /-- Cause 1 of R284 stands: 256 equal bits, and not yet 4,096 good ones. -/
  stuck : Bool := false
  faultAt : Nat := 0
  /-- Tick at which SETTLING began, while it lasts. -/
  settling : Option Nat := Option.none
  otp : Option CalRec := Option.none
  user : CalRec := {}
  /-- Staged records, oldest first, each with the interval from which it applies (R296). -/
  staged : List (Nat × CalRec) := []
  /-- A calibration record in use fails its CRC (R284, R302). -/
  calBad : Bool := false
  /-- The chain's registers (R286): CIC integrators and combs, FIR inputs (newest first), the last two calibrated samples before
  interpolation and whether the later one is valid, half-band inputs (newest first), and the values of the last P32 samples
  (newest first). -/
  cic : List Int := []
  fir : List Int := []
  c0 : Option Int := Option.none
  c1 : Option Int := Option.none
  ok1 : Bool := false
  hb1 : List Int := []
  hb2 : List Int := []
  hist : List (Option Int) := []
  /-- The W8 samples of the last second and more, newest first: the tick each was formed at, its stamp, its value if valid (R286, R288). -/
  w8 : List (Nat × Nat × Option Int) := []
  deriving DecidableEq, Repr

/-- An element of a metering point (R298). -/
structure FluElem where
  phase : Nat
  vch : Nat
  ich : Nat
  dir : Bool
  deriving DecidableEq, Repr

/-- An element's values of the last second (R300, R309). -/
structure FluLive where
  vrms : Nat := 0
  irms : Nat := 0
  p : Int := 0
  q : Int := 0
  iang : Int := 0
  vang : Int := 0
  deriving DecidableEq, Repr

/-- An interval record (R303). -/
structure FluRec where
  interval : Nat := 0
  filled : Bool := false
  reset : Bool := false
  fade : Bool := false
  timeStep : Bool := false
  anchored : Bool := false
  plaus : Nat := 0
  cause : Nat := 0
  missingMs : Nat := 0
  net : Int := 0
  imp : Nat := 0
  exp : Nat := 0
  varh : Int := 0
  fMin : Nat := 0
  fMax : Nat := 0
  vMin : Nat := 0
  vMax : Nat := 0
  deriving DecidableEq, Repr

/-- A metering point (R298–R303). Energies are exact: in units of 2⁻⁴⁶ of one mV·mA sample product; `netD` and the like are
the Wh already delivered. -/
structure FluPt where
  elems : List FluElem := []
  ref : Bool := false
  anchor : Option (Nat × Nat) := Option.none
  /-- The anchor that stood before the last boundary: the one of the interval being closed. -/
  anchorPrev : Option (Nat × Nat) := Option.none
  /-- An anchor change waiting for the boundary: the node it will name, or none. -/
  pendAnchor : Option (Option (Nat × Nat)) := Option.none
  imp : Nat := 0
  exp : Nat := 0
  varh : Int := 0
  netD : Int := 0
  impD : Nat := 0
  expD : Nat := 0
  varD : Int := 0
  /-- Running sums of the open interval: invalid samples, those filled, apparent energy, clipped samples. -/
  invalid : Nat := 0
  fillN : Nat := 0
  apparent : Nat := 0
  intP : Int := 0
  clips : Nat := 0
  badFreq : Bool := false
  /-- Recent valid sample powers, active and reactive, newest first: the last mains cycle before a gap (R301). -/
  recent : List Int := []
  recentQ : List Int := []
  /-- The tick the point started, and the samples between the open interval's start and it, which count as missing (R298). -/
  startAt : Nat := 0
  /-- The time value at that tick, ns. -/
  startNs : Nat := 0
  before : Nat := 0
  /-- Sums of p and q over the running second's valid samples, and their number, element by element (R300). -/
  sec : List (Int × Int × Nat) := []
  /-- Lowest and highest one-second frequency and phase voltage of the open interval; none yet at first (R303). -/
  fMin : Option Nat := Option.none
  fMax : Nat := 0
  vMin : Option Nat := Option.none
  vMax : Nat := 0
  plaus : Nat := 0
  live : List FluLive := []
  recs : List FluRec := []
  deriving DecidableEq, Repr

/-- What one channel's samples are formed with (R284, R285, R291, R295–R297). -/
structure ChSet where
  role : Nat := 0
  scale : Nat := 0
  invert : Bool := false
  dcb : Nat := 0
  dcbK : Nat := 18
  otp : CalRec := {}
  user : CalRec := {}
  fault : Nat := 0
  settling : Option Nat := Option.none
  deriving DecidableEq, Repr

/-- What all channels' samples are formed with, and the rate of the time value that places them (R288, R292, R293). -/
structure FluSet where
  chans : List ChSet := []
  bankA : Option (List Int) := Option.none
  bankB : Option (List Int) := Option.none
  bank : Bool := false
  fade : Option (Nat × Nat) := Option.none
  settling : Option Nat := Option.none
  rate : Int := 0
  deriving DecidableEq, Repr

/-- The settings that held up to a tick, and the time value then (2⁻⁴¹ ns). -/
structure FluPast where
  until_ : Nat
  fix : Nat
  set : FluSet
  deriving DecidableEq, Repr

/-- What happens to the grid of P32 samples: a reset edge (R289), the block going dark and coming back (R307), a forced step of
the time value (R325). -/
inductive EdgeKind where
  | reset | off | on | jump
  deriving DecidableEq, Repr

/-- An edge, at its tick, with the stamp a sample has that emerges there; for a step, before and after it. -/
structure FluEdge where
  kind : EdgeKind
  tick : Nat
  ns : Nat
  toNs : Nat
  deriving DecidableEq, Repr

/-- Where the grid of P32 samples stands (R286, R289): the tick of the last sample or edge, the place of the next sample within a W8
period, whether it is the first after a reset, whether the chain runs, and if not the stamp at which it stopped. -/
structure FluGrid where
  at_ : Nat := 0
  phase : Nat := 0
  fresh : Bool := true
  live : Bool := false
  ns : Nat := 0
  deriving DecidableEq, Repr

/-- Flume (R282–R310). -/
structure FluState where
  chans : Tab FluCh := []
  /-- Coefficient banks A and B: what a load wrote, or the default filter, and the CRC-32 the load wrote (R292). -/
  bankA : Option (List Int) := Option.none
  bankB : Option (List Int) := Option.none
  bankCrcA : Option Nat := Option.none
  bankCrcB : Option Nat := Option.none
  bank : Bool := false
  /-- A running fade: its length F and the tick it began (R293). -/
  fade : Option (Nat × Nat) := Option.none
  /-- The grid of the samples already formed, the edges since (oldest first), and whether the chain runs now. -/
  grid : FluGrid := {}
  edges : List FluEdge := []
  live : Bool := false
  /-- The modulators' bits that have come for samples not yet formed, channel by channel, oldest first (R282). -/
  ahead : List (List (Option (BitVec 128))) := []
  /-- Settings changed since the last sample formed, oldest first; DC estimates a command loaded since: tick, channel, value (R291). -/
  past : List FluPast := []
  loads : List (Nat × Nat × Int) := []
  /-- A reset edge a command has asked for: its tick (R289). -/
  resetDue : Option Nat := Option.none
  /-- The stamp up to which time with no samples has been counted. -/
  doneNs : Nat := 0
  /-- Intervals in which a decimator was reset, a fade ran, the time value was stepped (R303). -/
  resetIvs : List Nat := []
  fadeIvs : List Nat := []
  stepIvs : List Nat := []
  /-- The interval being measured (R303). -/
  interval : Nat := 0
  /-- Tick of the last reset edge while a tap settles (R290). -/
  settling : Option Nat := Option.none
  pts : Tab FluPt := []
  refOk : Bool := false
  freq : Nat := 0
  period : Nat := 0
  /-- Rising crossings of L1, L2 and L3 and falling ones, newest first, ns (R305). -/
  rises : Tab (List Nat) := []
  falls : Tab (List Nat) := []
  lastInt : Nat := 0
  /-- The Fantail second last processed. -/
  secAt : Nat := 0
  liveSeq : Nat := 0
  /-- What the per-second registers show: the points' values, and FLU_FREQ (R309). -/
  shown : Tab (List FluLive) := []
  shownFreq : Nat := 0
  deriving DecidableEq, Repr

/-! ### Granary -/

/-- Channel states in the codes of R409. -/
inductive ChSt where
  | absent | unformatted | mounting | ready | readOnly | failed | gated
  deriving DecidableEq, Repr

/-- The media a channel's targets report (R405): targets, LUNs per target, blocks per LUN, pages per block, rated cycles.
DESIGN CHOICE: log entry 11. -/
structure Geom where
  targets : Nat := 1
  luns : Nat := 1
  blocks : Nat := 4096
  pages : Nat := 256
  rated : Nat := 100000
  deriving DecidableEq, Repr

/-- The fields of an anchor page (R408). `exhausted` is what R419 has the anchor record. DESIGN CHOICE: log entry 120. -/
structure Anchor where
  ch : Nat := 0
  aseq : Nat := 0
  geom : Geom := {}
  cap : Nat := 0
  retired : Nat := 0
  retPpn : Nat := 0
  w2c : Nat := 0
  w30 : Nat := 0
  w34 : Nat := 0
  extents : List Nat := []
  commit : List Byte := []
  exhausted : Bool := false
  deriving DecidableEq, Repr

/-- What a programmed page holds (R407, R408, R411, R413): an archive unit, a map page by LUNIT and PPN, a map-directory page by map page
number and PPN, a retired-list page with the erase counts, a journal page with the blocks open when it was written, its allocation list, the
retired blocks and its entries of LUNIT, PPN and DSEQ, an anchor, or checkpoint data; `torn` is a page left partly programmed (R410). -/
inductive Body where
  | unit (bytes : List Byte)
  | map (ents : List (Nat × Nat))
  | dir (ents : List (Nat × Nat))
  | retired (blocks : List Nat) (erase : Tab Nat)
  | journal (opens alloc gone : List Nat) (ents : List (Nat × Nat × Nat))
  | anchor (a : Anchor)
  | data (bytes : List Byte)
  | torn
  deriving DecidableEq, Repr

/-- A programmed page: its tag (R407) and its content; `bad` once a read found it uncorrectable (R406). -/
structure NPage where
  tflags : Nat := 0
  lunit : Nat := 0xFFFFFFFF
  wseq : Nat := 0
  dseq : Nat := 0
  pidx : Nat := 0
  body : Body
  bad : Bool := false
  deriving DecidableEq, Repr

/-- A NAND channel (R405–R421). DESIGN CHOICE: log entry 11. -/
structure Chan where
  st : ChSt := .absent
  geom : Geom := {}
  /-- Every page that is not erased, by PPN. -/
  pages : Tab (Option NPage) := []
  /-- The anchor band (R408) and the pages programmed in it since the format; none before the first format. -/
  band : List Nat := []
  bandAt : Nat := 0
  /-- Blocks of the map and journal areas: all, the erased ones, the open one and its next page. -/
  sys : List Nat := []
  sysFree : List Nat := []
  sysOpen : Option (Nat × Nat) := Option.none
  /-- The anchor in force records exhaustion (R409, R419). -/
  exhausted : Bool := false
  aseq : Nat := 0
  wseq : Nat := 0
  /-- SPARE (R419), its value at the last format, and the blocks then retired. -/
  spare : Nat := 0
  spare0 : Nat := 0
  retired0 : Nat := 0
  /-- Retired blocks, newest first. -/
  retired : List Nat := []
  /-- Blocks that are retired once their valid pages are copied out, with the cause (R414, R417). -/
  failing : List (Nat × Nat) := []
  /-- Erase counts, by block. -/
  erase : Tab Nat := []
  /-- Erased blocks in the order they will be opened (R413); the open blocks of units and of copies with their next page; the blocks of
  the allocation list opened since the last journal page. -/
  free : List Nat := []
  open_ : Option (Nat × Nat) := Option.none
  copyOpen : Option (Nat × Nat) := Option.none
  opened : Nat := 0
  rewrite : List Nat := []
  /-- The wear warnings already raised since the format: SPARE at a quarter, PE_MAX at its share (R419). -/
  wearSpare : Bool := false
  wearPe : Bool := false
  /-- Times in a row each target was not ready within 50 ms (R409). -/
  notReady : Tab Nat := []
  /-- The channel has been mounted or formatted since the start of its domain: its lists and counts are loaded. -/
  mounted : Bool := false
  /-- A running FORMAT: the pair and packet number of its command. -/
  format : Option (Nat × Nat) := Option.none
  formats : Nat := 0
  /-- The patrol's last page, plus one, and the tick its cycle began (R421). -/
  patrol : Nat := 0
  patrolAt : Nat := 0
  /-- CHK: the data-band block used last (R425), and the block being copied with its next page (R416). -/
  dataAt : Nat := 0
  copyFrom : Option (Nat × Nat) := Option.none
  deriving DecidableEq, Repr

/-- An archive unit being filled or waiting (R423, R424). -/
structure OpenUnit where
  stream : Nat := 0
  items : List (List Byte) := []
  firstS : Nat := 0
  lastS : Nat := 0
  firstSeq : Nat := 0
  lost : Nat := 0
  diverted : Bool := false
  short : Bool := false
  since : Nat := 0
  deriving DecidableEq, Repr

/-- A garbage-collection or rewrite copy not yet committed (R416): the unit's place, its source page and its copy's page. -/
structure GcCopy where
  lunit : Nat
  src : Nat
  dst : Nat
  deriving DecidableEq, Repr

/-- Granary (R404–R428). The complete checkpoint generations are in `State.chk`. -/
structure GraState where
  arc : Chan := {}
  chk : Chan := {}
  cap : Nat := 0
  wp : Nat := 0
  /-- The map in force: PPN and DSEQ by logical unit (R411, R413). -/
  map : Tab (Option (Nat × Nat)) := []
  /-- The map directory: the PPN of each map page that NAND holds. -/
  dir : Tab (Option Nat) := []
  opens : Tab (Option OpenUnit) := []
  ring : List OpenUnit := []
  ringLost : Tab Nat := []
  /-- Losses by stream in the last second, tick and items, and the tick of the last archive-lost event plus one (R423, R428). -/
  lossRun : Tab (List (Nat × Nat)) := []
  lossAt : Tab Nat := []
  /-- Journal entries in the buffer: LUNIT, PPN, DSEQ (R413), the tick of the last journal page, the pages of the journal area. -/
  journal : List (Nat × Nat × Nat) := []
  journalAt : Nat := 0
  journalPages : Nat := 0
  /-- Map pages in the map cache, most recently used first, and those with changes (R411). -/
  cache : List Nat := []
  /-- MAP_CACHE as of the last mount, MiB (R426). -/
  cacheMiB : Nat := 32
  dirtyMap : List Nat := []
  gc : List GcCopy := []
  gcBlock : Option Nat := Option.none
  /-- Host Map Region (R412): base, MiB, whether it is in use and whether its use was ended; the CRC-32 of each map page it holds. -/
  hmrBase : Nat := 0
  hmrMiB : Nat := 0
  hmrUse : Bool := false
  hmrEnded : Bool := false
  hmr : Tab (Option Nat) := []
  rebuildMs : Nat := 0
  deriving DecidableEq, Repr

/-! ### Brake -/

/-- Roles of R435; STANDBY has no ROLE code. -/
inductive Role where
  | listen | contend | restoring | active | idle | proof | fault | standby
  deriving DecidableEq, Repr

/-- An endpoint key as its Key Vault slot holds it (R457): the key and the EUI-64 wrapped with it. -/
structure Vault where
  key : List Byte
  eui : Nat := 0
  deriving DecidableEq, Repr

/-- The checkpointed tables of R437 as the last complete generation took them, or as a restore loaded them: the Key Vault store wrapped under
the pair key (R437), the others, and where the newest copy of each page lies (R438). -/
structure Tables where
  vault : Tab (List Byte) := []
  recs : Tab DlRec := []
  blank : DlRec := {}
  tariffs : Tab Tariff := []
  sps : Tab (Option SpEntry) := []
  repairs : Tab Repair := []
  cold : Tab (Option Cold) := []
  dir : List Nat := []
  deriving DecidableEq, Repr

/-- A running checkpoint (R425, R437–R439): its generation, start tick and the packet that asked for it; the table pages of the generation, how
many there are, those still to be written and the places of those written; the bytes of the stream taken so far, the next part of it, the
length of each section so far and the pages of it programmed; the extents, newest last; the open block with its next page, and the blocks
taken. `done` once the last page of the stream has been programmed. -/
structure CkptRun where
  gen : Nat
  at_ : Nat
  cmd : Option (Nat × Nat)
  tables : Tables := {}
  pages : Nat := 0
  changed : List Nat := []
  placed : Tab (Option Nat) := []
  stream : List Byte := []
  part : Nat := 0
  lens : Tab Nat := []
  sp : Nat := 0
  extents : List Nat := []
  open_ : Option (Nat × Nat) := Option.none
  blocks : List Nat := []
  done : Bool := false
  deriving DecidableEq, Repr

/-- Brake (R429–R448). -/
structure BrkState where
  role : Role := .listen
  unitId : Bool := false
  level : Nat := 0
  /-- The level the next round takes. -/
  next : Option Nat := Option.none
  hold : Bool := false
  /-- Enabled groups: bit 0 RAD, 1 PLC, 2 FLUME, 3 CHK. -/
  groups : Nat := 0
  peer : Bool := false
  lineFault : Bool := false
  winner : Nat := 0
  /-- Tick of the last round seen, plus one. -/
  roundAt : Nat := 0
  /-- Rounds observed in succession while listening on proof-wake or for a retest. -/
  seen : Nat := 0
  ckptMs : Nat := 0
  /-- Seconds count at the snapshot start of the newest complete generation. -/
  ckptS : Option Nat := Option.none
  run : Option CkptRun := Option.none
  /-- What a table page is compared with (R438). -/
  base : Option Tables := Option.none
  /-- Highest generation seen in a page tag, and the tick of the last checkpoint start (R439). -/
  lastGen : Nat := 0
  lastCkpt : Nat := 0
  takeoverMs : Nat := 0
  /-- Tick of the wake or power-on the present takeover is counted from. -/
  startAt : Nat := 0
  /-- Tick PRESENCE was last seen low, plus one. -/
  peerAt : Nat := 0
  peerRaised : Bool := false
  proofValid : Bool := false
  proofPass : Bool := false
  proofCode : Nat := 0
  /-- This start is a proof-wake (R444). -/
  onProof : Bool := false
  /-- The claim watcher (R436, R495): armed, fired, and whether it saw a round in this sleep. -/
  armed : Bool := false
  fired : Bool := false
  sawRound : Bool := false
  /-- The watcher fired with only one latch set (R436). -/
  oneLine : Bool := false
  /-- Resumed from DOZE with no round seen: the retained state stands without a restore (R497). -/
  keep : Bool := false
  standbyAt : Nat := 0
  /-- The state is current: a restore has completed and the claim was not lost to the twin since. -/
  current : Bool := false
  deriving DecidableEq, Repr

/-! ### Security -/

/-- A firewall rule (R463). -/
structure FwRule where
  master : Nat := 0
  perm : Nat := 0
  base : Nat := 0
  size : Nat := 0
  deriving DecidableEq, Repr

/-- A debug session (R466, R467). -/
structure Debug where
  level : Nat
  entry : Nat
  at_ : Nat
  limit : Nat
  halted : BitVec 4 := 0
  deriving DecidableEq, Repr

/-- Security, lifecycle and debug (R449–R471). DESIGN CHOICE: log entry 6. -/
structure SecState where
  lc : Nat := 0
  lcCount : Nat := 0
  /-- Hashes of the burned owner slots. -/
  owners : Tab (List Byte) := []
  revoked : BitVec 4 := 0
  toggles : Nat := 32
  ktk : Option (List Byte) := Option.none
  oik : Option (List Byte) := Option.none
  pairKey : Option (List Byte) := Option.none
  /-- The OTP fields that an entry to RETURN or RETIRED burns to ones, and the root key's that RETIRED burns. -/
  burnedOut : Bool := false
  rootBurned : Bool := false
  subsysVendor : Nat := 0x1F8D
  subsysId : Nat := 0x7810
  svnLoader : Nat := 0
  svnMain : Nat := 0
  devKeys : Tab (List Byte) := []
  vault : Tab (Option Vault) := []
  /-- Slots in the Key Vault cache, most recently used first (R458). -/
  cache : List Nat := []
  session : Option Debug := Option.none
  challenge : Option (List Byte × Nat) := Option.none
  rejects : Nat := 0
  lockout : Option Nat := Option.none
  frozen : BitVec 12 := 0
  rules : Tab (Option FwRule) := []
  /-- The device rules the main firmware has written and locked (R459, R463). -/
  devRules : List FwRule := []
  violValid : Bool := false
  violMaster : Nat := 0
  violWrite : Bool := false
  violAddr : Nat := 0
  /-- Bytes a debug session has written to SRAM or DRAM, by address (R466). -/
  dbgMem : Tab Nat := []
  deriving DecidableEq, Repr

/-! ### Functional safety -/

/-- A self-test that runs until an event ends it (R485): its number, its argument, the pair and packet number that wait, its start. -/
structure STest where
  test : Nat
  arg : Nat
  job : Nat × Nat
  at_ : Nat
  deriving DecidableEq, Repr

/-- Functional safety (R472–R488). -/
structure SafState where
  safe : Bool := false
  pinLow : Bool := false
  first : Nat := 0
  latched : BitVec 16 := 0
  /-- Causes cleared since the safe state was entered. -/
  cleared : BitVec 16 := 0
  tbPpm : Int := 0
  /-- TB_TOL (R476), ppm. -/
  tbTol : Nat := 500
  /-- The last 1 s check was out of tolerance; consecutive good checks. -/
  tbBad : Bool := false
  tbGood : Nat := 0
  rotBank : Nat := 0
  rotStopped : Bool := false
  stestLast : Nat := 0
  stestRes : Nat := 0
  /-- Tick of the last occurrence of a cause, plus one (R477). -/
  seen : Tab Nat := []
  /-- Control cores frozen after a lost heartbeat (R475). -/
  coresFrozen : BitVec 4 := 0
  /-- Tick the last bank rotation began its slot (R482). -/
  rotAt : Nat := 0
  tests : List STest := []
  /-- Tick t0 of an entry into the safe state whose claim drop is still due (R480 step 4), and its cause. -/
  dropDue : Option (Nat × Nat) := Option.none
  /-- A bank a self-test asked for out of turn (R485). -/
  rotNext : Option Nat := Option.none
  /-- Comparator self-checks that found no gap within their second (R483). -/
  noGap : Nat := 0
  deriving DecidableEq, Repr

/-! ### Device firmware and the Service Port -/

/-- UPD_STATE (R524), in code order. -/
inductive UpdSt where
  | idle | receiving | incomplete | armed | verify | save | copy | trial | confirming | revert | rejected | lcopy
  deriving DecidableEq, Repr

/-- A stored image (R460): its container's bytes, VERSION, SVN and container length. -/
structure Image where
  bytes : List Byte := []
  version : Nat := 0
  svn : Nat := 0
  len : Nat := 0
  deriving DecidableEq, Repr

/-- A configuration set (R523): its header and what it holds. -/
structure CfgSet where
  format : Nat := 1
  gen : Nat := 0
  fwVer : Nat := 0
  trial : Bool := false
  /-- The Weir is enabled (R152). -/
  weirEn : Bool := false
  cfg : Tab Int := []
  gws : Tab Gw := []
  headEnd : Option (Nat × Nat × Nat) := Option.none
  cal : Tab CalRec := []
  devKeys : Tab (List Byte) := []
  deriving DecidableEq, Repr

/-- How far a start has come: waiting for the boot ROM to start the loader, the loader to start the main firmware, or the
main firmware running (R459); `restart`: a FIRMWARE reset restarts it (R501). -/
inductive BootSt where
  | none | rom | loader | firmware | restart | failed
  deriving DecidableEq, Repr

/-- Firmware update and the Service Port (R508–R526). DESIGN CHOICE: log entry 6. -/
structure SvcState where
  boot : BootSt := .none
  upd : UpdSt := .idle
  lock : Option Nat := Option.none
  lastMsg : Nat := 0
  header : List Byte := []
  staging : List Byte := []
  running : Image := {}
  fallback : Image := {}
  loader0 : Image := {}
  loader1 : Image := {}
  loaderUse : Bool := false
  preferred : Bool := false
  tries : Nat := 0
  last : Nat := 0
  /-- Chunks of the running copy phase already journalled, and the sequence number of the last journal record (R518, R519). -/
  chunk : Nat := 0
  chunkRetry : Bool := false
  jseq : Nat := 0
  /-- The two halves of the JOURNAL area, each with its records in order, and the half in use (R519). -/
  jnl0 : List (List Byte) := []
  jnl1 : List (List Byte) := []
  jHalf : Bool := false
  revertReq : Option Nat := Option.none
  /-- The image on trial is a loader. -/
  trialLoader : Bool := false
  hostMoving : Bool := false
  holdConfirm : Bool := false
  tilt : Bool := false
  usb : Bool := false
  readyAt : Nat := 0
  /-- Tick since which the health conditions have held (R520). -/
  healthAt : Nat := 0
  cfgA : Option CfgSet := Option.none
  cfgB : Option CfgSet := Option.none
  cfgFormat : Nat := 0
  /-- DEV_SVC_OUT dwords, and the replies waiting in DEV_SVC_IN, the one in the window first (R525). -/
  outWin : Tab Nat := []
  replies : List (List Byte) := []
  deriving DecidableEq, Repr

/-- A complete checkpoint generation as the CHK channel holds it (R437, R440): the sections and tables of one snapshot. -/
structure Ckpt where
  gen : Nat := 0
  /-- DEVICE_ID of the writer (R440). -/
  dev : Nat := 0
  startS : Nat := 0
  startNs : Nat := 0
  endS : Nat := 0
  endNs : Nat := 0
  claim : Nat := 0
  fwVer : Nat := 0
  cfg : Tab Int := []
  gws : Tab Gw := []
  headEnd : Option (Nat × Nat × Nat) := Option.none
  reserves : Tab Reserve := []
  bseq : Nat := 0
  led : LedgerState := {}
  wei : WeirState := {}
  lea : LeatState := {}
  tai : TailState := {}
  /-- The Key Vault store, wrapped under the pair key (R437). -/
  vault : Tab (List Byte) := []
  devKeys : Tab (List Byte) := []
  /-- The PPN of the first page of each extent and the stream's length (R408), the table directory (R437), and the commit record as the anchor
  holds it, TAG included (R440). -/
  extents : List Nat := []
  len : Nat := 0
  dir : List Nat := []
  commit : List Byte := []
  deriving DecidableEq, Repr

/-! ### The whole block -/

/-- The attributes of a request to the host (R340): Relaxed Ordering, No Snoop. -/
structure DmaAttr where
  relaxed : Bool := false
  noSnoop : Bool := false
  deriving DecidableEq, Repr

/-- What leaves the block. DESIGN CHOICE: log entry 15. -/
inductive Out where
  /-- A reply written to a Bin slot of host memory (R352). -/
  | bin (pair slot : Nat) (bytes : List Byte) (attr : DmaAttr := {})
  /-- The bytes an "out" transfer wrote, and the host buffers they went to: address and length (R351). -/
  | hostWrite (pair tag : Nat) (bufs : List (Nat × Nat)) (bytes : List Byte) (attr : DmaAttr := {})
  /-- An MSI-X message: vector, address, data. -/
  | msix (vec addr data : Nat) (attr : DmaAttr := {})
  /-- A UDP datagram: Ethernet port, destination address, destination port, payload. -/
  | udp (eth addr port : Nat) (payload : List Byte)
  /-- A whole Ethernet frame (R327, R328, R330). -/
  | ethFrame (eth : Nat) (bytes : List Byte)
  /-- A MAC frame going on air, its FCS included. -/
  | radio (port : Nat) (bytes : List Byte)
  /-- The 32-bit words of a frame on a radio port's transmit lane (R181). -/
  | iqTx (port : Nat) (words : List Nat)
  /-- A Leat MAC frame going on the line, and the tone map its frame control header states (R218). -/
  | plc (port tm : Nat) (bytes : List Byte)
  /-- The bit slots of a frame's words on a power-line port's FS and SDO lanes: PLCn_FS and PLCn_SDO (R214, R215). -/
  | sdo (port : Nat) (slots : List (Bool × Bool))
  /-- A map page written to the Host Map Region: host address, bytes (R412). -/
  | hmr (addr : Nat) (bytes : List Byte) (attr : DmaAttr := {})
  /-- An SPI transaction of a radio port. -/
  | spi (port : Nat) (bytes : List Byte)
  /-- The dword a read of BAR0, BAR4 or the configuration header returned. -/
  | regRead (addr value : Nat)
  /-- The bytes a BAR2 read returned, from one instant: offset, bytes (R80). -/
  | bar2 (ofs : Nat) (bytes : List Byte)
  /-- The bytes the MGMT bus returned: status byte, then data. -/
  | mgmt (bytes : List Byte)
  /-- A Service Port reply, by entry: 0 USB, 1 pass-through. -/
  | svc (entry : Nat) (bytes : List Byte)
  /-- What a dark block answers on the Service Port (3) or to a control core (4): POWERED_DOWN, and zero data for a read (R32). -/
  | darkReply (bus status : Nat) (data : List Byte)
  /-- The slots of a claim round in which the device pulls both lines low, bit k for slot k (R431). -/
  | claim (slots : Nat)
  /-- A pin driven to a level: SAFE_nFAULT, PPS_OUT, or the gated groups RAD, PLC, FLUME, CHK. -/
  | pin (name : String) (level : Nat)
  deriving DecidableEq, Repr

/-- The block's state: one part for each block of the spec, the configuration values that differ from their defaults, the
read-clear counters that differ from zero, the commands waiting, what has left the block, and the model's own counters:
the TB periods elapsed since power was first applied, and the free values drawn. -/
structure State where
  elapsed : Nat := 0
  pending : List Instr := []
  cfg : Tab Int := []
  rc : Tab Nat := []
  hop : HopState := {}
  evt : EvtState := {}
  log : LogState := {}
  que : QueueState := {}
  fan : FanState := {}
  pwr : PwrState := {}
  dev : DevState := {}
  led : LedgerState := {}
  ing : IngState := {}
  wei : WeirState := {}
  van : VaneState := {}
  lea : LeatState := {}
  tai : TailState := {}
  flu : FluState := {}
  gra : GraState := {}
  brk : BrkState := {}
  sec : SecState := {}
  saf : SafState := {}
  svc : SvcState := {}
  /-- The two newest complete checkpoint generations on the CHK channel, newest first, and the snapshot a running checkpoint writes. -/
  chk : List Ckpt := []
  snap : Option Ckpt := none
  /-- The checkpoint that a loss of the claim has cut, while a program of it may still end inside the NAND (R410). -/
  cut : Option (CkptRun × Ckpt) := none
  out : List Out := []
  free : Nat := 0
  deriving DecidableEq, Repr

/-- The block right after a POWER_ON reset (R501), before PORn is released. DESIGN CHOICE where the spec prints no reset value:
log entries 4, 6 and 11. PRESUMED: log entry 20. -/
def State.reset : State := {}

end Sys2Proof.Machine
end

