-- ==== Sys2Proof/Config.lean ====
section
/-! DEFINITION. What the spec leaves to the standards it names, to the stepping or open: functions without a body, of which
nothing can be proved. -/

namespace Sys2Proof.Config

open Sys2Proof.Machine

/-! ### Free values -/

/-- The `n`-th value the spec leaves open (log entry 2). DESIGN CHOICE: log entry 2. -/
opaque freeNat : Nat → Nat
/-- The `n`-th fresh 32 random bytes of the device's random source (R467). -/
opaque random : Nat → List Byte

/-- Whether a quotient that is not whole becomes the next whole number up, where the spec states no rounding.
DESIGN CHOICE: log entry 2. -/
opaque roundsUp : Int → Int → Bool

/-- The record-only code of an event the spec names and no event table numbers: 0 the powered-down event of R32, and
`1 + n` the clock-loss event of domain `n` of R31. DESIGN CHOICE: log entry 124. -/
opaque openCode : Nat → Nat

/-- The fabric address of the next access of an engine or control core, by master and draw (R463); the spec prints no memory map.
DESIGN CHOICE: log entry 13. -/
opaque masterAddr : Nat → Nat → Nat

/-- The bytes of a configuration set, by GEN, of which R523 prints the header. DESIGN CHOICE: log entry 125. -/
opaque cfgBytes : Nat → List Byte

/-- Whether a transfer's request or an access to the Host Map Region sets Relaxed Ordering, which R340 rules out for Bin writes and MSI-X
messages only. DESIGN CHOICE: log entry 140. -/
opaque dmaRelaxed : Bool

/-- Whether a fabric address lies in DRAM; the spec prints no memory map. DESIGN CHOICE: log entry 27. -/
opaque dramAddr : Nat → Bool

/-! ### Cryptography (log entry 3): the algorithms the spec names, uninterpreted -/

/-- AES-CCM, L = 2: key, nonce, associated data, plaintext, tag length; ciphertext with its tag. DESIGN CHOICE: log entry 3. -/
opaque ccmSeal : List Byte → List Byte → List Byte → List Byte → Nat → List Byte
/-- AES-CCM, L = 2: key, nonce, associated data, ciphertext with its tag, tag length; the plaintext if the tag verifies.
DESIGN CHOICE: log entry 3. -/
opaque ccmOpen : List Byte → List Byte → List Byte → List Byte → Nat → Option (List Byte)
/-- AES-GCM, 16-byte tag: key, IV, associated data, ciphertext with its tag. -/
opaque gcmOpen : List Byte → List Byte → List Byte → List Byte → Option (List Byte)
/-- AES-GMAC, 16-byte tag: key, IV, message. -/
opaque gmac : List Byte → List Byte → List Byte → List Byte
/-- AES-CMAC, 16-byte tag: key, message. -/
opaque cmac : List Byte → List Byte → List Byte
/-- AES-256 encryption of one 16-byte block. -/
opaque aes256 : List Byte → List Byte → List Byte
/-- AES key unwrap of RFC 3394 under a key-encryption key; nothing when the integrity check fails. -/
opaque keyUnwrap : List Byte → List Byte → Option (List Byte)
/-- AES key wrap of RFC 3394. -/
opaque keyWrap : List Byte → List Byte → List Byte
/-- AES-256-XTS encryption of a sector of the image store (R509): key, tweak, plaintext. -/
opaque xts : List Byte → Nat → List Byte → List Byte
opaque sha256 : List Byte → List Byte
opaque sha384 : List Byte → List Byte
/-- ECDSA over P-384 with SHA-384: public key, message, signature. -/
opaque ecdsaP384 : List Byte → List Byte → List Byte → Bool
/-- The counter-mode KDF of NIST SP 800-108 with AES-256-CMAC (R455): key, label, context. -/
opaque kdf : List Byte → List Byte → List Byte → List Byte

/-- The clockIdentity and port number of the device's PTP port (R327): ten bytes. -/
opaque ptpIdentity : List Byte
/-- The MAC address of an Ethernet port, which the spec does not print. DESIGN CHOICE: log entry 126. -/
opaque ethMac : Nat → List Byte
/-- The Ethernet frame that carries a PTP message from a port over a transport, without FCS: its addresses are not in the spec (R327).
DESIGN CHOICE: log entry 126. -/
opaque ptpFrame : Nat → Nat → List Byte → List Byte

/-! ### The encoding of a checkpoint's stream, of which R437 gives the sections and their bounds (log entry 122) -/

/-- The bytes of section 1, 4, 5 or 6 of a generation's stream, of which the spec prints no layout, by the section and what it took
(R437). DESIGN CHOICE: log entry 122. -/
opaque sectBytes : Nat → Ckpt → List Byte
/-- The 16 KiB of a table page other than the Key Vault store's, by its number and the tables (R437). DESIGN CHOICE: log entry 122. -/
opaque tableBytes : Nat → Tables → List Byte
/-- A generation of the twin as its commit record, its stream and its table pages read: what their sections hold. DESIGN CHOICE: log entry 137. -/
opaque ckptRead : List Byte → List Byte → List Byte → Option Ckpt
/-- The retired list and the erase counts of a retired-list page that the twin wrote. DESIGN CHOICE: log entry 120. -/
opaque retiredRead : List Byte → List Nat × Tab Nat
/-- Whether an anchor page that the twin wrote records exhaustion, which R408's layout has no field for. DESIGN CHOICE: log entry 120. -/
opaque anchorExhausted : List Byte → Bool

/-! ### What OTP and the boot ROM hold from manufacture (R449, R454) -/

/-- DEVICE_ID, burned before the device ships. -/
opaque deviceId : Nat
/-- The EUI-64 of a radio port, which the spec names without saying where it comes from. DESIGN CHOICE: log entry 52. -/
opaque portEui : Nat → Nat
/-- The device-unique root key. -/
opaque rootKey : List Byte
/-- The Dravrid public key held in the boot ROM: 97 bytes of uncompressed point (R453, R459). -/
opaque dravridKey : List Byte
/-- Its SHA-384 digest. -/
def dravridHash : List Byte := sha384 dravridKey

/-! ### Keyed placement -/

/-- The keyed set hash of the seen-cache (R108): index, SEQ. -/
opaque seenSet : Nat → Nat → Nat
/-- Whether the reverse map can place an EUI-64 beside those it holds within 64 displacements (R47). DESIGN CHOICE: log entry 5. -/
opaque revPlaces : List Nat → Nat → Bool

/-! ### The physical layers of the standards the spec names (R185, R218) -/

/-- The baseband samples, I and Q, of a PPDU in a PHY mode of IEEE 802.15.4: mode code, PSDU. DESIGN CHOICE: log entry 112. -/
opaque radioModulate : Nat → List Byte → List (Int × Int)
/-- The line samples of a G.9903 frame: FCC band plan, tone map of the payload, PSDU. DESIGN CHOICE: log entry 112. -/
opaque plcModulate : Bool → Nat → List Byte → List Int

/-! ### Numbers of the stepping that the spec does not print -/

/-- Coefficient `k` of the default compensation FIR (R292). -/
opaque defaultCoef : Nat → Int
/-- The sample a filter's sum, in units of 2⁻²² LSB, becomes where it does not fit 24 bits (R286). DEDUCED: log entry 72. -/
opaque firOver : Int → Int
/-- Coefficients of half-band 1 (11 taps) and half-band 2 (31 taps), in units of 2⁻²² (R286). -/
opaque half1Coef : Nat → Int
opaque half2Coef : Nat → Int

end Sys2Proof.Config
end

