-- ==== Sys2Proof/Machine/Packets.lean ====
section
/-! DEFINITION. The packet of each host command: its OPCODE and its PARAM bytes, laid out as the opcode tables say (R350, R364,
R367, R370–R386). -/

namespace Sys2Proof.Machine

/-- A host command as its packet spells it (R350): its pair, TAG and transfer, its OPCODE, and the NPARAM bytes of PARAM. -/
structure HostCmd where
  c : Ctx
  op : Nat
  par : List Byte
  deriving DecidableEq, Repr

/-- A field's bytes, least significant first. -/
def le {w : Nat} (x : BitVec w) : List Byte := leBytes (w / 8) x.toNat

/-- The common layout of the configuration commands (R367): OP, COUNT, two zero bytes, and each entry's PID, SCOPE and VALUE. -/
def cfgPar (op : Byte) (ents : List CfgEntry) : List Byte :=
  op :: BitVec.ofNat 8 ents.length :: zeros 2
    ++ (ents.map (fun e => le e.pid ++ le e.scope ++ le e.value)).flatten

/-- The packet that spells a command, fields from offset 0 of PARAM in the order listed, little-endian (R364); nothing for what is no
host command. -/
def hostCmd : Instr → Option HostCmd
  | .status c => some ⟨c, 0x0101, []⟩
  | .ingestConfig c op ents => some ⟨c, 0x0102, cfgPar op ents⟩
  | .gatewaySet c gwId op af addr => some ⟨c, 0x0103, le gwId ++ le op ++ le af ++ le addr⟩
  | .exportSet c op af port addr => some ⟨c, 0x0104, le op ++ le af ++ le port ++ le addr⟩
  | .configSave c => some ⟨c, 0x0105, []⟩
  | .bind c idx eui kind leg => some ⟨c, 0x0201, leBytes 4 idx.toNat ++ le eui ++ le kind ++ zeros 3 ++ le leg⟩
  | .unbind c idx => some ⟨c, 0x0202, leBytes 4 idx.toNat⟩
  | .block c idx => some ⟨c, 0x0203, leBytes 4 idx.toNat⟩
  | .unblock c idx => some ⟨c, 0x0204, leBytes 4 idx.toNat⟩
  | .coldRead c idx => some ⟨c, 0x0205, leBytes 4 idx.toNat⟩
  | .coldWrite c idx ofs => some ⟨c, 0x0206, leBytes 4 idx.toNat ++ le ofs⟩
  | .ledgerConfig c op ents => some ⟨c, 0x0207, cfgPar op ents⟩
  | .strangerDrain c max _ => some ⟨c, 0x0208, le max⟩
  | .relay c ndg => some ⟨c, 0x0209, le ndg ++ zeros 2⟩
  | .hostPend c idx set => some ⟨c, 0x020A, leBytes 4 idx.toNat ++ le set ++ zeros 3⟩
  | .nodeActivate c lvl num parent => some ⟨c, 0x0301, le lvl ++ zeros 3 ++ le num ++ le parent⟩
  | .nodeDeactivate c lvl num => some ⟨c, 0x0302, le lvl ++ zeros 3 ++ le num⟩
  | .nodeSet c lvl field value num => some ⟨c, 0x0303, le lvl ++ le field ++ le value ++ zeros 1 ++ le num⟩
  | .attach c idx leg => some ⟨c, 0x0304, leBytes 4 idx.toNat ++ le leg⟩
  | .rejectProposal c idx phase => some ⟨c, 0x0305, leBytes 4 idx.toNat ++ le phase ++ zeros 3⟩
  | .nodeMove c lvl num parent => some ⟨c, 0x0306, le lvl ++ zeros 3 ++ le num ++ le parent⟩
  | .weirConfig c op ents => some ⟨c, 0x0401, cfgPar op ents⟩
  | .weirEnable c en => some ⟨c, 0x0402, le en ++ zeros 3⟩
  | .lossClass c lvl cls p0 k1 k2 tolFix tolPpm => some ⟨c, 0x0403, le lvl ++ le cls ++ zeros 2 ++ le p0 ++ le k1 ++ le k2 ++ le tolFix ++ le tolPpm⟩
  | .nodeClass c lvl cls num => some ⟨c, 0x0404, le lvl ++ le cls ++ zeros 2 ++ le num⟩
  | .checkBind c idx lvl num => some ⟨c, 0x0405, leBytes 4 idx.toNat ++ le lvl ++ zeros 3 ++ le num⟩
  | .checkUnbind c idx => some ⟨c, 0x0406, leBytes 4 idx.toNat⟩
  | .intervalResults c interval first count => some ⟨c, 0x0407, le interval ++ le first ++ le count⟩
  | .affinityTest c mode n ncand => some ⟨c, 0x0408, le mode ++ zeros 1 ++ le n ++ le ncand ++ zeros 2⟩
  | .affinityAbort c all n => some ⟨c, 0x0409, le all ++ zeros 1 ++ le n⟩
  | .weirReportDrain c max _ => some ⟨c, 0x040A, le max⟩
  | .vaneConfig c op ents => some ⟨c, 0x0501, cfgPar op ents⟩
  | .scriptLoad c port script ntx => some ⟨c, 0x0502, le port ++ le script ++ le ntx ++ zeros 1⟩
  | .channel c port => some ⟨c, 0x0503, le port ++ zeros 3⟩
  | .leatConfig c op ents => some ⟨c, 0x0601, cfgPar op ents⟩
  | .scheduleLoad c port nstep => some ⟨c, 0x0602, le port ++ zeros 1 ++ le nstep⟩
  | .slotRead c port first count => some ⟨c, 0x0603, le port ++ zeros 1 ++ le first ++ le count ++ zeros 2⟩
  | .slotAssign c port slot idx => some ⟨c, 0x0604, le port ++ zeros 1 ++ le slot ++ leBytes 4 idx.toNat⟩
  | .slotRelease c port slot => some ⟨c, 0x0605, le port ++ zeros 1 ++ le slot⟩
  | .tmOverride c port slot op tm => some ⟨c, 0x0606, le port ++ zeros 1 ++ le slot ++ le op ++ zeros 3 ++ le tm⟩
  | .tailraceConfig c op ents => some ⟨c, 0x0701, cfgPar op ents⟩
  | .tariffLoad c slot ver size => some ⟨c, 0x0702, le slot ++ zeros 3 ++ le ver ++ le size⟩
  | .tariffAssign c slot n => some ⟨c, 0x0703, le slot ++ zeros 1 ++ le n⟩
  | .campaignLoad c camp imgVer size => some ⟨c, 0x0704, le camp ++ zeros 3 ++ le imgVer ++ le size⟩
  | .campaignTarget c camp op kind n => some ⟨c, 0x0705, le camp ++ le op ++ le kind ++ zeros 1 ++ le n ++ zeros 2⟩
  | .campaignStart c camp deadline => some ⟨c, 0x0706, le camp ++ zeros 1 ++ le deadline⟩
  | .campaignActivate c camp => some ⟨c, 0x0707, le camp ++ zeros 3⟩
  | .campaignAbort c camp => some ⟨c, 0x0708, le camp ++ zeros 3⟩
  | .campaignRelease c camp => some ⟨c, 0x0709, le camp ++ zeros 3⟩
  | .campaignReload c camp size => some ⟨c, 0x070A, le camp ++ zeros 3 ++ le size⟩
  | .setpoint c idx body _ => some ⟨c, 0x070B, leBytes 4 idx.toNat ++ body⟩
  | .setpointWithdraw c idx => some ⟨c, 0x070C, leBytes 4 idx.toNat⟩
  | .recordRead c first count => some ⟨c, 0x070D, le first ++ le count⟩
  | .taiReportDrain c max _ => some ⟨c, 0x070E, le max⟩
  | .flumeConfig c op ents => some ⟨c, 0x0801, cfgPar op ents⟩
  | .channelConfig c ch role invert scale => some ⟨c, 0x0802, le ch ++ le role ++ le invert ++ zeros 1 ++ le scale⟩
  | .dcBlocker c ch set load dc => some ⟨c, 0x0803, le ch ++ le set ++ le load ++ zeros 1 ++ le dc⟩
  | .coefLoad c bank crc => some ⟨c, 0x0804, le bank ++ zeros 3 ++ le crc⟩
  | .bankSwap c f => some ⟨c, 0x0805, le f ++ zeros 2⟩
  | .decimReset c => some ⟨c, 0x0806, []⟩
  | .factoryCal c ch rcd => some ⟨c, 0x0807, le ch ++ zeros 3 ++ rcd⟩
  | .userCal c ch rcd => some ⟨c, 0x0808, le ch ++ zeros 3 ++ rcd⟩
  | .meteringPoint c point nelem ref alvl anum elems => some ⟨c, 0x0809, le point ++ le nelem ++ le ref ++ le alvl ++ le anum ++ (elems.map le).flatten⟩
  | .flumeIntervals c point first count => some ⟨c, 0x080A, le point ++ le first ++ le count ++ zeros 1⟩
  | .fantailConfig c op ents => some ⟨c, 0x0901, cfgPar op ents⟩
  | .timeSet c sec nsec => some ⟨c, 0x0902, le sec ++ le nsec⟩
  | .timeForce c mode src sec nsec => some ⟨c, 0x0903, le mode ++ le src ++ zeros 2 ++ le sec ++ le nsec⟩
  | .utcOffset c ofs leap => some ⟨c, 0x0904, le ofs ++ le leap ++ zeros 1⟩
  | .ptpTransmit c port mode id len => some ⟨c, 0x0905, le port ++ le mode ++ le id ++ le len ++ zeros 2⟩
  | .stampDrain c max _ => some ⟨c, 0x0906, le max⟩
  | .granaryConfig c op ents => some ⟨c, 0x0A01, cfgPar op ents⟩
  | .hmrSet c size base => some ⟨c, 0x0A02, le size ++ zeros 2 ++ le base⟩
  | .archiveRead c ofs _ => some ⟨c, 0x0A03, le ofs⟩
  | .mediaStatus c ch => some ⟨c, 0x0A04, le ch ++ zeros 3⟩
  | .format c ch confirm => some ⟨c, 0x0A05, le ch ++ zeros 3 ++ le confirm⟩
  | .brakeConfig c op ents => some ⟨c, 0x0B01, cfgPar op ents⟩
  | .claimSet c op level => some ⟨c, 0x0B02, le op ++ le level ++ zeros 2⟩
  | .checkpoint c => some ⟨c, 0x0B03, []⟩
  | .keyLoad c idx klen => some ⟨c, 0x0C01, leBytes 4 idx.toNat ++ le klen ++ zeros 3⟩
  | .deviceKey c which klen => some ⟨c, 0x0C02, le which ++ le klen ++ zeros 2⟩
  | .lifecycle c target => some ⟨c, 0x0C03, le target ++ zeros 3⟩
  | .firewallRule c rule master perm base size => some ⟨c, 0x0C04, le rule ++ le master ++ le perm ++ zeros 1 ++ le base ++ le size⟩
  | .firewallRelease c master => some ⟨c, 0x0C05, le master ++ zeros 3⟩
  | .powerState c target => some ⟨c, 0x0D01, le target ++ zeros 3⟩
  | .wakeConfig c addr src => some ⟨c, 0x0D02, le addr ++ le src ++ zeros 2⟩
  | .reset c kind => some ⟨c, 0x0D03, le kind ++ zeros 3⟩
  | .logRead c start max _ => some ⟨c, 0x0E01, le start ++ le max ++ zeros 2⟩
  | .logView c op _ => some ⟨c, 0x0E02, le op ++ zeros 3⟩
  | .logConfig c op ents => some ⟨c, 0x0E03, cfgPar op ents⟩
  | .logRestart c => some ⟨c, 0x0E04, []⟩
  | .lastgasp c op => some ⟨c, 0x0E05, le op ++ zeros 3⟩
  | .nop c params => some ⟨c, 0x0F01, params⟩
  | .laneStop c lane => some ⟨c, 0x0F02, le lane ++ zeros 3⟩
  | .laneRestart c lane _ => some ⟨c, 0x0F03, le lane ++ zeros 3⟩
  | .selfTest c test arg _ => some ⟨c, 0x0F04, le test ++ le arg ++ zeros 2⟩
  | .faultClear c cause _ => some ⟨c, 0x0F05, le cause ++ zeros 3⟩
  | .queueFlush c qid => some ⟨c, 0x0F06, le qid ++ zeros 3⟩
  | .identify _ _ => none
  | .lock _ _ _ => none
  | .data _ _ _ _ => none
  | .done _ _ _ => none
  | .release _ _ => none
  | .disarm _ _ => none
  | .debugChallenge _ _ => none
  | .debugToken _ _ _ _ => none
  | .provisioningSession _ _ _ => none
  | .debugAccess _ _ _ => none
  | .hqTailWrite _ _ _ => none
  | .bqHeadWrite _ _ _ => none
  | .qpEnable _ _ => none
  | .qpDisable _ _ => none
  | .evtPendClear _ _ => none
  | .devAccessErrClear _ => none
  | .secFwViolInfoClear _ => none
  | .fanSnapTake _ => none
  | .secFwReleaseWrite _ => none
  | .devUpdRevertWrite _ => none
  | .devUpdHoldWrite _ => none
  | .devSvcOutLenWrite _ _ => none
  | .devSvcInAckWrite _ => none
  | .paceCtrlWrite _ => none
  | .msixVectorUnmask _ => none
  | .rcRegisterRead _ _ => none
  | .registerWrite _ => none
  | .bar2Write _ => none
  | .darkBlockAccess _ _ _ _ => none
  | .mgmtRead _ _ => none
  | .mgmtWrite _ _ => none
  | .powerOn _ => none
  | .systemReset => none
  | .hostReset => none
  | .d3hotEntry => none
  | .d0Return => none
  | .bootChain _ _ => none
  | .wakeEvent _ => none
  | .wakeAttemptTimeout _ => none
  | .wakeRetryTimer => none
  | .wakeComplete => none
  | .powerEntryStep => none
  | .bkpActiveRise => none
  | .tiltMoving => none
  | .usbDetach => none
  | .clockLoss _ => none
  | .clockRestore _ => none
  | .stageWatchdogTrip _ _ _ => none
  | .paceWindowEnd => none
  | .paceSpeedRefresh _ => none
  | .ingLoadRefresh => none
  | .headraceDatagram _ => none
  | .nackDatagram _ => none
  | .laneDraw => none
  | .sluiceVerdict _ _ _ => none
  | .seenCacheInsert _ => none
  | .quernAuth _ => none
  | .keyUnwrapDone _ _ => none
  | .bolterRules _ => none
  | .ledgerUpdate _ _ => none
  | .rateTokenRefill _ => none
  | .entryRebuild _ => none
  | .rebuildFreeCleanup _ => none
  | .absenceSweep => none
  | .seenCacheWalk => none
  | .gwAckSend => none
  | .batchTimeout => none
  | .counterReserveRecord _ => none
  | .vanePpduReceived _ _ => none
  | .iqSyncLoss _ _ => none
  | .iqLock _ _ => none
  | .ackCutoff _ _ => none
  | .vaneTxEnd _ => none
  | .csmaComplete _ _ _ _ => none
  | .vaneAckWaitExpiry _ => none
  | .beaconDue _ => none
  | .beaconDrop _ => none
  | .relayTime _ => none
  | .relayLateDrop _ => none
  | .spiTransactionDone _ _ => none
  | .upstreamDeadline => none
  | .afeSyncLoss _ _ => none
  | .leatStepStart _ => none
  | .pollSend _ _ => none
  | .responseReceived _ _ => none
  | .responseLost _ _ => none
  | .phaseWrite => none
  | .discAnswerReceived _ _ => none
  | .discoveryEnd _ => none
  | .idleStepEnd _ => none
  | .plcAfeCalibrationDone _ => none
  | .tmRefreshDue _ _ => none
  | .confirmProcess => none
  | .pendFlagWrite _ => none
  | .tdfMacOutcome => none
  | .tariffSweepDone => none
  | .setpointRetry _ _ => none
  | .setpointExpire _ => none
  | .announceElapsed _ => none
  | .fragGapSend _ => none
  | .campaignDeadline _ => none
  | .abortHoldElapsed _ => none
  | .repairResend _ => none
  | .modulatorStuck _ _ => none
  | .channelRestore _ _ => none
  | .msyncRise => none
  | .settlingEnd => none
  | .fadeComplete => none
  | .flumeSecondEnd _ => none
  | .zeroCrossing _ _ => none
  | .flumeIntervalClose _ _ _ => none
  | .weirPartAccumulate => none
  | .intervalEnd => none
  | .lateWindowEnd => none
  | .closeComplete _ _ _ => none
  | .affinityTestEnd _ => none
  | .ptpMessageReceived _ _ _ _ _ => none
  | .delayReqSend _ => none
  | .ptpTransparentForward _ _ _ => none
  | .ppsInEdge _ => none
  | .sourceLost _ => none
  | .switchHoldElapsed => none
  | .ppsOutPulse => none
  | .rtcLoad => none
  | .leapSecondEnd => none
  | .hopperFetch _ _ => none
  | .binReplyWrite _ _ _ => none
  | .binAggTimer _ => none
  | .holdoffExpiry _ => none
  | .queueFlushBoundary _ => none
  | .queueScrubVisit _ _ => none
  | .queueStall _ => none
  | .freezeTimeout _ => none
  | .nandProgramDone _ _ _ _ => none
  | .nandEraseDone _ _ _ => none
  | .nandReadDone _ _ _ _ => none
  | .journalTimer => none
  | .arcFlushTimer => none
  | .patrolRead _ => none
  | .targetNotReady _ _ => none
  | .mountRebuildComplete _ _ _ _ => none
  | .hmrDmaError _ => none
  | .checkpointComplete _ => none
  | .ckptPeriodTimer => none
  | .busIdle => none
  | .claimRoundEnd _ _ => none
  | .claimLineFault _ _ => none
  | .claimWatcherFire _ => none
  | .restoreComplete _ _ => none
  | .proofTimer => none
  | .peerSilent => none
  | .tokenLockoutEnd => none
  | .debugLimitExpiry => none
  | .comparatorSelfCheck _ _ _ => none
  | .tbRateCheck _ => none
  | .tbMonitorStop => none
  | .heartbeatMiss _ _ => none
  | .bankRotation _ _ => none
  | .safeNfaultReadback _ _ => none
  | .safeStateClaimDrop => none
  | .loaderChunkDone _ => none
  | .healthConfirm => none
  | .trialWindowExpiry => none
  | .trialTimerReset => none
  | .stagingLockIdle => none
  | .afeSyncLock _ _ => none
  | .bkpActiveFall => none
  | .tiltRelease => none
  | .safeStateDrillEnd _ => none
  | .ptpFrameEgress _ _ => none
  | .dmaTransferCompletion _ _ _ => none
  | .sramScrub _ => none
  | .rampEnd => none
  | .usbAttach => none
  | .supplyLoss _ => none

end Sys2Proof.Machine
end

