-- ==== Sys2Proof/Machine/Ops.lean ====
section
/-! DEFINITION. The named operations over tables, queues and the state's parts that every meaning uses. -/

namespace Sys2Proof.Machine

abbrev Res := Host.Outcome State Fault Refusal

/-! ### Sparse tables -/

/-- What a table holds at a key; `d` where nothing is listed. -/
def tget {α : Type} (d : α) : Tab α → Nat → α
  | [], _ => d
  | (k', v) :: t, k => if k < k' then d else if k = k' then v else tget d t k

/-- A table with the value at a key replaced; writing the default removes the entry. -/
def tset {α : Type} [DecidableEq α] (d : α) : Tab α → Nat → α → Tab α
  | [], k, v => if v = d then [] else [(k, v)]
  | (k', v') :: t, k, v =>
    if k < k' then (if v = d then (k', v') :: t else (k, v) :: (k', v') :: t)
    else if k = k' then (if v = d then t.dropWhile (fun e => decide (e.1 ≤ k)) else (k, v) :: t)
    else (k', v') :: tset d t k v

/-- A table with the value at a key changed by a function. -/
def tmod {α : Type} [DecidableEq α] (d : α) (t : Tab α) (k : Nat) (f : α → α) : Tab α := tset d t k (f (tget d t k))

/-- A table with every listed value changed by a function. -/
def tmap {α : Type} [DecidableEq α] (d : α) (f : α → α) (t : Tab α) : Tab α := (t.map (fun e => (e.1, f e.2))).filter (fun e => decide (e.2 ≠ d))

/-- Keys strictly rising. -/
def tsorted {α : Type} : Tab α → Bool
  | [] => true
  | [_] => true
  | (a, _) :: (b, v) :: t => decide (a < b) && tsorted ((b, v) :: t)

/-- The canonical form of a table: keys strictly rising and no entry equal to the default. -/
def twf {α : Type} [DecidableEq α] (d : α) (t : Tab α) : Bool := tsorted t && t.all (fun e => decide (e.2 ≠ d))

/-- The entries of a table that satisfy a predicate, in key order. -/
def tfilter {α : Type} (t : Tab α) (p : Nat → α → Bool) : Tab α := t.filter (fun e => p e.1 e.2)

/-- A list with its element at a place replaced by a function's value. -/
def lmod {α : Type} (l : List α) (n : Nat) (f : α → α) : List α :=
  match l, n with
  | [], _ => []
  | a :: t, 0 => f a :: t
  | a :: t, n + 1 => a :: lmod t n f

/-- A list without the element at a place. -/
def ldel {α : Type} (l : List α) (n : Nat) : List α := l.take n ++ l.drop (n + 1)

/-! ### Free values -/

/-- A free value of `w` bits, and the state with it drawn. -/
def drawFree (w : Nat) (s : State) : Nat × State := (Config.freeNat s.free % 2 ^ w, { s with free := s.free + 1 })

/-! ### Outputs and counters -/

/-- DESIGN CHOICE: log entry 15. -/
def emit (o : Out) (s : State) : State := { s with out := o :: s.out }

/-- A read-clear counter, by BAR0 address. -/
def cnt (a : Nat) (s : State) : Nat := tget 0 s.rc a

/-- Add to a read-clear counter, saturating at 0xFFFF_FFFF. -/
def bump (a n : Nat) (s : State) : State := { s with rc := tmod 0 s.rc a (fun v => sat32 (v + n)) }

/-! ### Time (R311–R318) -/

/-- TB periods in a second, a millisecond and a microsecond (one period is 2.5 ns). DEDUCED: log entry 8. -/
def tickS : Nat := 400000000
/-- DEDUCED: log entry 8. -/
def tickMs : Nat := 400000
def tickUs : Nat := 400

/-- The Fantail counter (R311). -/
def rawCount (s : State) : Nat := (s.elapsed - s.fan.tbStart) % 2 ^ 48

/-- The time value in units of 2⁻⁴¹ ns (R312). -/
def nowFix (s : State) : Nat :=
  s.fan.baseFix + ((rawCount s + 2 ^ 48 - s.fan.baseRaw) % 2 ^ 48) * 5 * ((2 : Int) ^ 40 + s.fan.rate).toNat

/-- The time value in nanoseconds. -/
def nowNs (s : State) : Nat := nowFix s / 2 ^ 41

/-- The Fantail seconds count. -/
def nowS (s : State) : Nat := nowNs s / 1000000000

/-- The 32-bit nanosecond stamp (R316). -/
def nowStamp (s : State) : Nat := nowNs s % 2 ^ 32

/-- Whether `d` TB periods or more have passed since a tick. -/
def passed (s : State) (since d : Nat) : Bool := decide (since + d ≤ s.elapsed)

/-- Year, month and day of a count of days from 1970-01-01 (proleptic Gregorian). -/
def civil (days : Nat) : Nat × Nat × Nat :=
  let z := days + 719468
  let era := z / 146097
  let doe := z % 146097
  let yoe := (doe - doe / 1460 + doe / 36524 - doe / 146096) / 365
  let doy := doe - (365 * yoe + yoe / 4 - yoe / 100)
  let mp := (5 * doy + 2) / 153
  let d := doy - (153 * mp + 2) / 5 + 1
  let m := if mp < 10 then mp + 3 else mp - 9
  (yoe + era * 400 + (if m ≤ 2 then 1 else 0), m, d)

/-- A calendar word (R318, R319): Fantail seconds, microseconds, UTC offset, leap61 flag, SOURCE and ACQ. -/
def calWord (secs micro ofs : Nat) (leap61 : Bool) (src : Nat) (acq : Bool) : Nat :=
  let utc := ((secs : Int) - ((ofs : Int) - 37)).toNat
  let leapNow := leap61 && decide (utc % 86400 = 0 ∧ 0 < utc)
  let day := if leapNow then utc / 86400 - 1 else utc / 86400
  let sod := utc % 86400
  let r1_ := civil day
  let y := r1_.1
  let m := r1_.2.1
  let d := r1_.2.2
  let r2_ := if leapNow then (23, 59, 60) else (sod / 3600, sod / 60 % 60, sod % 60)
  let hh := r2_.1
  let mm := r2_.2.1
  let ss := r2_.2.2
  y % 4096 * 2 ^ 52 + m * 2 ^ 48 + d * 2 ^ 43 + hh * 2 ^ 38 + mm * 2 ^ 32 + ss * 2 ^ 26 + micro * 2 ^ 6
    + src % 8 * 2 ^ 3 + b2n acq * 4

/-- The AON RTC in 2⁻¹⁵ s (R326). -/
def rtcNow (s : State) : Nat := s.pwr.rtcBase + (s.elapsed - s.pwr.rtcAt) * 32768 / tickS

/-- The UTC seconds count (R318). -/
def utcNow (s : State) : Nat := ((nowS s : Int) - ((s.fan.utcOfs : Int) - 37)).toNat

/-- The offset the calendar shows: a flagged leap second moves it at the day's end (R319). -/
def calOfs (s : State) : Nat :=
  let f := s.fan
  if f.leap61 ∧ f.leapAt + 1 ≤ utcNow s then f.utcOfs + 1
  else if f.leap59 ∧ f.leapAt ≤ utcNow s + 1 then f.utcOfs - 1
  else f.utcOfs

/-- The calendar word of the present instant, from Fantail; time without an accepted sample of a source carries ACQ 1 (R323). -/
def calNow (s : State) : Nat :=
  calWord (nowS s) (nowNs s % 1000000000 / 1000) (calOfs s) (s.fan.leap61 && decide (utcNow s = s.fan.leapAt)) s.fan.rep
    (s.fan.st != .sync || s.fan.rep == 3)

/-- The calendar word of the present instant, from the AON RTC (R399). -/
def calRtc (s : State) : Nat :=
  calWord (rtcNow s / 32768) (rtcNow s % 32768 * 1000000 / 32768) s.fan.utcOfs false 3 true

/-! ### Power and darkness (R32, R490) -/

/-- The domain a block's clock comes from, where the loss of one domain darkens the block (R28). -/
def blkDom : Blk → Option Dom
  | .hop | .dev | .evt => some .pcie
  | .lea | .flu => some .afe
  | .gra => some .nand
  | _ => none

/-- A block is dark: its power state powers it off, the TB PLL of a start-up has not locked, or its clock is declared lost (R32, R490,
R503). -/
def dark (s : State) (b : Blk) : Bool :=
  (match s.pwr.st with
   | .run => false
   | .trim => b == .van || b == .lea
   | .doze => !(b == .dev || b == .hop || b == .evt || b == .pwr)
   | .hush | .off => true) ||
  (s.pwr.st == .run && (s.pwr.waking.isSome || s.pwr.wakeFail)) ||
  (match blkDom b with
   | some d => s.dev.unclocked.contains d
   | none => false)

/-- A radio port's sample clock is declared lost: the port is dark (R31, R181). -/
def unclockedPort (s : State) (p : Nat) : Bool := s.dev.unclocked.any (fun d => match d with | .rfiq q => q.val == p | _ => false)

/-- The Ethernet ports have their clock (R28, R31). -/
def ethUp (s : State) : Bool := !s.dev.unclocked.contains .eth

/-- The memory controller has its clock (R28, R31). -/
def memUp (s : State) : Bool := !s.dev.unclocked.contains .mem

/-- A datagram or Ethernet frame leaves, where the ports have their clock; an access to the dark domain has no effect (R32). -/
def emitEth (o : Out) (s : State) : State := if ethUp s then emit o s else s

/-- An entry sequence runs, or the radio and the line are being taken down for TRIM: no new transmission starts, receptions are
abandoned (R491, R492). -/
def entering (s : State) : Bool := s.pwr.entry.isSome

/-! ### MSI-X and events (R357–R359) -/

def vecMasked (s : State) (v : Nat) : Bool := s.hop.pcie.funcMask || !s.evt.unmasked.getLsbD v

def vecHeld (s : State) (v : Nat) : Bool :=
  let h := tget 0 s.evt.holdoff v
  let l := tget 0 s.evt.lastMsg v
  decide (0 < h ∧ 0 < l) && !passed s (l - 1) (h * tickUs)

def setBit {w : Nat} (x : BitVec w) (k : Nat) : BitVec w := x ||| (BitVec.ofNat w 1 <<< k)
def clrBit {w : Nat} (x : BitVec w) (k : Nat) : BitVec w := x &&& ~~~(BitVec.ofNat w 1 <<< k)

/-- Send a vector's message; it covers every Bin notification due on the vector (R359). -/
def sendMsg (v : Nat) (s : State) : State :=
  let e := s.evt
  let addr := tget 0 e.msix (16 * v) + tget 0 e.msix (16 * v + 4) * 2 ^ 32
  { s with
    evt := { e with owed := clrBit e.owed v, lastMsg := tset 0 e.lastMsg v (s.elapsed + 1) }
    hop := { s.hop with pairs := s.hop.pairs.map (fun p => if p.2.vector = v then (p.1, { p.2 with unsig := 0 }) else p) }
    out := .msix v addr (tget 0 e.msix (16 * v + 8)) :: s.out }

/-- The firewall has frozen a master (R465). -/
def frozen (s : State) (m : Nat) : Bool := s.sec.frozen.getLsbD m

/-- An engine takes no step: its block is dark, or the firewall has frozen the master its accesses go under, which then receives no
grant (R32, R40, R465). DESIGN CHOICE: log entry 13. -/
def halted (s : State) (b : Blk) (m : Nat) : Bool := dark s b || frozen s m

/-- The function's own writes cannot go: D3hot (R338), the PCIe DMA engine frozen (R465), or the PCIE clock lost (R31). -/
def pcieHeld (s : State) : Bool := s.hop.d3hot || frozen s 4 || s.dev.unclocked.contains .pcie

/-- No message goes on any vector: the function's writes cannot go, or MSI-X is not enabled (R337). PRESUMED: log entry 20. -/
def msgHeld (s : State) : Bool := pcieHeld s || !s.hop.pcie.msixEn

/-- A cause falls due on a vector: its message goes, or is owed while a mask, holdoff, D3hot, a freeze or a cleared MSI-X Enable withholds
it. -/
def signal (v : Nat) (s : State) : State :=
  if vecMasked s v || vecHeld s v || msgHeld s then { s with evt := { s.evt with owed := setBit s.evt.owed v } }
  else sendMsg v s

/-- The pending bit of a source, and its message where its route is enabled (R357). -/
def raiseBit (code : Nat) (s : State) : State :=
  let s1 := { s with evt := { s.evt with pend := setBit s.evt.pend code } }
  let r := tget 0 s.evt.route code
  if bit r 8 then signal (bits r 0 5) s1 else s1

/-! ### Internal queues (R387–R391) -/

def qcap : Nat → Nat
  | 0 => 4096 | 1 => 1024 | 2 => 1024 | 3 => 64 | 4 => 256 | 5 => 1024 | _ => 65536

def queue (s : State) (q : Nat) : List QItem := tget [] s.que.q q
def setQueue (q : Nat) (l : List QItem) (s : State) : State := { s with que := { s.que with q := tset [] s.que.q q l } }

/-- QUE block counter addresses (R402). -/
def queLost (q : Nat) : Nat := 0xF0108 + 0x20 * q
def quePoison (q : Nat) : Nat := 0xF010C + 0x20 * q
def queFlushed (q : Nat) : Nat := 0xF0110 + 0x20 * q

/-! ### The archive ring (R423, R424) -/

/-- Units the archive ring holds: ARC_RING MiB of 16 KiB units (R426). -/
def ringCap (s : State) : Nat := (tget (64 : Int) s.cfg (10 * 2 ^ 32 + 4 * 2 ^ 16)).toNat * 64

/-- Units waiting in the ring, open ones included. -/
def ringDepth (s : State) : Nat := s.gra.ring.length + (s.gra.opens.filter (fun e => e.2.isSome)).length

/-- Items lost from a stream add to LOST of the stream's next unit: the oldest of its units in the ring, else its open unit, else the one
that will be opened (R423, R424). -/
def giveLost (stream n : Nat) (s : State) : State :=
  let g := s.gra
  let more := fun (u : OpenUnit) => { u with lost := sat32 (u.lost + n) }
  match g.ring.findIdx? (fun u => u.stream == stream), tget none g.opens stream with
  | some k, _ => { s with gra := { g with ring := g.ring.modify k more } }
  | none, some u => { s with gra := { g with opens := tset none g.opens stream (some (more u)) } }
  | none, none => { s with gra := { g with ringLost := tmod 0 g.ringLost stream (fun v => sat32 (v + n)) } }

/-- Items lost at the ring are counted, and told of at most once a second with the items lost in the last second (R423, R428). -/
def ringLoss (stream n : Nat) (s : State) : State × List (Nat × Nat × Nat) :=
  let g := s.gra
  let run := (s.elapsed, n) :: (tget [] g.lossRun stream).filter (fun e => !passed s e.1 tickS)
  let s1 := bump 0xA0014 n { s with gra := { g with lossRun := tset [] g.lossRun stream run } }
  let last := tget 0 g.lossAt stream
  if last = 0 ∨ passed s (last - 1) tickS then
    ({ s1 with gra := { s1.gra with lossAt := tset 0 s1.gra.lossAt stream (s.elapsed + 1) } }, [(83, stream, (run.map (·.2)).sum)])
  else (s1, [])

/-- A closed unit joins the ring, over the oldest one when it is full: its items are lost, and what its own LOST told goes on (R423). -/
def ringPut (u : OpenUnit) (s : State) : State × List (Nat × Nat × Nat) :=
  match s.gra.ring with
  | o :: rest =>
    if ringDepth s ≥ ringCap s then
      ringLoss o.stream o.items.length (giveLost o.stream (o.items.length + o.lost) { s with gra := { s.gra with ring := rest ++ [u] } })
    else ({ s with gra := { s.gra with ring := s.gra.ring ++ [u] } }, [])
  | [] => ({ s with gra := { s.gra with ring := [u] } }, [])

/-- Close a stream's open unit. -/
def closeUnit (stream : Nat) (short : Bool) (s : State) : State × List (Nat × Nat × Nat) :=
  match tget none s.gra.opens stream with
  | none => (s, [])
  | some u => ringPut { u with short := short } { s with gra := { s.gra with opens := tset none s.gra.opens stream none } }

/-- An item enters the archive ring whole (R423): the open unit of its stream, or a new one when it does not fit. -/
def arcPush (stream : Nat) (item : List Byte) (seq : Nat) (s : State) : State × List (Nat × Nat × Nat) :=
  let used := ((tget none s.gra.opens stream).map (fun u => (u.items.map (·.length)).sum)).getD 0
  let r3_ := if used + item.length > 16320 then closeUnit stream false s else (s, [])
  let s1 := r3_.1
  let ev := r3_.2
  let away := s.gra.arc.st == .readOnly || s.gra.arc.st == .mounting
  let u : OpenUnit := match tget none s1.gra.opens stream with
    | some u => { u with items := u.items ++ [item], lastS := nowS s % 2 ^ 32, diverted := u.diverted || away }
    | none => { stream := stream, items := [item], firstS := nowS s % 2 ^ 32, lastS := nowS s % 2 ^ 32, firstSeq := seq % 2 ^ 32,
                lost := tget 0 s1.gra.ringLost stream, diverted := away, since := s.elapsed }
  let fresh := (tget none s1.gra.opens stream).isNone
  ({ s1 with gra := { s1.gra with opens := tset none s1.gra.opens stream (some u),
                                  ringLost := if fresh then tset 0 s1.gra.ringLost stream 0 else s1.gra.ringLost } }, ev)

/-! ### Event Recorder (R393–R399) -/

/-- PLANE of a record (R542). -/
def planeOf (code : Nat) : Nat :=
  if code ≤ 71 then 0 else if code ≤ 111 then 2 else if code ≤ 113 then 1 else if code ≤ 127 then 2 else 1

/-- An event record's 32 bytes (R393). -/
def recBytes (r : Rec) : List Byte :=
  leBytes 2 r.code ++ leBytes 2 (r.supp + planeOf r.code * 2 ^ 8 + b2n r.step * 2 ^ 10 + b2n r.lg * 2 ^ 11)
    ++ leBytes 4 r.seq ++ leBytes 8 r.cal ++ leBytes 4 r.p0 ++ leBytes 4 r.p1 ++ leBytes 4 r.p2 ++ leBytes 4 r.p3

def bankCode (c : Nat) : Bool := decide (c = 101 ∨ (102 ≤ c ∧ c ≤ 111) ∨ (120 ≤ c ∧ c ≤ 127))

/-- A record into the last-gasp bank, which keeps its first eight. -/
def bankRec (r : Rec) (s : State) : State :=
  if s.log.bank.length < 8 then
    { s with log := { s.log with bank := s.log.bank ++ [{ r with lg := true }], lgSticky := true } }
  else bump 0xE0018 1 s

/-- After a change of depth: the highest depth seen, and whether the high-water event is due (R402, R403). -/
def depthMark (q : Nat) (s : State) : State × List (Nat × Nat × Nat) :=
  let n := (queue s q).length
  let s1 := { s with que := { s.que with hwm := tmod 0 s.que.hwm q (max n) } }
  if 4 * n ≥ 3 * qcap q ∧ !s1.que.hwRaised.contains q then
    ({ s1 with que := { s1.que with hwRaised := q :: s1.que.hwRaised } }, [(117, q, n)])
  else if 2 * n < qcap q then ({ s1 with que := { s1.que with hwRaised := s1.que.hwRaised.erase q } }, [])
  else (s1, [])

/-- RATE and BURST of a code (R400). -/
def logScope (code : Nat) : Nat × Nat := (2 + code / 256, code % 256 * 256)

def logRate (s : State) (code : Nat) : Nat :=
  (tget (if 120 ≤ code ∧ code ≤ 127 then (65535 : Int) else 16) s.cfg
    (14 * 2 ^ 32 + (logScope code).1 * 2 ^ 16 + (logScope code).2)).toNat

def logBurst (s : State) (code : Nat) : Nat :=
  (tget (if 120 ≤ code ∧ code ≤ 127 then (255 : Int) else 64) s.cfg
    (14 * 2 ^ 32 + (logScope code).1 * 2 ^ 16 + (logScope code).2 + 1)).toNat

/-- Whether a record of a code passes its bucket (R396), and the state with the token taken or the record withheld. -/
def takeToken (code : Nat) (s : State) : Bool × State :=
  if (108 ≤ code ∧ code ≤ 111) ∨ logRate s code = 65535 then (true, s)
  else
    let b := tget {} s.log.buckets code
    if logRate s code ≠ 0 ∧ b.used < logBurst s code then
      let b' := { b with used := b.used + 1, since := if b.used = 0 then s.elapsed else b.since,
                         regained := if b.used = 0 then 0 else b.regained }
      (true, { s with log := { s.log with buckets := tset {} s.log.buckets code b' } })
    else
      (false, bump 0xE001C 1 { s with log := { s.log with buckets := tset {} s.log.buckets code { b with supp := b.supp + 1 } } })

/-- Records held: in memory and in the hold buffer (R395). -/
def logCount (s : State) : Nat := s.log.mem.length + (queue s 4).length

/-- Sequence numbers run 1 to 0xFFFF_FFFF and start again at 1 (R394). -/
def seqAfter (n : Nat) : Nat := if n = 0xFFFFFFFF then 1 else n + 1

/-- Store a record with the next sequence number, in the hold buffer while a freeze stands;
ARC_EVENTS sends it to the archive too (R423). -/
def storeRec (code p0 p1 p2 p3 : Nat) (s0 : State) : State × List (Nat × Nat × Nat) :=
  let l := s0.log
  let b := tget {} l.buckets code
  let r : Rec := { code := code, supp := min b.supp 255, step := l.stepMark, seq := l.nextSeq, cal := calNow s0,
                   p0 := p0 % 2 ^ 32, p1 := p1 % 2 ^ 32, p2 := p2 % 2 ^ 32, p3 := p3 % 2 ^ 32 }
  let on := tget (1 : Int) s0.cfg (10 * 2 ^ 32 + 3 * 2 ^ 16) == 1
  let r4_ := if on then arcPush 2 (recBytes r) r.seq s0 else (s0, [])
  let s := r4_.1
  let ev := r4_.2
  let l' := { l with nextSeq := seqAfter l.nextSeq, newest := l.nextSeq, stepMark := false,
                     buckets := tset {} l.buckets code { b with supp := 0 } }
  if l.freeze.isSome then
    let m := depthMark 4 (setQueue 4 (queue s 4 ++ [{ body := .rcd r, born := s.elapsed }]) { s with log := l' })
    (m.1, ev ++ m.2)
  else ({ s with log := { l' with mem := r :: l.mem } }, ev)

/-- A record asked of the recorder (R393–R399): the state after, and the sources raised in turn with their parameters. -/
def logRecord (code p0 p1 p2 p3 : Nat) (s : State) : State × List (Nat × Nat × Nat) :=
  if dark s .log then
    if bankCode code then
      (bankRec { code := code, seq := 0, cal := calRtc s, p0 := p0 % 2 ^ 32, p1 := p1 % 2 ^ 32, p2 := p2 % 2 ^ 32,
                 p3 := p3 % 2 ^ 32 } (if s.log.bank.length < 8 then s else bump 0xE0018 1 s), [])
    else (bump 0xE0018 1 s, [])
  else if s.log.failed then
    if bankCode code ∧ s.log.bank.length < 8 then
      let b := tget {} s.log.buckets code
      (bankRec { code := code, supp := min b.supp 255, step := s.log.stepMark, seq := s.log.nextSeq, cal := calNow s
                 p0 := p0 % 2 ^ 32, p1 := p1 % 2 ^ 32, p2 := p2 % 2 ^ 32, p3 := p3 % 2 ^ 32 }
        { s with log := { s.log with nextSeq := seqAfter s.log.nextSeq, newest := s.log.nextSeq, stepMark := false
                                     buckets := tset {} s.log.buckets code { b with supp := 0 } } }, [])
    else (bump 0xE0018 1 s, [])
  else
    let r5_ := if s.log.full then (false, bump 0xE0018 1 s) else takeToken code s
    let ok := r5_.1
    let s1 := r5_.2
    if !ok then (s1, [])
    else if logCount s1 = 32767 then
      let r6_ := storeRec 109 s1.log.nextSeq 0 0 0 (bump 0xE0018 1 s1)
      let s2 := r6_.1
      let ev := r6_.2
      ({ s2 with log := { s2.log with full := true } }, (109, 0, 0) :: ev)
    else if s1.log.freeze.isSome ∧ (queue s1 4).length ≥ 255 then
      (bump (queLost 4) 1 (bump 0xE0018 1 s1), if cnt (queLost 4) s1 = 0 then [(114, 4, 1)] else [])
    else
      let r7_ := storeRec code p0 p1 p2 p3 s1
      let s2 := r7_.1
      let ev := r7_.2
      if logCount s2 = 24576 ∧ !s2.log.highWater then
        ({ s2 with log := { s2.log with highWater := true } }, (108, if s2.log.freeze.isSome then s2.log.freezeBound else s2.log.newest, 0) :: ev)
      else (s2, ev)

/-- Raise an event source, and in turn the sources its record raises; a source raises at most three others in turn.
DEDUCED: log entry 81. -/
def raiseN : Nat → Nat → Nat → Nat → Nat → Nat → State → State
  | 0, code, _, _, _, _, s => raiseBit code s
  | n + 1, code, p0, p1, p2, p3, s =>
    let r8_ := logRecord code p0 p1 p2 p3 (raiseBit code s)
    let s1 := r8_.1
    let more := r8_.2
    more.foldl (fun t e => if e.1 = 109 then raiseBit 109 t else raiseN n e.1 e.2.1 e.2.2 0 0 t) s1

/-- Raise an event source with its two parameters (R357). DEDUCED: log entry 81. -/
def raise (code p0 p1 : Nat) (s : State) : State := raiseN 3 code p0 p1 0 0 s

/-- Raise sources in turn. -/
def raiseAll (ev : List (Nat × Nat × Nat)) (s : State) : State := ev.foldl (fun t e => raise e.1 e.2.1 e.2.2 t) s

/-- An item handed to Granary (R423). -/
def archive (stream : Nat) (item : List Byte) (seq : Nat) (s : State) : State :=
  let r9_ := arcPush stream item seq s
  let s1 := r9_.1
  let ev := r9_.2
  raiseAll ev s1

/-- A record under a record-only code (R393): no source is raised. -/
def recordOnly (code p0 p1 : Nat) (s : State) : State :=
  let r10_ := logRecord code p0 p1 0 0 s
  let s1 := r10_.1
  let more := r10_.2
  more.foldl (fun t e => if e.1 = 109 then raiseBit 109 t else raise e.1 e.2.1 e.2.2 t) s1

/-- A record of an event that no event table numbers (R32, R31): under a record-only code of its own, so the rate limit of R396
applies to it; its parameters are free values. DESIGN CHOICE: log entry 124. -/
def openRecord (k : Nat) (s : State) : State :=
  recordOnly (128 + Config.openCode k % 896) (Config.freeNat s.free % 2 ^ 32) (Config.freeNat (s.free + 1) % 2 ^ 32)
    { s with free := s.free + 2 }

/-- A rule covers a whole access with the permission it needs. -/
def covers (r : FwRule) (addr len : Nat) (write : Bool) : Bool := decide (r.base ≤ addr ∧ addr + len ≤ r.base + r.size) && bit r.perm (b2n write)

/-- Whether the firewall grants an access (R464): a device rule of the master covers it, once the firmware has written them, and if any owner
rule names the master, one does too. DEDUCED: log entry 100. -/
def granted (s : State) (m addr len : Nat) (write : Bool) : Bool :=
  let own := s.sec.rules.filterMap (fun e => match e.2 with | some r => if r.master = m then some r else none | none => none)
  (s.sec.devRules.isEmpty || s.sec.devRules.any (fun r => decide (r.master = m) && covers r addr len write)) &&
  (own.isEmpty || own.any (fun r => covers r addr len write))

/-- An access that was not granted (R465): the master freezes; the violation is captured, counted and raised.
DESIGN CHOICE: log entry 13. DEDUCED: log entry 100. -/
def captureViolation (m : Nat) (write : Bool) (addr : Nat) (s : State) : State :=
  let c := s.sec
  let c1 := if c.violValid then c else { c with violValid := true, violMaster := m, violWrite := write, violAddr := addr }
  raise 96 m (addr % 2 ^ 32) (bump 0xC0030 1 { s with sec := { c1 with frozen := setBit c.frozen m } })

/-! ### Queue operations -/

/-- After a change of depth: the highest depth seen, and the high-water event (R402, R403). -/
def queueDepthSeen (q : Nat) (s : State) : State :=
  let m := depthMark q s
  raiseAll m.2 m.1

/-- One item overwritten, refused or lost (R388). -/
def queueLoss (q : Nat) (s : State) : State :=
  let first := cnt (queLost q) s = 0
  let s1 := bump (queLost q) 1 s
  if first then raise 114 q 1 s1 else s1

/-- Push an item on a queue that overwrites its oldest when full (QID 0–2); tells whether one was overwritten. -/
def pushOver (q : Nat) (b : QBody) (s : State) : Bool × State :=
  let l := queue s q
  let it : QItem := { body := b, born := s.elapsed }
  if l.length ≥ qcap q then (true, queueDepthSeen q (queueLoss q (setQueue q (l.tail ++ [it]) s)))
  else (false, queueDepthSeen q (setQueue q (l ++ [it]) s))

/-- Push an item on a queue that keeps its items when full (QID 3, 5, 6); tells whether the item found a place. -/
def pushKeep (q : Nat) (b : QBody) (s : State) : Bool × State :=
  let l := queue s q
  if l.length ≥ qcap q then (false, queueLoss q s)
  else (true, queueDepthSeen q (setQueue q (l ++ [{ body := b, born := s.elapsed }]) s))

/-- The bytes of an item copied to the host. -/
def itemBytes : QBody → List Byte
  | .bytes b => b
  | _ => []

/-! ### Replies (R352, R355) -/

def pair (s : State) (p : Nat) : QPair := tget {} s.hop.pairs p
def setPair (p : Nat) (q : QPair) (s : State) : State := { s with hop := { s.hop with pairs := tset {} s.hop.pairs p q } }

/-- The place of the first packet with a TAG that has no reply yet, whose transfer a completion names. -/
def findInflight (l : List Inflight) (tag : U16) : Option Nat := l.findIdx? (fun e => decide (e.tag = tag) && e.reply.isNone)

/-- The place of the packet of a pair that starts next: the first in slot order that is well-formed, has not started and has no
reply (R355). -/
def nextUp (l : List Inflight) : Option Nat := l.findIdx? (fun e => e.bad.isNone && !e.started && e.reply.isNone)

/-- The packet at a place may be carried out (R355): no unanswered fenced packet is before it, and if it carries FENCE itself nothing is. -/
def unfenced (l : List Inflight) (n : Nat) : Bool :=
  (l.take n).all (fun e => !e.fence) && ((l[n]?).all (fun e => !e.fence) || n == 0)

/-- The reply due for the packet at a place: its own, or that of a malformed packet, whose turn has come (R350, R355). -/
def answered (l : List Inflight) (n : Nat) : Option Reply :=
  (l[n]?).bind (fun e => if e.reply.isSome then e.reply
    else if unfenced l n then e.bad.map (fun st => { status := st }) else none)

/-- Complete the command whose turn it is: its reply waits for its Bin write. Where its packet has no place any more (R339), or it came
without one, the reply is discarded. -/
def reply (c : Ctx) (st : Status) (result xdone : Nat) (s : State) : State :=
  let q := pair s c.pair.val
  match nextUp q.inflight with
  | some n => setPair c.pair.val { q with inflight := lmod q.inflight n (fun e =>
      { e with reply := some { status := st, result := result % 2 ^ 32, xdone := xdone } }) } s
  | none => s

/-- What names a command that replies later: its pair and its packet's number. -/
def jobOf (c : Ctx) (s : State) : Nat × Nat :=
  let l := (pair s c.pair.val).inflight
  (c.pair.val, (((nextUp l).bind (fun n => l[n]?)).map (·.serial)).getD 0)

/-- The packets of a pair with the one of a number changed. -/
def onJob (w : Nat × Nat) (f : Inflight → Inflight) (s : State) : State :=
  let q := pair s w.1
  setPair w.1 { q with inflight := q.inflight.map (fun e => if e.serial = w.2 then f e else e) } s

/-- Complete a command whose effect ended later. Its XDONE is what its transfer moved when it started. -/
def replyLater (w : Nat × Nat) (st : Status) (result : Nat) (s : State) : State :=
  onJob w (fun e => { e with reply := some { status := st, result := result % 2 ^ 32, xdone := e.moved } }) s

/-! ### Command groups (R366) and what a command body answers -/

/-- The command groups, in opcode order from 0x01. -/
inductive Grp where
  | device | ledger | topology | weir | vane | leat | tailrace | flume | fantail | granary | brake | security | power
  | recorder | diag
  deriving DecidableEq, Repr

/-- The group of an opcode: its high byte (R350). -/
def grpOf (op : Nat) : Grp :=
  match op / 256 with
  | 1 => .device | 2 => .ledger | 3 => .topology | 4 => .weir | 5 => .vane | 6 => .leat | 7 => .tailrace | 8 => .flume
  | 9 => .fantail | 10 => .granary | 11 => .brake | 12 => .security | 13 => .power | 14 => .recorder | _ => .diag

/-- The block a group's commands act on (R366). -/
def grpBlk : Grp → Blk
  | .device => .ing | .ledger => .ldg | .topology => .ldg | .weir => .wei | .vane => .van | .leat => .lea
  | .tailrace => .tai | .flume => .flu | .fantail => .fan | .granary => .gra | .brake => .brk | .security => .sec
  | .power => .pwr | .recorder => .log | .diag => .dev

/-- The commands that act on tables in DRAM (R65, R156, R223, R254, R413, R457), which a lost MEM clock makes dark (R31).
DESIGN CHOICE: log entry 132. -/
def inDram (op : Nat) : Bool :=
  match grpOf op with
  | .ledger | .weir | .leat | .tailrace | .granary => true
  | .security => op == 0x0C01
  | _ => false

/-- The conditions of R366 that turn a command away. DEDUCED: log entry 99. -/
def gate (op : Nat) (s : State) : Option Status :=
  let g := grpOf op
  if s.dev.quiet && (g == .ledger || g == .topology || g == .weir || g == .tailrace) then some .notReady
  else if dark s (grpBlk g) || (inDram op && !memUp s) then some .poweredDown
  else none

/-- What a command's body answers: done, with RESULT and the bytes it writes out; done under another
status with its RESULT and bytes; refused, with what the refusal itself changes (R363); or done later, by an event that will
write the reply. -/
inductive CmdRes where
  | ok (t : State) (result : Nat) (data : List Byte)
  | done (st : Status) (t : State) (result : Nat) (data : List Byte)
  | fail (st : Status) (t : State)
  | later (t : State)

/-- A packet in flight spells a command (R350). -/
def spells (k : HostCmd) (e : Inflight) : Bool :=
  decide (e.tag = k.c.tag ∧ e.opcode = k.op ∧ e.par = k.par ∧ e.xlen = k.c.xlen)

/-- A command may start (R348, R355): its packet is the one of its pair whose turn it is, and no fence holds it. A command that did not
come through its ring may start where no packet awaits its turn. DESIGN CHOICE: log entry 7. -/
def startable (k : HostCmd) (s : State) : Bool :=
  let l := (pair s k.c.pair.val).inflight
  match nextUp l with
  | none => true
  | some n => (l[n]?).all (spells k) && unfenced l n

/-- The packet whose turn it is on a command's pair. -/
def current (c : Ctx) (s : State) : Option Inflight :=
  let l := (pair s c.pair.val).inflight
  (nextUp l).bind (fun n => l[n]?)

/-- The failure of the command's own transfer, if one came back (R351). -/
def xfault (c : Ctx) (s : State) : Option Status := (current c s).bind (·.xfault)

/-- The host buffers a command's "out" transfer is to write (R351). -/
def outBuffers (c : Ctx) (s : State) : List (Nat × Nat) := ((current c s).map (·.writes)).getD []

/-- The command makes requests of its own to the host: a transfer, or the use of a Host Map Region it lends (R340, R412). -/
def needsDma (k : HostCmd) : Bool := decide (k.c.xlen ≠ 0 ∨ k.op = 0x0A02)

/-- The attributes of a transfer's request, and of one to the Host Map Region (R340): No Snoop is never set. DESIGN CHOICE: log entry 140. -/
def dataAttr : DmaAttr := { relaxed := Config.dmaRelaxed }

/-- The parts of buffers that the first `n` bytes of a transfer reach. -/
def reached : Nat → List (Nat × Nat) → List (Nat × Nat)
  | _, [] => []
  | n, b :: t => if n = 0 then [] else (b.1, min b.2 n) :: reached (n - b.2) t

/-- The first write of `n` bytes "out" that the firewall, under its rules of that moment, does not grant (R40, R464). -/
def refusedWrite (c : Ctx) (n : Nat) (s : State) : Option (Nat × Nat) :=
  (reached n (outBuffers c s)).find? (fun b => !granted s 4 b.1 b.2 true)

/-- The reply of a command that ran, its "out" bytes written to its buffers first (R351, R354). -/
def finish (c : Ctx) (st : Status) (r : Nat) (d : List Byte) (t : State) : State :=
  let t1 := if d = [] then t else emit (.hostWrite c.pair.val c.tag.toNat (reached d.length (outBuffers c t)) d dataAttr) t
  reply c st r (if d = [] then c.xin.length else d.length) t1

/-- A command that ran comes to its "out" transfer and reply: where a write is not granted the master freezes, every effect of the
command is undone and it completes with DMA_FAULT (R40, R351, R465). -/
def complete (c : Ctx) (st : Status) (r : Nat) (d : List Byte) (t s : State) : State :=
  match refusedWrite c d.length s with
  | some b => reply c .dmaFault 0 0 (captureViolation 4 true b.1 s)
  | none => finish c st r d t

/-- A host command from its form check to its reply, in the order of R365. `form` is the check of XLEN and transfer
direction; `body` covers authority, object state, parameters and capacity. DEDUCED: log entry 99. -/
def runCmd (k : HostCmd) (form : Bool) (body : State → CmdRes) (s : State) : State :=
  let c := k.c
  if !startable k s || (pcieHeld s && needsDma k && (xfault c s).isNone) then s
  else match xfault c s with
  | some st => reply c st 0 0 s
  | none =>
    if !form then reply c .badParam 0 0 s
    else match gate k.op s with
    | some st => reply c st 0 0 (if st = .poweredDown then openRecord 0 s else s)
    | none =>
      match body s with
      | .ok t r d => complete c .ok r d t s
      | .done st t r d => complete c st r d t s
      | .fail st t => reply c st 0 c.xin.length t
      | .later t => onJob (jobOf c s) (fun e => { e with started := true, moved := c.xin.length }) t

/-- A command of the operations table, carried out as the packet that spells it. -/
def command (i : Instr) (form : Bool) (body : State → CmdRes) (s : State) : State :=
  match hostCmd i with
  | some k => runCmd k form body s
  | none => s

/-- A refusal that changes nothing. -/
def refuse (st : Status) (s : State) : CmdRes := .fail st s

end Sys2Proof.Machine
end

