-- ==== Sys2Proof/Machine/Params.lean ====
section
/-! DEFINITION. The configuration tables of R367: every parameter's default and range, the checks across parameters, the
DRAM budget, and the one shape all configuration commands share. -/

namespace Sys2Proof.Machine

/-- A group's number: its opcode's high byte. -/
def grpNo : Grp → Nat
  | .device => 1 | .ledger => 2 | .topology => 3 | .weir => 4 | .vane => 5 | .leat => 6 | .tailrace => 7
  | .flume => 8 | .fantail => 9 | .granary => 10 | .brake => 11 | .security => 12 | .power => 13 | .recorder => 14
  | .diag => 15

def cfgKey (g : Grp) (pid scope : Nat) : Nat := grpNo g * 2 ^ 32 + pid * 2 ^ 16 + scope

/-- Register codes of R91 that are unsigned energies. -/
def unsignedCode (c : Nat) : Bool := decide ((1 ≤ c ∧ c ≤ 4) ∨ c = 0x22)

/-- Default range of a register code (R91, R135): thousandths of the unit, or whole units of the unsigned codes. -/
def regRange : Nat → Option (Int × Int)
  | 0x01 | 0x02 | 0x03 | 0x04 | 0x22 => some (0, 0xFFFFFFFF)
  | 0x10 => some (0, 600000) | 0x11 => some (0, 1000000)
  | 0x12 | 0x13 | 0x21 => some (-250000000, 250000000)
  | 0x14 => some (45000, 65000) | 0x15 => some (-1000, 1000) | 0x20 => some (0, 100000)
  | 0x30 => some (-50000, 125000)
  | _ => none

/-- One value: default, least, greatest. -/
abbrev PSpec := Option (Int × Int × Int)

/-- The same value on each of `n` ports or channels, named in SCOPE [15:8], with `k` values per port in SCOPE [7:0]. -/
def perPort (n scope : Nat) (k : Nat) (f : Nat → PSpec) : PSpec :=
  if scope / 256 < n ∧ scope % 256 < k then f (scope % 256) else none

/-- A row with one value. -/
def one (scope : Nat) (v : Int × Int × Int) : PSpec := if scope = 0 then some v else none

/-- Device table (R135). DESIGN CHOICE: log entry 43. -/
def deviceParam (pid scope : Nat) : PSpec :=
  match pid with
  | 0 => one scope (120, 1, 600)
  | 1 => one scope (1000, 0, 65535)
  | 2 => one scope (2, 1, 60)
  | 3 => one scope (900, 10, 86400)
  | 4 => one scope (5, 0, 60)
  | 5 => match scope with | 0 => some (100, 1, 65535) | 1 | 2 => some (50, 1, 65535) | _ => none
  | 6 => match regRange (scope / 256) with
    | none => none
    | some (lo, hi) =>
      let full : Int × Int := if unsignedCode (scope / 256) then (0, 0xFFFFFFFF) else (-0x80000000, 0x7FFFFFFF)
      match scope % 256 with
      | 0 => some (lo, full.1, full.2) | 1 => some (hi, full.1, full.2) | _ => none
  | 7 => one scope (49810, 1024, 65535)
  | 8 => one scope (2000, 100, 10000)
  | 9 => one scope (1472, 512, 8972)
  | 10 => one scope (100, 1, 10000)
  | 11 => one scope (512, 64, 2048)
  | 12 => one scope (0, 0, 2)
  | 13 => match scope with | 0 => some (0, -0x80000000, 0x7FFFFFFF) | 1 => some (0, 1, 65535) | _ => none
  | _ => none

/-- Ledger table (R372). -/
def ledgerParam (pid scope : Nat) : PSpec :=
  match pid with
  | 0 => one scope (900, 10, 86400) | 1 => one scope (60, 1, 3600) | 2 => one scope (0, 0, 5) | _ => none

/-- Weir table (R177). DEDUCED: log entry 50. -/
def weirParam (pid scope : Nat) : PSpec :=
  match pid with
  | 0 => one scope (900, 60, 3600)
  | 1 => one scope (60, 5, 1800)
  | 2 => one scope (8, 1, 32)
  | 3 => match scope with | 0 => some (1, 0, 60) | 1 => some (2, 0, 60) | 2 | 3 => some (3, 0, 60) | _ => none
  | 4 => one scope (1, 0, 65535)
  | 5 => one scope (199, 0, 200)
  | 6 => match scope with | 0 => some (64, 1, 255) | 1 => some (16, 1, 255) | _ => none
  | 7 => one scope (16, 1, 31)
  | 8 => one scope (300, 60, 3600)
  | 9 => match scope with | 0 => some (9830, 0, 32440) | 1 => some (4915, 0, 32440) | _ => none
  | 10 => one scope (0, 0, 1)
  | _ => none

/-- Vane table (R211). -/
def vaneParam (pid scope : Nat) : PSpec :=
  match pid with
  | 0 => perPort 8 scope 1 fun _ => some (0x208, 0, 0x7FFFFFFF)
  | 1 => one scope (0xC7A0, 0, 0xFFFE)
  | 2 => perPort 8 scope 1 fun _ => some (0xFFFE, 0, 0xFFFE)
  | 3 => one scope (0, 0, 0xFFFF)
  | 4 => perPort 8 scope 2 fun _ => some (0, 0, 100000)
  | 5 => perPort 8 scope 1 fun _ => some (0, -64, 63)
  | 6 => perPort 8 scope 1 fun _ => some (-90, -120, -40)
  | 7 => one scope (8, 1, 16)
  | 8 => one scope (3, 0, 7)
  | 9 => one scope (4, 0, 15)
  | 10 => one scope (200, 1, 1000)
  | 11 => one scope (2, 1, 3)
  | 12 => one scope (0, 0, 255)
  | 13 => one scope (255, 0, 255)
  | 14 => one scope (8, 1, 60)
  | 15 => one scope (20, 1, 1000)
  | 16 => one scope (100, 20, 1000)
  | 17 => match scope with | 0 => some (0, 0, 1) | 1 => some (0, 0, 7) | 2 => some (0, 0, 0xFFFF) | _ => none
  | 18 => one scope (0, 0, 100000)
  | _ => none

/-- Leat table (R246). -/
def leatParam (pid scope : Nat) : PSpec :=
  match pid with
  | 0 => perPort 4 scope 1 fun _ => some (0, 0, 1)
  | 1 => perPort 4 scope 2 fun _ => some (0, 0, 100000)
  | 2 => one scope (2, 0, 20)
  | 3 => one scope (3, 1, 20)
  | 4 => one scope (2, 1, 20)
  | 5 => one scope (2, 0, 7)
  | 6 => one scope (3, 0, 15)
  | 7 => one scope (3, 1, 15)
  | 8 => one scope (8, 1, 255)
  | 9 => one scope (8, 1, 255)
  | 10 => one scope (86400, 600, 2592000)
  | 11 => one scope (3, 1, 15)
  | 12 => perPort 4 scope 3 fun k => match k with
    | 0 => some (1, 0, 1) | 1 => some (0, 0, 4095) | _ => some (4096, 1, 4096)
  | 13 => one scope (150, 50, 1000)
  | 14 => one scope (600, 60, 86400)
  | 15 => match scope with | 0 => some (4, 0, 40) | 1 => some (8, 0, 40) | 2 => some (14, 0, 40) | _ => none
  | 16 => one scope (2, 0, 10)
  | 17 => one scope (10, 3, 30)
  | 18 => one scope (250, 0, 500)
  | 19 => perPort 4 scope 1 fun _ => some (0, 0, 11)
  | 20 => one scope (1000, 100, 2500)
  | 21 => one scope (8, 2, 64)
  | 22 => one scope (1800, 10, 86400)
  | _ => none

/-- Tailrace table (R279). -/
def tailParam (pid scope : Nat) : PSpec :=
  match pid with
  | 0 => one scope (4, 1, 16)
  | 1 => one scope (50, 10, 500)
  | 2 => one scope (3, 1, 15)
  | 3 => one scope (100, 10, 10000)
  | 4 => one scope (1, 1, 15)
  | 5 => one scope (600, 0, 86400)
  | 6 => one scope (3600, 60, 86400)
  | 7 => one scope (600, 60, 86400)
  | 8 => one scope (0, 0, 1)
  | 9 => match scope with | 0 => some (255, 0, 255) | 1 => some (15, 0, 15) | 2 => some (1, 0, 1) | _ => none
  | 10 => one scope (30, 1, 3600)
  | 11 => one scope (86400, 60, 604800)
  | 12 => match scope with | 0 | 1 => some (50, 1, 65535) | _ => none
  | 13 => one scope (50, 1, 65535)
  | _ => none

/-- Flume table (R308). -/
def flumeParam (pid scope : Nat) : PSpec :=
  match pid with
  | 0 => one scope (1, 0, 1)
  | 1 => perPort 12 scope 1 fun _ => some (18, 10, 22)
  | 2 => perPort 12 scope 1 fun _ => some (0, 0, 2)
  | 3 => one scope (10, 1, 100)
  | 4 => one scope (100, 10, 500)
  | 5 => one scope (1000, 0, 10000)
  | 6 => one scope (1000, 0, 60000)
  | 7 => one scope (32, 0, 65535)
  | _ => none

/-- Fantail table (R333). -/
def fantailParam (pid scope : Nat) : PSpec :=
  match pid with
  | 0 => if scope < 3 then some (1, 0, 1) else none
  | 1 => one scope (1000, 10, 1000000)
  | 2 => one scope (10, 0, 3600)
  | 3 => one scope (1000, 100, 1000000)
  | 4 => one scope (16, 1, 1024)
  | 5 => one scope (100, 1, 500)
  | 6 => one scope (10, 0, 600)
  | 7 => match scope with | 0 => some (0, 0, 1) | 1 => some (0, 0, 2) | _ => none
  | 8 => one scope (0, 0, 127)
  | 9 => one scope (3, 2, 10)
  | 10 => one scope (0, -7, 4)
  | 11 => one scope (0, -1000000, 1000000)
  | 12 => match scope with | 0 => some (1, 0, 1) | 1 => some (100, 1, 500) | _ => none
  | _ => none

/-- Granary table (R426). -/
def granaryParam (pid scope : Nat) : PSpec :=
  match pid with
  | 0 => one scope (2000, 100, 10000)
  | 1 => one scope (2000, 100, 60000)
  | 2 => one scope (1, 0, 2)
  | 3 => one scope (1, 0, 1)
  | 4 => one scope (64, 16, 1024)
  | 5 => one scope (32, 8, 256)
  | 6 => one scope (28, 8, 40)
  | 7 => one scope (7, 1, 90)
  | 8 => one scope (32, 8, 1024)
  | 9 => one scope (40, 10, 200)
  | 10 => one scope (900, 500, 1000)
  | _ => none

/-- Brake table (R446). -/
def brakeParam (pid scope : Nat) : PSpec :=
  match pid with
  | 0 => one scope (64, 2, 127)
  | 1 => one scope (100, 20, 10000)
  | 2 => one scope (10, 0, 3600)
  | 3 => one scope (24, 0, 168)
  | 4 => one scope (25, 0, 170)
  | _ => none

/-- Event Recorder table (R400). -/
def recorderParam (pid scope : Nat) : PSpec :=
  match pid with
  | 0 => one scope (0, 0, 1)
  | 1 => one scope (1000, 10, 10000)
  | 2 | 3 | 4 | 5 =>
    let code := (pid - 2) * 256 + scope / 256
    let safe := 120 ≤ code ∧ code ≤ 127
    match scope % 256 with
    | 0 => some (if safe then 65535 else 16, 0, 65535)
    | 1 => some (if safe then 255 else 64, 1, 255)
    | _ => none
  | _ => none

def paramSpec : Grp → Nat → Nat → PSpec
  | .device => deviceParam | .ledger => ledgerParam | .weir => weirParam | .vane => vaneParam | .leat => leatParam
  | .tailrace => tailParam | .flume => flumeParam | .fantail => fantailParam | .granary => granaryParam
  | .brake => brakeParam | .recorder => recorderParam
  | .topology | .security | .power | .diag => fun _ _ => none

/-- A parameter's value in a configuration: the default where nothing is set. -/
def cfgGet (cfg : Tab Int) (g : Grp) (pid scope : Nat) : Int :=
  tget ((paramSpec g pid scope).elim 0 (·.1)) cfg (cfgKey g pid scope)

def cfgPut (cfg : Tab Int) (g : Grp) (pid scope : Nat) (v : Int) : Tab Int :=
  tset ((paramSpec g pid scope).elim 0 (·.1)) cfg (cfgKey g pid scope) v

def param (s : State) (g : Grp) (pid scope : Nat) : Int := cfgGet s.cfg g pid scope
def paramN (s : State) (g : Grp) (pid scope : Nat) : Nat := (param s g pid scope).toNat

/-- VALUE as the row reads it: unsigned for the unsigned register codes, signed otherwise (R135, R367). -/
def cfgValue (g : Grp) (e : CfgEntry) : Int :=
  if g = .device ∧ e.pid = 6 ∧ unsignedCode (e.scope.toNat / 256) then (e.value.toNat : Int) else sgn32 e.value.toNat

def pow2 (n : Nat) : Bool := n == 2 ^ n.log2

/-- A PHY mode code names a mode of R185 (R376). PRESUMED: log entry 60. -/
def phyOk (v : Nat) : Bool :=
  let rate := bits v 2 4
  let code := bits v 6 3
  decide (v < 2 ^ 11) &&
  match bits v 0 2 with
  | 0 => [1, 2, 3, 4, 6].contains rate && decide (code ≤ 2)
  | 1 => [4, 6].contains rate && decide (code = 0) && !bit v 9 && !bit v 10
  | 2 => !bit v 9 && !bit v 10 &&
    (match rate with
     | 1 => decide (code ≤ 3) | 2 => decide (code ≤ 5) | 3 => decide (1 ≤ code ∧ code ≤ 6)
     | 4 => decide (2 ≤ code ∧ code ≤ 6) | _ => false)
  | _ => false

/-- Time of a script at an SPI clock in MHz stays within 100 µs (R182). -/
def scriptFits (mhz : Nat) (l : List SpiTx) : Bool := decide ((l.map (·.len)).sum * 8 ≤ 100 * mhz)

/-- The checks across the parameters of a group (R135, R177, R202, R211, R246, R426). -/
def cfgOk (g : Grp) (f : Nat → Nat → Int) (s : State) : Bool :=
  match g with
  | .device => pow2 (f 11 0).toNat &&
      [0x01, 0x02, 0x03, 0x04, 0x10, 0x11, 0x12, 0x13, 0x14, 0x15, 0x20, 0x21, 0x22, 0x30].all
        (fun c => decide (f 6 (c * 256) ≤ f 6 (c * 256 + 1)))
  | .weir => [60, 120, 300, 600, 900, 1800, 3600].contains (f 0 0).toNat && decide (f 1 0 * 2 ≤ f 0 0 ∧ f 6 1 < f 6 0)
  | .vane => decide (f 9 0 * (f 10 0 + 50) ≤ 2000) && (List.range 8).all (fun p => phyOk (f 0 (p * 256)).toNat) &&
      s.van.ports.all (fun p => (p.2.scripts ++ p.2.loaded).all (fun x => scriptFits (f 7 0).toNat x.2))
  | .leat => decide (f 15 0 ≤ f 15 1 ∧ f 15 1 ≤ f 15 2) &&
      (List.range 4).all (fun p => decide (f 12 (p * 256 + 1) + f 12 (p * 256 + 2) ≤ 4096))
  | .granary => pow2 (f 4 0).toNat && pow2 (f 5 0).toNat
  | _ => true

/-- The DRAM regions' sum, bytes, under a configuration (R541). -/
def dramUsed (cfg : Tab Int) : Nat :=
  let mib := 2 ^ 20
  let coldCode := (cfgGet cfg .ledger 2 0).toNat
  (32 + 64 + (cfgGet cfg .device 11 0).toNat + (cfgGet cfg .granary 4 0).toNat + (cfgGet cfg .granary 5 0).toNat + 1
    + 48 + 16 + 1 + 4 + 2 + 64 + 1 + 128) * mib
  + ((cfgGet cfg .weir 2 0).toNat + 1) * 12791872
  + (if coldCode = 0 then 0 else 1048576 * (64 * 2 ^ coldCode))

/-- Usable DRAM: the fitted capacity less one eighth (R541). -/
def dramFits (cfg : Tab Int) (s : State) : Bool :=
  decide (dramUsed cfg ≤ s.led.dramMiB * 2 ^ 20 / 8 * 7)

/-- The configuration that would stand after a command's entries. -/
def cfgAfter (g : Grp) (ents : List CfgEntry) (cfg : Tab Int) : Tab Int :=
  ents.foldl (fun m e => cfgPut m g e.pid.toNat e.scope.toNat (cfgValue g e)) cfg

/-- Every entry names a known value, once, within its range. -/
def entriesOk (g : Grp) (ents : List CfgEntry) : Bool :=
  decide ((ents.map (fun e => (e.pid, e.scope))).Nodup) &&
  ents.all (fun e => match paramSpec g e.pid.toNat e.scope.toNat with
    | some (_, lo, hi) => decide (lo ≤ cfgValue g e ∧ cfgValue g e ≤ hi)
    | none => false)

/-- A value as RESULT returns it. -/
def cfgResult (v : Int) : Nat := toU32 v

/-- The configuration commands (R367). `refusal` is the group's state condition, `after` what the new values do beyond
standing, with the old configuration at hand. -/
def configure (g : Grp) (op : Byte) (ents : List CfgEntry) (refusal : List CfgEntry → State → Option Status)
    (after : Tab Int → State → State) (s : State) : CmdRes :=
  if op = 0 then
    if ents.length = 0 ∨ 4 < ents.length then refuse .badParam s
    else match refusal ents s with
    | some st => refuse st s
    | none =>
      let cfg := cfgAfter g ents s.cfg
      if !(entriesOk g ents && cfgOk g (cfgGet cfg g) s) then refuse .badParam s
      else if !dramFits cfg s then refuse .noSpace s
      else .ok (after s.cfg { s with cfg := cfg }) ents.length []
  else if op = 1 then
    match ents with
    | [e] =>
      match paramSpec g e.pid.toNat e.scope.toNat with
      | some _ => .ok s (cfgResult (param s g e.pid.toNat e.scope.toNat)) []
      | none => refuse .badParam s
    | _ => refuse .badParam s
  else refuse .badParam s

/-- The set names a value of a row. -/
def sets (ents : List CfgEntry) (pid : Nat) : Bool := ents.any (fun e => e.pid.toNat == pid)

/-! ### Intervals (R139) -/

/-- DEDUCED: log entry 50. -/
def intLen (s : State) : Nat := paramN s .weir 0 0

/-- S_N, seconds. -/
def startOf (s : State) (n : Nat) : Nat := n * intLen s
/-- E_N, seconds. -/
def endOf (s : State) (n : Nat) : Nat := (n + 1) * intLen s

/-- The cell of the INT_LEN grid the present time has reached. -/
def gridNow (s : State) : Nat := nowS s / intLen s

/-- The interval holding the present instant (R139). -/
def intervalNow (s : State) : Nat := if nowNs s = 0 then 0 else (nowNs s - 1) / (intLen s * 1000000000)

/-- The interval holding an instant given in milliseconds: (S_N, E_N], the instant 0 in interval 0. -/
def intervalMs (s : State) (ms : Nat) : Nat := if ms = 0 then 0 else (ms - 1) / (intLen s * 1000)

end Sys2Proof.Machine
end

