-- ==== Sys2Proof/Machine/Operands.lean ====
section
/-! DEFINITION. The operand forms: command packets with their parameters and scatter lists, and the byte layouts of the
records the block hands out. -/

namespace Sys2Proof.Machine

/-! ### Command packets (R350, R364) -/

/-- Which way a command's transfer goes. -/
inductive Dir where
  | none | inward | outward
  deriving DecidableEq, Repr

/-- The form of an opcode's parameters: NPARAM, the zero fields (offset, size), the offset of its IDX field, the transfer. -/
structure OpForm where
  npar : Nat
  zeroF : List (Nat × Nat) := []
  idx : Option Nat := Option.none
  dir : Dir := .none
  deriving DecidableEq, Repr

def byteAt (l : List Byte) (n : Nat) : Nat := (l.getD n 0).toNat

/-- The configuration opcodes, whose NPARAM follows COUNT (R367). -/
def isConfigOp (op : Nat) : Bool :=
  [0x0102, 0x0207, 0x0401, 0x0501, 0x0601, 0x0701, 0x0801, 0x0901, 0x0A01, 0x0B01, 0x0E03].contains op

/-- The opcode tables R370–R386; nothing for an opcode no table assigns. NOP takes any NPARAM. -/
def opForm (op : Nat) (p : List Byte) : Option OpForm :=
  if isConfigOp op then some { npar := 4 + 8 * byteAt p 1, zeroF := [(2, 2)] }
  else match op with
  | 0x0101 | 0x0105 | 0x0806 | 0x0B03 | 0x0E04 => some { npar := 0 }
  | 0x0103 | 0x0104 => some { npar := 20 }
  | 0x0201 => some { npar := 20, zeroF := [(13, 3)], idx := some 0 }
  | 0x0202 | 0x0203 | 0x0204 | 0x0406 | 0x070C => some { npar := 4, idx := some 0 }
  | 0x0205 => some { npar := 4, idx := some 0, dir := .outward }
  | 0x0206 => some { npar := 8, idx := some 0, dir := .inward }
  | 0x0208 | 0x040A | 0x070E | 0x0906 => some { npar := 2, dir := .outward }
  | 0x0209 => some { npar := 4, zeroF := [(2, 2)], dir := .inward }
  | 0x020A => some { npar := 8, zeroF := [(5, 3)], idx := some 0 }
  | 0x0301 | 0x0306 => some { npar := 12, zeroF := [(1, 3)] }
  | 0x0302 => some { npar := 8, zeroF := [(1, 3)] }
  | 0x0303 => some { npar := 8, zeroF := [(3, 1)] }
  | 0x0304 => some { npar := 8, idx := some 0 }
  | 0x0305 => some { npar := 8, zeroF := [(5, 3)], idx := some 0 }
  | 0x0402 | 0x0503 | 0x0707 | 0x0708 | 0x0709 | 0x0C05 | 0x0D01 | 0x0D03 | 0x0E02 | 0x0F02 | 0x0F03 | 0x0F05 | 0x0F06 =>
    some { npar := 4, zeroF := [(1, 3)] }
  | 0x0403 => some { npar := 24, zeroF := [(2, 2)] }
  | 0x0404 => some { npar := 8, zeroF := [(2, 2)] }
  | 0x0405 => some { npar := 12, zeroF := [(5, 3)], idx := some 0 }
  | 0x0407 => some { npar := 16, dir := .outward }
  | 0x0408 => some { npar := 8, zeroF := [(1, 1), (6, 2)], dir := .inward }
  | 0x0409 => some { npar := 4, zeroF := [(1, 1)], dir := if byteAt p 0 = 1 then .none else .inward }
  | 0x0502 => some { npar := 4, zeroF := [(3, 1)], dir := .inward }
  | 0x0602 => some { npar := 4, zeroF := [(1, 1)], dir := .inward }
  | 0x0603 => some { npar := 8, zeroF := [(1, 1), (6, 2)], dir := .outward }
  | 0x0604 => some { npar := 8, zeroF := [(1, 1)], idx := some 4 }
  | 0x0605 => some { npar := 4, zeroF := [(1, 1)] }
  | 0x0606 => some { npar := 12, zeroF := [(1, 1), (5, 3)] }
  | 0x0702 | 0x0704 => some { npar := 12, zeroF := [(1, 3)], dir := .inward }
  | 0x0703 => some { npar := 4, zeroF := [(1, 1)], dir := .inward }
  | 0x0705 => some { npar := 8, zeroF := [(3, 1), (6, 2)], dir := if byteAt p 1 ≤ 1 then .inward else .none }
  | 0x0706 => some { npar := 8, zeroF := [(1, 1)] }
  | 0x070A => some { npar := 8, zeroF := [(1, 3)], dir := .inward }
  | 0x070B => some { npar := 28, idx := some 0 }
  | 0x070D => some { npar := 8, dir := .outward }
  | 0x0802 | 0x0803 => some { npar := 8, zeroF := [(3, 1)] }
  | 0x0804 => some { npar := 8, zeroF := [(1, 3)], dir := .inward }
  | 0x0805 => some { npar := 4, zeroF := [(2, 2)] }
  | 0x0807 | 0x0808 => some { npar := 20, zeroF := [(1, 3)] }
  | 0x0809 => some { npar := 20 }
  | 0x080A => some { npar := 4, zeroF := [(3, 1)], dir := .outward }
  | 0x0902 => some { npar := 12 }
  | 0x0903 => some { npar := 16, zeroF := [(2, 2)] }
  | 0x0904 => some { npar := 4, zeroF := [(3, 1)] }
  | 0x0905 => some { npar := 8, zeroF := [(6, 2)], dir := .inward }
  | 0x0A02 => some { npar := 12, zeroF := [(2, 2)] }
  | 0x0A03 => some { npar := 8, dir := .outward }
  | 0x0A04 => some { npar := 4, zeroF := [(1, 3)], dir := .outward }
  | 0x0A05 => some { npar := 8, zeroF := [(1, 3)] }
  | 0x0B02 => some { npar := 4, zeroF := [(2, 2)] }
  | 0x0C01 => some { npar := 8, zeroF := [(5, 3)], idx := some 0, dir := .inward }
  | 0x0C02 => some { npar := 4, zeroF := [(2, 2)], dir := .inward }
  | 0x0C03 => some { npar := 4, zeroF := [(1, 3)], dir := .inward }
  | 0x0C04 => some { npar := 20, zeroF := [(3, 1)] }
  | 0x0D02 | 0x0F04 => some { npar := 4, zeroF := [(2, 2)] }
  | 0x0E01 => some { npar := 8, zeroF := [(6, 2)], dir := .outward }
  | 0x0E05 => some { npar := 4, zeroF := [(1, 3)], dir := .outward }
  | 0x0F01 => some { npar := 0 }
  | _ => none

/-- A scatter-list segment's buffer entries, and the CHAIN entry that ends it if one does. -/
def segOk (seg : List SgEntry) : Bool :=
  decide (seg.length ≤ 256) && seg.all (fun e =>
    decide (e.ctl.toNat < 4) && decide (e.len.toNat % 4 = 0 ∧ 4 ≤ e.len.toNat) &&
    (if bit e.ctl.toNat 1 then decide (e.addr.toNat % 16 = 0 ∧ e.len.toNat % 16 = 0) else decide (e.addr.toNat % 4 = 0)))

/-- Bytes a scatter list covers, entry after entry, until LAST. -/
def segBytes (segs : List (List SgEntry)) : Nat :=
  let all := segs.flatten
  let used := all.take (((all.findIdx? (fun e => bit e.ctl.toNat 0)).getD all.length) + 1)
  ((used.filter (fun e => !bit e.ctl.toNat 1)).map (fun e => e.len.toNat)).sum

/-- Each segment but the last read ends in a CHAIN entry whose LEN is the size of the next, and no other entry chains (R351). -/
def chainOk : List (List SgEntry) → Bool
  | [] => true
  | [g] => g.dropLast.all (fun e => !bit e.ctl.toNat 1)
  | g :: h :: t =>
    g.dropLast.all (fun e => !bit e.ctl.toNat 1) && g.getLast?.any (fun e => bit e.ctl.toNat 1 && decide (e.len.toNat = 16 * h.length)) &&
      chainOk (h :: t)

/-- The scatter-list rules of R351. -/
def sglOk (sgl : Nat) (direct : Bool) (xlen : Nat) (segs : List (List SgEntry)) : Bool :=
  if xlen = 0 then true
  else if direct then decide (sgl % 4 = 0)
  else decide (sgl % 16 = 0) && decide (segs.length ≤ 64) && segs.all segOk && chainOk segs && decide (xlen ≤ segBytes segs)

/-- The packet-form checks of R350, R351 and R364: what the packet's reply already is, or nothing when it may start. -/
def packetFault (k : Packet) : Option Status :=
  let b := k.bytes
  let op := byteAt b 1 * 256 + byteAt b 0
  let flags := byteAt b 4 + 256 * byteAt b 5
  let np := byteAt b 6
  let xlen := ofLe (slice b 8 4)
  let p := b.drop 0x18
  match opForm op p with
  | none => some .unknownOpcode
  | some f =>
    let ok := decide (b.length = 64 ∧ flags < 8 ∧ byteAt b 7 = 0 ∧ ofLe (slice b 12 4) = 0 ∧ np ≤ 40) &&
      decide (xlen ≤ 8 * 2 ^ 20 ∧ xlen % 4 = 0) && (bit flags 1 || decide (xlen = 0)) &&
      (bit flags 1 == (f.dir != .none)) && (decide (op = 0x0F01) || decide (np = f.npar)) &&
      f.zeroF.all (fun z => (slice p z.1 z.2).all (fun x => decide (x = 0))) &&
      (match f.idx with
       | some o => decide (byteAt p (o + 3) = 0 ∧ byteAt p (o + 2) < 16)
       | none => true) &&
      sglOk (ofLe (slice b 16 8)) (bit flags 2) xlen k.segs
    if ok then none else some .badParam

/-! ### Record layouts -/

/-- The last-gasp bank's 256 bytes, unused records zero (R385, R500). -/
def bankBytes (s : State) : List Byte :=
  let b := (s.log.bank.map recBytes).flatten
  b ++ zeros (256 - b.length)

/-- A status code's number (R361). -/
def statusCode : Status → Nat
  | .ok => 0 | .busy => 1 | .badParam => 2 | .unknownOpcode => 3 | .refusedState => 4 | .notFound => 5 | .existing => 6
  | .noSpace => 7 | .notReady => 8 | .poweredDown => 9 | .dmaFault => 10 | .poisoned => 11 | .timeJumpRefused => 12
  | .mediaExhausted => 13 | .denied => 14 | .verifyFailed => 15

/-- A reply's 16 bytes (R352). -/
def replyBytes (tag : U16) (r : Reply) (head pairNo bseq : Nat) (poison : Bool) : List Byte :=
  leBytes 2 tag.toNat ++ leBytes 2 (if poison then statusCode .poisoned else statusCode r.status) ++ leBytes 4 r.result
    ++ leBytes 4 (r.xdone % 2 ^ 24 + b2n poison * 2 ^ 24) ++ leBytes 2 (head % 2 ^ 12 + pairNo * 2 ^ 12) ++ leBytes 2 bseq

/-- CRC-32 of IEEE 802.3. -/
def crc32 (bs : List Byte) : Nat :=
  let step := fun (c : BitVec 32) (_ : Nat) => if c.getLsbD 0 then (c >>> 1) ^^^ 0xEDB88320#32 else c >>> 1
  (~~~ bs.foldl (fun c b => (List.range 8).foldl step (c ^^^ b.zeroExtend 32)) 0xFFFFFFFF#32).toNat

end Sys2Proof.Machine
end

