-- ==== Sys2Proof/Machine/Hopper.lean ====
section
/-! DEFINITION. Hopper, Bin, doorbells, MSI-X and the PCIe function's states (R336–R360). -/

namespace Sys2Proof.Machine

/-! ### The function's configuration header and capabilities (R336, R337) -/

/-- The BARs of the function: bytes, and whether prefetchable; BAR0, BAR2 and BAR4, each 64 bits wide (R336). -/
def bars : List (Nat × Bool) := [(16 * 2 ^ 20, false), (64 * 2 ^ 20, true), (64 * 2 ^ 10, false)]

/-- A BAR's dword (R336): the low one carries the type, 64-bit and prefetchable or not, below the base. PRESUMED: log entry 20. -/
def barDword (s : State) (k : Nat) : Nat :=
  let base := s.hop.pcie.bars.toList.getD (k / 2) 0
  let r := bars.getD (k / 2) (1, false)
  let b := base / r.1 * r.1
  if k % 2 = 1 then b / 2 ^ 32 else b % 2 ^ 32 + 4 + 8 * b2n r.2

/-- A dword of the type 0 configuration header (R336): the IDs, Command, the class code and revision, the six BAR dwords, the subsystem
IDs that OTP holds, and Interrupt Pin 0, since INTx is not used; dwords the spec gives no value are zero. PRESUMED: log entry 20. -/
def cfgHeader (s : State) (ofs : Nat) : Nat :=
  match ofs with
  | 0x00 => 0x1F8D + 0x7810 * 65536
  | 0x04 => s.hop.pcie.command
  | 0x08 => 0x118000 * 256
  | 0x2C => s.sec.subsysVendor + s.sec.subsysId * 65536
  | _ => if 0x10 ≤ ofs ∧ ofs ≤ 0x24 ∧ ofs % 4 = 0 then barDword s ((ofs - 0x10) / 4) else 0

/-- What the capabilities state. -/
structure PcieCaps where
  msixVectors : Nat := 32
  msixTable : Nat := 0x28000
  msixPba : Nat := 0x29000
  maxPayload : Nat := 512
  maxReadRequest : Nat := 4096
  tenBitTags : Bool := true
  flr : Bool := true
  aer : Bool := true
  d3hot : Bool := true
  deriving DecidableEq, Repr

def pcieCaps : PcieCaps := {}

/-! ### Queue pairs -/

def hqSize (q : QPair) : Nat := 2 ^ bits q.size 0 4
def bqSize (q : QPair) : Nat := 2 ^ bits q.size 4 4

/-- A dropped BAR access (DEV_BAD_ACCESS, R344). -/
def badAccess (s : State) : State := bump 0x30 1 s

/-- An access to a dark block (R17, R32, R34): counted, the first captured, the powered-down event logged, nothing else. `bus` is the
code of R34. DESIGN CHOICE: log entry 124. -/
def darkAccess (bus addr : Nat) (s : State) : State :=
  let d := s.dev
  openRecord 0 (bump 0x48 1 (if d.accValid then s
    else { s with dev := { d with accStatus := 9, accBus := bus, accValid := true, accAddr := addr } }))

/-- A whole-dword BAR0 write to a block: dropped and captured while the block is dark. -/
def regWrite (b : Blk) (addr : Nat) (f : State → State) (s : State) : State := if dark s b then darkAccess 0 addr s else f s

/-- Bin notification of a pair falls due: its vector is signalled, and the count and timer restart (R354). -/
def binSignal (p : Nat) (s : State) : State :=
  let q := pair s p
  signal q.vector (setPair p { q with unsig := 0 } s)

/-- HQ_TAIL doorbell (R343, R348). -/
def hqTail (p : Nat) (value : Nat) (be : Byte) (s : State) : State :=
  let q := pair s p
  if be ≠ 0xF then badAccess s
  else if bits value 0 12 ≥ hqSize q then badAccess s
  else if q.st = .enabled then setPair p { q with hqTail := bits value 0 12 } s
  else s

/-- BQ_HEAD doorbell (R353, R354): a value between the device's head view and BQ_TAIL releases the slots before it. On a full ring, where
the two are equal, that value releases every slot. DEDUCED: log entry 18. -/
def bqHead (p : Nat) (value : Nat) (be : Byte) (s : State) : State :=
  let q := pair s p
  let v := bits value 0 12
  let n := bqSize q
  let headView := (q.bqTail + n - q.unreleased % n) % n
  let dist := (v + n - headView) % n
  let rel := if dist = 0 ∧ q.unreleased = n then n else dist
  if be ≠ 0xF then badAccess s
  else if n ≤ v ∨ q.unreleased < rel then s
  else
    let s1 := setPair p { q with unreleased := q.unreleased - rel } s
    if q.ien ∧ 0 < q.unreleased - rel then binSignal p s1 else s1

/-- The fields of HOP_QP_CTRL other than EN. -/
def ctrlFields (value : Nat) (q : QPair) : QPair :=
  { q with prio := bits value 1 2, vector := bits value 3 5, ien := bit value 8 }

/-- The pair's vector is to be signalled (R354): notification is on, and AGG_COUNT replies wait for a signal, or any does with AGG_TIME 0. -/
def binDue (q : QPair) : Bool := q.ien && decide (0 < q.unsig ∧ (bits q.agg 8 16 = 0 ∨ max 1 (bits q.agg 0 8) ≤ q.unsig))

/-- HOP_QP_CTRL written with EN = 1 (R346); a notification whose condition then holds is sent (R354). -/
def pairEnable (p : Nat) (value : Nat) (s : State) : State :=
  let q := ctrlFields value (pair s p)
  if q.st ≠ .disabled then (if binDue q then binSignal p (setPair p q s) else setPair p q s)
  else
    let hq := bits q.size 0 4
    let bq := bits q.size 4 4
    if q.hqBase % 4096 = 0 ∧ q.bqBase % 4096 = 0 ∧ 4 ≤ hq ∧ hq ≤ 12 ∧ 4 ≤ bq ∧ bq ≤ 12 then
      setPair p { q with en := true, st := .enabled, hqHead := 0, hqTail := 0, bqTail := 0, unreleased := 0, bseq := 1,
                         unsig := 0, cause := 0, inflight := [] } s
    else setPair p { q with en := false, cause := 3 } s

/-- HOP_QP_CTRL written with EN = 0 (R346): an enabled or faulted pair drains, a faulted one without the replies not yet written. With
nothing left in flight it is disabled when Bin next looks at it. DEDUCED: log entry 17. -/
def pairDisable (p : Nat) (value : Nat) (s : State) : State :=
  let q := { ctrlFields value (pair s p) with en := false }
  match q.st with
  | .enabled => setPair p { q with st := .draining } s
  | .faulted => setPair p { q with st := .draining, inflight := q.inflight.filter (fun e => e.reply.isNone && e.bad.isNone) } s
  | _ => setPair p q s

/-- Commands in flight on all pairs (R349). -/
def allInflight (s : State) : Nat := (s.hop.pairs.map (fun p => p.2.inflight.length)).sum

/-- A pair has packets due and room in flight (R348, R349). -/
def fetchable (q : QPair) : Bool := q.st == .enabled && q.hqTail != q.hqHead && decide (q.inflight.length < 64)

/-- The pair whose turn it is: strict priority, then round robin after the pair of that priority last served (R349). -/
def myTurn (p : Nat) (s : State) : Bool :=
  let last := tget 15 s.hop.lastServed (pair s p).prio
  fetchable (pair s p) &&
  s.hop.pairs.all (fun o => !fetchable o.2 || decide ((pair s p).prio < o.2.prio) ||
    (decide ((pair s p).prio = o.2.prio) && decide ((p + 15 - last) % 16 ≤ (o.1 + 15 - last) % 16)))

/-- A POWER_STATE packet towards DOZE, HUSH or OFF that has no reply yet (R366, R384): OPCODE 0x0D01, TARGET 2 to 4. -/
def leavesRun (e : Inflight) : Bool :=
  e.opcode == 0x0D01 && e.bad.isNone && e.reply.isNone && decide (2 ≤ byteAt e.par 0 ∧ byteAt e.par 0 ≤ 4)

/-- Hopper may fetch: READY, in D0, the host interface alight, no power-state command fetched before still open and no entry under way
(R338, R346, R366). -/
def fetching (s : State) : Bool :=
  s.dev.ready && !pcieHeld s && !dark s .hop && (s.pwr.st == .run || s.pwr.st == .trim) && s.pwr.entry.all (fun e => e.1 == .trim) &&
  s.hop.pairs.all (fun p => p.2.inflight.all (fun e => !leavesRun e))

/-- The buffer entries of a scatter list that a transfer of `xlen` bytes uses, in order, and the bytes it uses of each: up to LAST, and
until XLEN is covered (R351). -/
def usedBuffers (xlen : Nat) (segs : List (List SgEntry)) : List (Nat × Nat) :=
  let all := segs.flatten
  let upto := all.take (((all.findIdx? (fun e => bit e.ctl.toNat 0)).getD all.length) + 1)
  reached xlen ((upto.filter (fun e => !bit e.ctl.toNat 1)).map (fun e => (e.addr.toNat, e.len.toNat)))

/-- The host accesses of a packet's transfer (R351): address, bytes, whether a write: the segments of its list, of which the first is
where SGL points and the others where the CHAIN entry before them points, and the buffers used. DEDUCED: log entry 12. -/
def transferAccesses (k : Packet) : List (Nat × Nat × Bool) :=
  let b := k.bytes
  let flags := byteAt b 4
  let xlen := ofLe (slice b 8 4)
  let w := (opForm (ofLe (slice b 0 2)) (b.drop 0x18)).map (·.dir) == some .outward
  if !bit flags 1 || xlen == 0 then []
  else if bit flags 2 then [(ofLe (slice b 16 8), xlen, w)]
  else (k.segs.head?.toList.map (fun g => (ofLe (slice b 16 8), 16 * g.length, false))) ++
    (k.segs.flatten.filter (fun e => bit e.ctl.toNat 1)).map (fun e => (e.addr.toNat, e.len.toNat, false)) ++
    (usedBuffers xlen k.segs).map (fun e => (e.1, e.2, w))

/-- The buffers of an "out" transfer, whose writes are judged when they are made (R40). -/
def transferWrites (k : Packet) : List (Nat × Nat) :=
  ((transferAccesses k).filter (fun a => a.2.2)).map (fun a => (a.1, a.2.1))

/-- A fetched packet takes its place in flight, copied into the device (R348); the answer of its form checks stands until its turn comes
(R350, R351, R355). -/
def fetchOne (k : Packet) (n : Nat) (q : QPair) : QPair :=
  let e : Inflight := { serial := n, tag := BitVec.ofNat 16 (ofLe (slice k.bytes 2 2)), opcode := ofLe (slice k.bytes 0 2)
                        fence := bit (byteAt k.bytes 4) 0, par := slice k.bytes 0x18 (byteAt k.bytes 6), xlen := ofLe (slice k.bytes 8 4)
                        bad := packetFault k, writes := transferWrites k }
  { q with hqHead := (q.hqHead + 1) % hqSize q, inflight := q.inflight ++ [e] }

/-- The outcome of a packet's reads under the firewall: the first access not granted freezes the engine, and the command
completes with DMA_FAULT (R351, R465). Reads are made, and so judged, when the packet is fetched. DEDUCED: log entry 12. -/
def transferGuard (p : Nat) (k : Packet) (s : State) : State :=
  match ((transferAccesses k).filter (fun a => !a.2.2)).find? (fun a => !granted s 4 a.1 a.2.1 a.2.2) with
  | none => s
  | some a =>
    let q := pair s p
    let n := q.inflight.length - 1
    captureViolation 4 a.2.2 a.1 (setPair p { q with inflight := lmod q.inflight n (fun e => { e with xfault := some .dmaFault }) } s)

/-- Fetch packets in slot order until one is refused by the firewall (R465), or one asks to leave RUN or TRIM (R366). -/
def fetchSlots (p : Nat) : List Packet → State → State
  | [], s => s
  | k :: t, s =>
    let q := pair s p
    let addr := q.hqBase + 64 * q.hqHead
    if !fetching s then s
    else if !granted s 4 addr 64 false then captureViolation 4 false addr s
    else
      let n := s.hop.serial + 1
      let s1 := setPair p (fetchOne k n q) { s with hop := { s.hop with serial := n } }
      fetchSlots p t (if (packetFault k).isNone then transferGuard p k s1 else s1)

/-- One turn of a pair: at most 4 packets, in slot order, within the pair's and the device's limits (R348, R349). -/
def fetchTurn (p : Nat) (ks : List Packet) (s : State) : State :=
  let q := pair s p
  let avail := (q.hqTail + hqSize q - q.hqHead) % hqSize q
  let n := min (min 4 avail) (min (64 - q.inflight.length) (512 - allInflight s))
  if fetching s ∧ myTurn p s then
    fetchSlots p (ks.take n) { s with hop := { s.hop with lastServed := tset 15 s.hop.lastServed q.prio p } }
  else s

/-- The ring still holds `size` unreleased replies: the oldest is overwritten and counted, the first since the counter was
last read raising the Bin-overrun event (R353). -/
def binOverrun (p : Nat) (s : State) : State :=
  let a := 0x10028 + 0x40 * p
  let first := cnt a s = 0
  let s1 := bump a 1 s
  if first then raise 113 p 1 s1 else s1

/-- Write the reply at a place in flight to the pair's next Bin slot (R346, R352–R354). -/
def writeReply (p k : Nat) (parityBad : Bool) (s : State) : State :=
  let q := pair s p
  match q.inflight[k]?, answered q.inflight k with
  | some e, some r =>
    let n := bqSize q
    let full := n ≤ q.unreleased
    let left := ldel q.inflight k
    let s0 := if full then binOverrun p s else s
    let q1 := { q with
      bqTail := (q.bqTail + 1) % n
      unreleased := if full then n else q.unreleased + 1
      bseq := (q.bseq + 1) % 65536
      unsig := q.unsig + 1
      unsigAt := if q.unsig = 0 then s.elapsed else q.unsigAt
      inflight := left
      st := if q.st = .draining ∧ left = [] then .disabled else q.st }
    let s1 := setPair p q1 (emit (.bin p q.bqTail (replyBytes e.tag r q.hqHead p q.bseq parityBad)) s0)
    if binDue q1 then binSignal p s1 else s1
  | _, _ => s

/-- A pair may write replies (R338, R346). -/
def binOpen (p : Nat) (s : State) : Bool :=
  !pcieHeld s && !dark s .hop && ((pair s p).st == .enabled || (pair s p).st == .draining)

/-- The places in flight whose replies are due, in slot order. -/
def doneAt (l : List Inflight) (pick : Nat) : Option Nat := ((List.range l.length).filter (fun n => (answered l n).isSome))[pick]?

/-- A reply comes to its Bin write: refused by the firewall, the write is not made and the engine freezes (R40, R465). -/
def judgedReply (p k : Nat) (parityBad : Bool) (s : State) : State :=
  let q := pair s p
  let addr := q.bqBase + 16 * q.bqTail
  if !binOpen p s then s
  else if !granted s 4 addr 16 true then captureViolation 4 true addr s
  else writeReply p k parityBad s

/-- Bin turns to a pair (R352): a reply of those due is written; a draining pair that has nothing left in flight is disabled (R346). -/
def binWrite (p pick : Nat) (parityBad : Bool) (s : State) : State :=
  match doneAt (pair s p).inflight pick with
  | some k => judgedReply p k parityBad s
  | none =>
    let q := pair s p
    if q.st = .draining ∧ q.inflight = [] ∧ binOpen p s then setPair p { q with st := .disabled } s else s

/-- Write every completed reply of a pair, oldest first, each judged. -/
def flushReplies (p : Nat) : Nat → State → State
  | 0, s => s
  | n + 1, s =>
    match doneAt (pair s p).inflight 0 with
    | some k => flushReplies p n (judgedReply p k false s)
    | none => s

/-- The AGG_TIME timer of a pair runs out (R354). -/
def aggTimer (p : Nat) (s : State) : State :=
  let q := pair s p
  if q.ien ∧ 0 < q.unsig ∧ passed s q.unsigAt (bits q.agg 8 16 * tickUs) then binSignal p s else s

/-- Send what a vector owes, if neither mask nor holdoff withholds it. -/
def sendOwed (v : Nat) (s : State) : State :=
  if s.evt.owed.getLsbD v ∧ !vecMasked s v ∧ !vecHeld s v ∧ !msgHeld s then sendMsg v s else s

def sendAllOwed (s : State) : State := (List.range 32).foldl (fun t v => sendOwed v t) s

/-- MSI-X Message Control is written (R337): Enable and Function Mask; what is owed and no longer withheld goes (R359).
PRESUMED: log entry 20. -/
def msixControl (en fmask : Bool) (s : State) : State :=
  sendAllOwed { s with hop := { s.hop with pcie := { s.hop.pcie with msixEn := en, funcMask := fmask } } }

/-- A vector's mask, or the function mask, clears (R359). PRESUMED: log entry 20. -/
def unmask (vec : Option (Fin 32)) (s : State) : State :=
  match vec with
  | some v => sendOwed v.val { s with evt := { s.evt with unmasked := setBit s.evt.unmasked v.val } }
  | none => msixControl s.hop.pcie.msixEn false s

/-- RW1C write of an EVT_PEND word (R357, R358). -/
def pendClear (k value : Nat) (s : State) : State :=
  { s with evt := { s.evt with pend := s.evt.pend &&& ~~~(BitVec.ofNat 128 (value % 2 ^ 32) <<< (32 * k)) } }

/-- The host interface's reset (R339): pairs, event routing, pending bits and the MSI-X table return to reset; replies are
discarded with the pairs, and the use of a Host Map Region ends (R412). -/
def hostIfReset (s : State) : State :=
  { s with hop := { serial := s.hop.serial }, evt := {}, rc := (List.range 16).foldl (fun t p => tset 0 t (0x10028 + 0x40 * p) 0) s.rc
           gra := { s.gra with hmrUse := false, hmrEnded := s.gra.hmrEnded || s.gra.hmrUse } }

/-- A PCIe error on a pair's fetch or Bin write (R346). -/
def pairFault (p cause : Nat) (s : State) : State :=
  let q := pair s p
  if q.st = .enabled then raise 112 p cause (setPair p { q with st := .faulted, cause := cause } s) else s

/-- A DMA request comes back (R346, R351); a poisoned completion stands in Advanced Error Reporting (R337). -/
def dmaDone (p : Nat) (what : DmaWhat) (r : DmaResult) (s0 : State) : State :=
  let s := if r = .poisoned then { s0 with hop := { s0.hop with pcie := { s0.hop.pcie with aerUnc := s0.hop.pcie.aerUnc ||| 2 ^ 12 } } } else s0
  match r with
  | .good => s
  | r =>
    match what with
    | .fetch => pairFault p 1 s
    | .binWrite => pairFault p 2 s
    | .transfer tag =>
      let st := if r = .poisoned then Status.poisoned else .dmaFault
      let q := pair s p
      match findInflight q.inflight tag with
      | some n => setPair p { q with inflight := lmod q.inflight n (fun e => { e with xfault := some st }) } s
      | none => s

/-- Held replies are written and messages owed go, once the function may write again (R338, R465). -/
def hopResume (s : State) : State :=
  sendAllOwed ((List.range 16).foldl
    (fun t p => if binOpen p t then flushReplies p (pair t p).inflight.length t else t) s)

/-! ### Meanings -/

def execHqTailWrite (p : Fin 16) (value : U32) (be : Byte) (s : State) : Res :=
  .next (regWrite .hop (0x1000 * p.val) (hqTail p.val value.toNat be) s)
def execBqHeadWrite (p : Fin 16) (value : U32) (be : Byte) (s : State) : Res :=
  .next (regWrite .hop (0x1000 * p.val + 4) (bqHead p.val value.toNat be) s)
def execQpEnable (p : Fin 16) (value : U32) (s : State) : Res := .next (regWrite .hop (0x10000 + 0x40 * p.val) (pairEnable p.val value.toNat) s)
def execQpDisable (p : Fin 16) (value : U32) (s : State) : Res := .next (regWrite .hop (0x10000 + 0x40 * p.val) (pairDisable p.val value.toNat) s)
def execEvtPendClear (word : Fin 4) (value : U32) (s : State) : Res := .next (regWrite .evt (0x20200 + 4 * word.val) (pendClear word.val value.toNat) s)
def execMsixVectorUnmask (vec : Option (Fin 32)) (s : State) : Res :=
  .next (match vec with
    | some v => regWrite .evt (0x2800C + 16 * v.val) (unmask vec) s
    | none => unmask vec s)
def execHopperFetch (p : Fin 16) (packets : List Packet) (s : State) : Res := .next (fetchTurn p.val packets s)
def execBinReplyWrite (p : Fin 16) (pick : Nat) (parityBad : Bool) (s : State) : Res := .next (binWrite p.val pick parityBad s)
def execBinAggTimer (p : Fin 16) (s : State) : Res := .next (aggTimer p.val s)
def execHoldoffExpiry (vec : Fin 32) (s : State) : Res := .next (sendOwed vec.val s)
def execDmaTransferCompletion (p : Fin 16) (what : DmaWhat) (result : DmaResult) (s : State) : Res :=
  .next (dmaDone p.val what result s)
def execD3hotEntry (s : State) : Res := .next { s with hop := { s.hop with d3hot := true } }
/-- Return to D0 (R338): held replies are written, messages owed go, and fetching may go on. -/
def execD0Return (s : State) : Res := .next (hopResume { s with hop := { s.hop with d3hot := false } })

end Sys2Proof.Machine
end

