-- ==== Sys2Proof/Machine/Recorder.lean ====
section
/-! DEFINITION. Internal queues' drains, flushes and scrub, and the Event Recorder's commands and events (R368, R387–R403). -/

namespace Sys2Proof.Machine

/-! ### Drains (R368, R391) -/

/-- A poisoned item delivered to a host drain: QUE_POISON_LAST and its event (R391). -/
def poisonDelivered (q tag pos : Nat) (s : State) : State :=
  raise 115 (q * 65536 + pos) tag
    { s with que := { s.que with poisonLast := tag % 2 ^ 16 + pos % 2 ^ 12 * 2 ^ 16 + q % 8 * 2 ^ 28 + 2 ^ 31 } }

/-- The poisoned items among those copied, from a position on. -/
def deliverPoison (q tag : Nat) : Nat → List QItem → State → State
  | _, [], s => s
  | pos, i :: t, s => deliverPoison q tag (pos + 1) t (if i.poison then poisonDelivered q tag pos s else s)

/-- The XLEN form of a drain: room for MAX records. -/
def drainForm (rec max : Nat) (c : Ctx) : Bool := decide (max * rec ≤ c.xlen)

/-- A word of an item fails its check as it is read: the item is poisoned, and counted at this first detection (R390). -/
def readBad (q : Nat) (s : State) (pos : Nat) : State :=
  match (queue s q)[pos]? with
  | none => s
  | some i => if i.poison then s else bump (quePoison q) 1 (setQueue q (lmod (queue s q) pos (fun i => { i with poison := true })) s)

/-- Words of items of a fabric-consumed queue fail their check as the consumer reads them (R390, R391). -/
def fabricBad (q : Nat) (bad : List Nat) (s : State) : State :=
  bad.foldl (fun t k => match (queue t q)[k]? with
    | some i => if i.poison then t else raise 115 (q * 65536 + k) 0 (readBad q t k)
    | none => t) s

/-- A drain of a host-consumed queue; `bad`: the places in the copy whose words fail their check as they are read. -/
def drain (q : Nat) (max : Nat) (bad : List Nat) (c : Ctx) (s0 : State) : CmdRes :=
  if max = 0 ∨ 4096 < max then refuse .badParam s0
  else
    let s := (bad.filter (fun k => decide (k < max))).foldl (readBad q) s0
    let l := queue s q
    let got := l.take max
    let s1 := deliverPoison q c.tag.toNat 0 got (queueDepthSeen q (setQueue q (l.drop max) s))
    .ok s1 (got.length + min 0xFFFF (l.length - got.length) * 2 ^ 16) ((got.map (fun i => itemBytes i.body)).flatten)

/-! ### Flush, scrub, stall (R390, R392, R403) -/

def queueFlushCmd (c : Ctx) (qid : Nat) (s : State) : CmdRes :=
  if 4 ≤ qid then refuse .badParam s
  else .later { s with que := { s.que with flush := s.que.flush ++ [(qid, jobOf c s)] } }

/-- The packet boundary of a queue with a flush requested: every item before it is removed and the commands complete. -/
def flushBoundary (q : Nat) (s : State) : State :=
  let due := s.que.flush.filter (fun f => f.1 == q)
  if due = [] then s
  else
    let n := (queue s q).length
    let s1 := queueDepthSeen q (setQueue q [] (bump (queFlushed q) n s))
    let s2 := raise 116 q n { s1 with que := { s1.que with flush := s1.que.flush.filter (fun f => f.1 != q) } }
    due.foldl (fun t f => replyLater (f.2.1, f.2.2) .ok 0 t) s2

/-- Bytes of an item as stored (R387, R403). -/
def itemWords (q : Nat) (b : QBody) : Nat :=
  match q, b with
  | 0, _ | 1, _ | 4, _ => 4
  | 2, _ | 3, _ | 6, _ => 2
  | _, .job j => 1 + (j.frame.length + 7) / 8
  | _, _ => 1

/-- Word offset of the first word of the item at a position (R403). -/
def wordOffset (q pos : Nat) (l : List QItem) : Nat := ((l.take pos).map (fun i => itemWords q i.body)).sum

/-- The scrub finds a bad word in an item: poison it, count it once, raise both events (R390). -/
def scrubOne (q : Nat) (pos word : Nat) (s : State) : State :=
  let l := queue s q
  match l[pos]? with
  | none => s
  | some i =>
    if i.poison then s
    else
      let s1 := setQueue q (lmod l pos (fun i => { i with poison := true })) s
      raise 118 q (wordOffset q pos l + word) (raise 115 (q * 65536 + pos) 0 (bump 0xF0004 1 (bump (quePoison q) 1 s1)))

def scrubVisit (q : Nat) (bad : List (Nat × Nat)) (s : State) : State := bad.foldl (fun t b => scrubOne q b.1 b.2 t) s

/-- A fabric-consumed queue holds an item longer than 100 ms (R403). -/
def queueStall (q : Nat) (s : State) : State :=
  match queue s q with
  | i :: _ => if 4 ≤ q ∧ passed s i.born (100 * tickMs + 1) then raise 119 q ((s.elapsed - i.born) / tickMs) s else s
  | [] => s

/-! ### The recorder's views (R397) -/

/-- Release a standing freeze: the held records are appended in order, poisoned ones dropped and counted (R391, R397). -/
def releaseFreeze (s : State) : State :=
  match s.log.freeze with
  | none => s
  | some _ =>
    let held := queue s 4
    let good := held.filterMap (fun i => match i.body, i.poison with | .rcd r, false => some r | _, _ => none)
    let bad := (held.filter (fun i => i.poison)).length
    let oldest := if s.log.mem = [] then (match good with | r :: _ => r.seq | [] => s.log.oldest) else s.log.oldest
    queueDepthSeen 4 (setQueue 4 [] (bump 0xE0018 bad
      { s with log := { s.log with freeze := none, freezeBound := 0, mem := good.reverse ++ s.log.mem, oldest := oldest } }))

/-- Release whatever view stands. -/
def releaseView (s : State) : State := releaseFreeze { s with log := { s.log with snap := none } }

/-- READ_MODE is freeze (R400). -/
def freezeMode (s : State) : Bool := decide (param s .recorder 0 0 = 1)

/-- LOG_NEWEST as read: while a freeze stands the memory's newest record (R397, R401). DEDUCED: log entry 80. -/
def logNewest (s : State) : Nat := if s.log.freeze.isSome then s.log.freezeBound else s.log.newest

/-- LOG_VIEW (R385, R397); `bad`: the held records whose words fail as a release reads them. DEDUCED: log entry 80. -/
def logViewCmd (op : Byte) (bad : List Nat) (s : State) : CmdRes :=
  if op = 0 then
    let t := releaseView (if s.log.freeze.isSome then fabricBad 4 bad s else s)
    .ok t t.log.newest []
  else if op = 1 then
    if !freezeMode s then refuse .refusedState s
    else if s.log.freeze.isSome then
      .ok { s with log := { s.log with freeze := some s.elapsed } } s.log.freezeBound []
    else .ok { s with log := { s.log with freeze := some s.elapsed, freezeBound := s.log.newest } } s.log.newest []
  else if op = 2 then
    if freezeMode s then refuse .refusedState s
    else .ok { s with log := { s.log with snap := some s.log.newest } } s.log.newest []
  else refuse .badParam s

/-- The recorder's memory fails (R398): the memory-failure record goes to the last-gasp bank, recording stops. -/
def recorderFail (ofs syn : Nat) (s : State) : State :=
  if s.log.failed then s
  else raise 111 ofs syn { s with log := { s.log with failed := true } }

/-- The record a word of the recorder's memory belongs to, four words of 64 bits each, the oldest record first. DEDUCED: log entry 80. -/
def wordSeq (s : State) (ofs : Nat) : Option Nat := (s.log.mem.reverse[ofs / 4]?).map (·.seq)

/-- A word of the recorder's memory does not read back (R398). -/
def recorderWord (ofs syn : Nat) (s : State) : State :=
  recorderFail ofs syn { s with log := { s.log with badWords := (wordSeq s ofs).toList ++ s.log.badWords } }

/-- Bytes of a record as read: what a failed word reads as the spec leaves open (R398). -/
def readRec (s : State) (r : Rec) : List Byte :=
  if s.log.badWords.contains r.seq then (List.range 32).map (fun k => BitVec.ofNat 8 (Config.freeNat (s.free + k))) else recBytes r

/-- Sequence number a is b or comes before it; after 0xFFFF_FFFF the next is 1 (R394). DEDUCED: log entry 80. -/
def seqLe (a b : Nat) : Bool := decide ((b + (2 ^ 32 - 1) - a) % (2 ^ 32 - 1) < 2 ^ 31)

/-- The records LOG_READ copies (R385, R397). -/
def logPick (start max : Nat) (s : State) : List Rec :=
  (s.log.mem.reverse.filter (fun r => seqLe start r.seq && (match s.log.snap with
    | some b => seqLe r.seq b | none => true))).take max

/-- LOG_READ (R385, R397, R398); `bad`: words of the memory that fail as they are read, each with its syndrome. -/
def logReadCmd (start max : Nat) (bad : List (Nat × Nat)) (s0 : State) : CmdRes :=
  if start = 0 ∨ !seqLe s0.log.oldest start then refuse .notFound s0
  else
    let got := logPick start max s0
    let s := (bad.filter (fun b => (wordSeq s0 b.1).any (fun q => got.any (fun r => r.seq == q)))).foldl (fun t b => recorderWord b.1 b.2 t) s0
    let data := (got.map (readRec s)).flatten
    if got.any (fun r => s.log.badWords.contains r.seq) then .done .poisoned { s with free := s.free + 32 } got.length data
    else .ok s got.length data

/-- What a set of the recorder's table does beyond standing: a changed READ_MODE releases the view; a changed bucket
starts full (R397, R400). -/
def logConfigAfter (ents : List CfgEntry) (old : Tab Int) (s : State) : State :=
  let s1 := if cfgGet old .recorder 0 0 ≠ param s .recorder 0 0 then releaseView s else s
  let codes := (ents.filter (fun e => decide (2 ≤ e.pid.toNat))).map (fun e => (e.pid.toNat - 2) * 256 + e.scope.toNat / 256)
  { s1 with log := { s1.log with buckets := codes.foldl (fun b k => tmod {} b k (fun x => { x with used := 0, regained := 0 })) s1.log.buckets } }

/-- LOG_RESTART (R395, R398). -/
def logRestartCmd (s : State) : CmdRes :=
  if s.log.failed then refuse .refusedState s
  else if !s.log.full then .ok s 0 []
  else .ok { s with log := { s.log with mem := [], oldest := s.log.nextSeq, full := false, highWater := false } } 0 []

/-- LASTGASP (R385, R399). -/
def lastGaspCmd (op : Byte) (s : State) : CmdRes :=
  if op = 0 then .ok s 0 (bankBytes s)
  else if op = 1 then .ok { s with log := { s.log with bank := [], lgSticky := false } } 0 (bankBytes s)
  else refuse .badParam s

/-- FREEZE_MAX runs out (R397); `bad` as in `logViewCmd`. -/
def freezeTimeout (bad : List Nat) (s : State) : State :=
  match s.log.freeze with
  | none => s
  | some t =>
    if passed s t (paramN s .recorder 1 0 * tickMs) then
      raise 110 s.log.freezeBound (queue s 4).length (releaseFreeze (fabricBad 4 bad s))
    else s

/-- A bucket below its depth gains the token due: the k-th one k ÷ RATE s after it fell below (R396). -/
def tokenRefill (code : Nat) (s : State) : State :=
  let b := tget {} s.log.buckets code
  if !dark s .log ∧ code < 1024 ∧ 0 < b.used ∧ (b.regained + 1) * tickS ≤ (s.elapsed - b.since) * logRate s code then
    { s with log := { s.log with buckets := tset {} s.log.buckets code { b with used := b.used - 1, regained := b.regained + 1 } } }
  else s

/-! ### Meanings -/

def execQueueFlush (c : Ctx) (qid : Byte) (s : State) : Res :=
  .next (command (.queueFlush c qid) true (queueFlushCmd c qid.toNat) s)
def execQueueFlushBoundary (qid : Fin 4) (s : State) : Res := .next (flushBoundary qid.val s)
def execQueueScrubVisit (qid : Fin 7) (bad : List (Nat × Nat)) (s : State) : Res := .next (scrubVisit qid.val bad s)
def execQueueStall (qid : Fin 7) (s : State) : Res := .next (queueStall qid.val s)
def execLogRead (c : Ctx) (start : U32) (max : U16) (bad : List (U32 × U32)) (s : State) : Res :=
  .next (command (.logRead c start max bad) (decide (c.xlen = max.toNat * 32)) (logReadCmd start.toNat max.toNat (bad.map (fun b => (b.1.toNat, b.2.toNat)))) s)
def execLogView (c : Ctx) (op : Byte) (bad : List (Fin 256)) (s : State) : Res :=
  .next (command (.logView c op bad) true (logViewCmd op (bad.map (·.val))) s)
def execLogConfig (c : Ctx) (op : Byte) (ents : List CfgEntry) (s : State) : Res :=
  .next (command (.logConfig c op ents) true (configure .recorder op ents (fun _ _ => none) (logConfigAfter ents)) s)
def execLogRestart (c : Ctx) (s : State) : Res := .next (command (.logRestart c) true logRestartCmd s)
def execLastgasp (c : Ctx) (op : Byte) (s : State) : Res :=
  .next (command (.lastgasp c op) (decide (c.xlen = 256)) (lastGaspCmd op) s)
def execFreezeTimeout (bad : List (Fin 256)) (s : State) : Res := .next (freezeTimeout (bad.map (·.val)) s)
def execRateTokenRefill (code : Nat) (s : State) : Res := .next (tokenRefill code s)
/-- NOP (R386): RESULT is the first four parameter bytes, those beyond NPARAM zero. -/
def execNop (c : Ctx) (params : List Byte) (s : State) : Res :=
  .next (command (.nop c params) (decide (params.length ≤ 40)) (fun t => .ok t (ofLe (params.take 4)) []) s)
def execStrangerDrain (c : Ctx) (max : U16) (bad : List (Fin 4096)) (s : State) : Res :=
  .next (command (.strangerDrain c max bad) (drainForm 32 max.toNat c) (drain 0 max.toNat (bad.map (·.val)) c) s)
def execWeirReportDrain (c : Ctx) (max : U16) (bad : List (Fin 4096)) (s : State) : Res :=
  .next (command (.weirReportDrain c max bad) (drainForm 32 max.toNat c) (drain 1 max.toNat (bad.map (·.val)) c) s)
def execTaiReportDrain (c : Ctx) (max : U16) (bad : List (Fin 4096)) (s : State) : Res :=
  .next (command (.taiReportDrain c max bad) (drainForm 16 max.toNat c) (drain 2 max.toNat (bad.map (·.val)) c) s)
def execStampDrain (c : Ctx) (max : U16) (bad : List (Fin 4096)) (s : State) : Res :=
  .next (command (.stampDrain c max bad) (drainForm 16 max.toNat c) (drain 3 max.toNat (bad.map (·.val)) c) s)

end Sys2Proof.Machine
end

