-- ==== Sys2Proof/Machine/TailBase.lean ====
section
/-! DEFINITION. Tailrace's shared operations: downlink records, frames, routes, deliveries and endings (R249–R278), with the
counter reserves (R131) and the key lookups they need. -/

namespace Sys2Proof.Machine

/-! ### Lookups -/

def entry (s : State) (i : Nat) : Entry := tget {} s.led.entries i
def setEntry (i : Nat) (e : Entry) (s : State) : State := { s with led := { s.led with entries := tset {} s.led.entries i e } }
def dl (s : State) (i : Nat) : DlRec := tget s.tai.blank s.tai.recs i
def setDl (i : Nat) (r : DlRec) (s : State) : State := { s with tai := { s.tai with recs := tset s.tai.blank s.tai.recs i r } }
def camp (s : State) (c : Nat) : Camp := tget {} s.tai.camps c
def setCamp (c : Nat) (v : Camp) (s : State) : State := { s with tai := { s.tai with camps := tset {} s.tai.camps c v } }
def repair (s : State) (n : Nat) : Repair := tget {} s.tai.repairs n
def setRepair (n : Nat) (v : Repair) (s : State) : State := { s with tai := { s.tai with repairs := tset {} s.tai.repairs n v } }
def tariff (s : State) (n : Nat) : Tariff := tget {} s.tai.tariffs n
def gwAt (s : State) (g : Nat) : Gw := tget {} s.ing.gws g
def setGw (g : Nat) (v : Gw) (s : State) : State := { s with ing := { s.ing with gws := tset {} s.ing.gws g v } }
def vport (s : State) (p : Nat) : VPort := tget {} s.van.ports p
def setVport (p : Nat) (v : VPort) (s : State) : State := { s with van := { s.van with ports := tset {} s.van.ports p v } }
def lport (s : State) (p : Nat) : LPort := tget {} s.lea.ports p
def setLport (p : Nat) (v : LPort) (s : State) : State := { s with lea := { s.lea with ports := tset {} s.lea.ports p v } }

/-- The root key: all ones once an entry to RETIRED has burned it (R451, R454). -/
def rootKey (s : State) : List Byte := if s.sec.rootBurned then List.replicate 32 0xFF else Config.rootKey
/-- A key derived from the root key under a label of four characters, the context DEVICE_ID (R455). -/
def derivedKey (s : State) (label : List Byte) : List Byte := Config.kdf (rootKey s) label (leBytes 4 Config.deviceId)
/-- The pair key in force: the one burned, or "PAIR" while none is (R454, R455). -/
def pairKey (s : State) : List Byte :=
  match s.sec.pairKey with
  | some k => k
  | none => if s.sec.burnedOut then List.replicate 32 0xFF else derivedKey s [0x50, 0x41, 0x49, 0x52]

/-- The Key Vault slot of an index (R457). -/
def slotOf (s : State) (i : Nat) : Option Vault := tget none s.sec.vault i
/-- The EUI-64 an index is bound to: the binding record wrapped in its slot (R457). -/
def euiOf (s : State) (i : Nat) : Nat := ((slotOf s i).map (·.eui)).getD 0
def keyOf (s : State) (i : Nat) : List Byte := ((slotOf s i).map (·.key)).getD []
/-- The 48 bytes of a slot of the wrapped store (R457): AES key wrap under the pair key of the key and the EUI-64, most significant byte
first, and zeros. -/
def vaultBytes (s : State) (i : Nat) : List Byte :=
  match slotOf s i with
  | some v => (Config.keyWrap (pairKey s) (v.key ++ beBytes 8 v.eui) ++ zeros 16).take 48
  | none => zeros 48
/-- A device key, unwrapped (R456). -/
def devKey (s : State) (w : Nat) : List Byte := tget [] s.sec.devKeys w

def coldOn (s : State) : Bool := decide (param s .ledger 2 0 ≠ 0)
/-- Change an index's cold record where cold records are configured and it has one. -/
def modCold (i : Nat) (f : Cold → Cold) (s : State) : State :=
  if coldOn s ∧ memUp s then { s with led := { s.led with cold := tmod none s.led.cold i (Option.map f) } } else s

/-! ### Counter reserves (R131) -/

def reserve (s : State) (k : Nat) : Reserve := tget {} s.ing.reserves k
def setReserve (k : Nat) (r : Reserve) (s : State) : State :=
  { s with ing := { s.ing with reserves := tset {} s.ing.reserves k r } }

/-- A COUNTERS record (R131). -/
def counterRecord (k ceil no : Nat) : List Byte :=
  let b := leBytes 1 k ++ zeros 3 ++ leBytes 8 ceil ++ leBytes 4 no ++ zeros 12
  b ++ leBytes 4 (crc32 b)

/-- Append a record to the COUNTERS area: 128 to a sector, the 64 sectors in turn, each erased as its turn comes (R131). -/
def appendCounter (k ceil : Nat) (s : State) : State :=
  let g := s.ing
  let pos := g.cntPos % 8192
  let area := if pos % 128 = 0 then g.counters.filter (fun e => e.1 / 128 != pos / 128) else g.counters
  { s with ing := { g with counters := tset [] area pos (counterRecord k ceil (g.recNo + 1)), cntPos := (pos + 1) % 8192, recNo := g.recNo + 1 } }

/-- A valid record of a counter: its ceiling and its record number. -/
def counterValid (k : Nat) (b : List Byte) : Option (Nat × Nat) :=
  if b.length = 32 ∧ byteAt b 0 = k ∧ slice b 28 4 = leBytes 4 (crc32 (b.take 28)) then some (ofLe (slice b 4 8), ofLe (slice b 12 4)) else none

/-- The ceiling the COUNTERS area gives a counter: that of its valid record with the highest record number; 0 where it has none (R131).
DEDUCED: log entry 40. -/
def storedCeil (area : Tab (List Byte)) (k : Nat) : Nat :=
  ((area.filterMap (fun e => counterValid k e.2)).foldl (fun b r => if b.2 < r.2 then r else b) (0, 0)).1

/-- Take a value of a counter under a reserve: nothing at its ceiling, where its users stop (R131). DEDUCED: log entry 40. -/
def takeReserve (k : Nat) (s : State) : Option Nat × State :=
  let r := reserve s k
  if r.val < r.ceil then (some r.val, setReserve k { r with val := r.val + 1 } s)
  else
    let s1 := setReserve k { r with stopped := true, notSent := r.notSent + 1 } s
    (none, if r.stopped then s1 else recordOnly 400 k (r.ceil % 2 ^ 32) s1)

/-! ### Campaign and record bookkeeping -/

def campCode : CampSt → Nat
  | .idle => 0 | .announce => 1 | .multicast => 2 | .repair => 3 | .activate => 4 | .closed => 5 | .aborted => 6
  | .loaded => 7 | .suspended => 8

/-- Indices that are unfinished members of a campaign (R254 CMEMB). -/
def members (s : State) (c : Nat) : List Nat := (s.tai.recs.filter (fun r => r.2.cmemb.getLsbD c)).map (·.1)

/-- Change a campaign's state, with its event (R281). -/
def campMove (c : Nat) (st : CampSt) (s : State) : State :=
  let k := camp s c
  raise 56 c (campCode st * 16 + campCode k.st) (setCamp c { k with st := st, since := s.elapsed } s)

/-- PEND bits 8–10 as Tailrace's tables give them (R259). -/
def pendOf (r : DlRec) : BitVec 4 :=
  BitVec.ofNat 4 (b2n (r.tslot ≠ 0xFF ∧ r.tunconf) + 2 * b2n (r.rpx ≠ 0xFFFF) + 4 * b2n (r.spx ≠ 0xFFFF))

/-- Write the flags where they differ; the HOST flag is never touched (R259). -/
def syncPend (i : Nat) (s : State) : State :=
  let e := entry s i
  if e.state = .free then s
  else setEntry i { e with pend := (e.pend &&& 8#4) ||| pendOf (dl s i) } s

/-! ### Frames (R249–R253, R263, R265, R271) -/

inductive DKind where
  | tariffSeg | fwFrag | setpoint | campCtrl
  deriving DecidableEq, Repr

def dkind : DKind → Nat
  | .tariffSeg => 0 | .fwFrag => 1 | .setpoint => 2 | .campCtrl => 3

def dctl (k : DKind) (bcast more : Bool) : Nat := 128 + dkind k * 8 + b2n bcast * 4 + b2n more * 2

def tdfHeader (ctl ttl dlen target dseq : Nat) : List Byte :=
  leBytes 1 ctl ++ leBytes 1 ttl ++ leBytes 2 dlen ++ leBytes 8 target ++ leBytes 4 dseq

/-- The downlink CCM nonce (R251). -/
def tdfNonce (target dseq ctl : Nat) : List Byte := beBytes 8 target ++ beBytes 4 dseq ++ leBytes 1 (ctl - ctl % 4 + ctl % 2)

/-- A unicast TDF: header, ciphertext and tag (R251). DESIGN CHOICE: log entry 68. -/
def tdfUnicast (key : List Byte) (k : DKind) (more : Bool) (ttl target dseq : Nat) (content : List Byte) : List Byte :=
  let ctl := dctl k false more
  tdfHeader ctl ttl content.length target dseq ++
    Config.ccmSeal key (tdfNonce target dseq ctl) (tdfHeader ctl 0 content.length target dseq) content 16

/-- A broadcast TDF with its 8-byte authenticator (R253). DESIGN CHOICE: log entry 68. -/
def tdfBroadcast (key : List Byte) (k : DKind) (more : Bool) (ttl dseq : Nat) (content : List Byte) : List Byte :=
  let ctl := dctl k true more
  let target := 2 ^ 64 - 1
  tdfHeader ctl ttl content.length target dseq ++ content ++
    (Config.cmac key (tdfHeader ctl 0 content.length target dseq ++ content)).take 8

/-- The endpoint's setpoint key (R273). -/
def spKey (root : List Byte) (eui keyGen : Nat) : List Byte :=
  Config.aes256 root (beBytes 8 eui ++ [0x53, 0x50] ++ leBytes 1 keyGen ++ zeros 5)

/-- A setpoint frame: channel A's TDF followed by channel B's SP_AUTH (R273). -/
def tdfSetpoint (key root : List Byte) (more : Bool) (ttl eui keyGen dseq : Nat) (body : List Byte) : List Byte :=
  tdfUnicast key .setpoint more ttl eui dseq body ++
    (Config.cmac (spKey root eui keyGen) (tdfHeader (dctl .setpoint false more) 0 body.length eui dseq ++ body)).take 8

def nseg (t : Tariff) : Nat := (t.data.length + 191) / 192

/-- DEDUCED: log entry 67. -/
def tariffContent (t : Tariff) (seg : Nat) : List Byte :=
  let d := slice t.data (192 * seg) 192
  leBytes 4 t.ver ++ leBytes 1 seg ++ leBytes 1 (nseg t) ++ leBytes 2 d.length ++ d

def fragContent (k : Camp) (c block frag : Nat) : List Byte :=
  let d := slice k.image (1024 * block + 128 * frag) 128
  leBytes 1 c ++ leBytes 1 frag ++ leBytes 2 block ++ d ++ zeros (128 - d.length)

def campCtrl (k : Camp) (c : Nat) : List Byte :=
  leBytes 1 c ++ leBytes 1 (campCode k.st + (if k.st = .multicast then 16 * k.pass else 0)) ++ leBytes 2 k.blocks
    ++ leBytes 4 k.imgVer ++ leBytes 4 k.size ++ k.digest

/-! ### Due content and routes (R255–R257) -/

/-- The repair entries of an index, in chain order (R270). -/
def chain (s : State) : Nat → Nat → List Nat
  | 0, _ => []
  | f + 1, n => if n = 0xFFFF then [] else n :: chain s f (repair s n).next

def chainOf (s : State) (i : Nat) : List Nat := chain s 16 (dl s i).rpx

/-- The repair entries of an index whose fragments are due: neither parked nor held by their campaigns' states. -/
def dueRepairs (s : State) (i : Nat) : List Nat :=
  (chainOf s i).filter (fun n => (repair s n).parked.isNone &&
    ((camp s (repair s n).camp).st == .repair || (camp s (repair s n).camp).st == .activate))

/-- The repair entry whose fragment goes next: the lowest-numbered campaign's. -/
def dueRepair (s : State) (i : Nat) : Option Nat :=
  (dueRepairs s i).foldl (fun b n => match b with
    | none => some n
    | some m => if (repair s n).camp < (repair s m).camp then some n else some m) none

/-- The segment of a tariff that goes next: TSEG; one that a shorter table, not yet swept, no longer has is open (R263).
DESIGN CHOICE: log entry 133. -/
def nextSeg (s : State) (r : DlRec) : Nat :=
  let n := nseg (tariff s r.tslot)
  if r.tseg < n then r.tseg else Config.freeNat s.free % n

/-- What is due for an index, in the order of R257; `sp` tells whether its setpoint counts. -/
def dueItems (s : State) (i : Nat) (sp : Bool) : List TdfWhat :=
  let r := dl s i
  (if sp ∧ r.spx ≠ 0xFFFF then (match tget none s.tai.sps r.spx with
    | some e => [TdfWhat.setpoint i e.seq] | none => []) else []) ++
  (match dueRepair s i with | some n => [TdfWhat.repair i n] | none => []) ++
  (if r.tslot ≠ 0xFF ∧ r.tunconf ∧ nseg (tariff s r.tslot) ≠ 0 then [TdfWhat.tariff i r.tslot (nextSeg s r)] else [])

inductive Route where
  | uni (port : Nat) | flood (port ttl : Nat) | plc | gw (g : Nat) | none
  deriving DecidableEq, Repr

/-- The routes that send through Vane. -/
def radioRoute : Route → Bool
  | .uni _ | .flood _ _ => true
  | _ => false

/-- The route table of R255. -/
def route (s : State) (i : Nat) : Route :=
  let e := entry s i
  let r := dl s i
  match e.path.toNat with
  | 1 => if r.floodOnly then .flood e.port.toNat (min (e.hops.toNat + 1) (paramN s .vane 9 0)) else .uni e.port.toNat
  | 2 => .plc
  | 3 => if r.gwValid then .gw r.gwId else .none
  | _ => .none

/-- Sending is held: QUIET, no claim, or a power state being entered (R277, R492). -/
def taiHeld (s : State) : Bool := frozen s 9 || s.dev.quiet || !s.brk.hold || entering s

/-- A safety fault is reported: a latched cause that leads to the safe state stands (R278). -/
def safetyFault (s : State) : Bool := s.saf.safe

/-- Nothing is sent to this index: FREE, BLOCKED or its counter ended (R252, R277). -/
def noUnicast (s : State) (i : Nat) : Bool :=
  (entry s i).state == .free || (entry s i).state == .blocked || (dl s i).dseqEnd

/-- Take the index's DSEQ (R252). -/
def takeDseq (i : Nat) (s : State) : Nat × State :=
  let r := dl s i
  let s1 := setDl i { r with dseq := r.dseq + 1, dseqEnd := r.dseqEnd || r.dseq + 1 ≥ 0xFFFFF000 } s
  (r.dseq, if r.dseq + 1 ≥ 0xFFFFF000 ∧ !r.dseqEnd then raise 62 i 0 s1 else s1)

/-- The kind and content of a due item. -/
def itemContent (s : State) : TdfWhat → DKind × List Byte
  | .tariff _ slot seg => (.tariffSeg, tariffContent (tariff s slot) seg)
  | .repair _ n =>
    let r := repair s n
    let first := ((r.ranges[r.range]?).getD (0, 0)).1
    (.fwFrag, fragContent (camp s r.camp) r.camp (first + r.block) r.frag)
  | .setpoint i _ => (.setpoint, ((tget none s.tai.sps (dl s i).spx).map (·.body)).getD [])
  | .camp c => (.campCtrl, campCtrl (camp s c) c)

def isSetpoint : TdfWhat → Bool
  | .setpoint _ _ => true
  | _ => false

/-- MORE of an item (R249, R257): another item is due after it; a tariff's segments stay due, a repair entry's next
fragment follows. -/
def moreAfter (s : State) (i : Nat) (w : TdfWhat) : Bool :=
  let l := dueItems s i true
  match w with
  | .setpoint _ _ => decide (1 < l.length)
  | .repair _ n =>
    let r := repair s n
    decide (1 < (l.filter (fun x => !isSetpoint x)).length) || decide (r.frag < 7) ||
      decide (r.block + 1 < ((r.ranges[r.range]?).getD (0, 0)).2) || decide (r.range + 1 < r.ranges.length) ||
      (dueRepairs s i).any (fun m => m != n)
  | .tariff _ _ _ => true
  | .camp _ => false

/-- A Headrace downlink datagram to a gateway (R258). -/
def gwDownlink (eth g : Nat) (tdfs : List (List Byte)) (s : State) : State :=
  let w := gwAt s g
  let block := fun (t : List Byte) => leBytes 1 t.length ++ [0x03, 0, 0] ++ t ++ zeros ((4 - t.length % 4) % 4)
  let payload := [0x01, 0x03] ++ leBytes 2 g ++ leBytes 4 w.gwSeq ++ leBytes 2 tdfs.length ++ zeros 2 ++ (tdfs.map block).flatten
  bump 0x8002C 1 (emitEth (.udp eth w.addr w.udp payload) (setGw g { w with gwSeq := (w.gwSeq + 1) % 2 ^ 32 } s))

/-- An item leaves Vane neither sent nor failed: it stays due, and a burst it was part of ends. -/
def dropItem (num : Nat) (s : State) : State :=
  { s with tai := { s.tai with items := s.tai.items.filter (fun it => it.num != num)
                               bursts := s.tai.bursts.filter (fun b => b.item != num) } }

/-- What a radio port sends or awaits ends, with its running script; a CHANNEL command waiting for a script is refused.
DEDUCED: log entry 54. -/
def cutPort (p : Nat) (s : State) : State :=
  let v := vport s p
  let cmds := (match v.running with | some (_, _, some w) => [w] | _ => []) ++ v.chanWait
  let items := ((v.tx.toList ++ (v.ackWait.map (·.1)).toList).filter (fun f => f.uni.isSome)).map (·.item)
  let s1 := items.foldl (fun t n => dropItem n t) s
  let s2 := if v = {} then s1 else setVport p { v with tx := none, ackWait := none, running := none, chanWait := [] } s1
  cmds.foldl (fun t w => replyLater w .refusedState 0 t) s2

/-! ### Slots (R224, R226, R227) -/

def slotAt (q : LPort) (n : Nat) : LSlot := tget {} q.slots n
def putSlotL (p n : Nat) (v : LSlot) (s : State) : State := setLport p { lport s p with slots := tset {} (lport s p).slots n v } s

/-- A slot becomes FREE; an ASSIGN still due for it falls away. -/
def freeSlot (p n : Nat) (s : State) : State :=
  let q := lport s p
  setLport p { q with slots := tset {} q.slots n {}, assigns := q.assigns.filter (fun a => a.1 != n) } s

/-- A slot is released: RELEASE goes at the next discovery step (R227). -/
def releaseSlot (p n : Nat) (moved : Bool) (s : State) : State :=
  let k := slotAt (lport s p) n
  if k.st = .free then s
  else
    let s1 := freeSlot p n s
    let q := lport s1 p
    let s2 := setLport p { q with releases := q.releases ++ [(n, euiOf s k.idx)] } s1
    if moved then bump 0x70004 1 s2 else s2

def setTone (p n : Nat) (tm : Option Nat) (s : State) : State :=
  let k := slotAt (lport s p) n
  if k.st = .free then s else putSlotL p n { k with override := tm, tmUp := tm.getD k.tmUp } s

/-- A slot change by command. -/
def applyChange (p : Nat) (s : State) : SlotChange → State
  | .release n m => releaseSlot p n m s
  | .tone n tm => setTone p n tm s

/-- The exchange in progress is over: the slot changes that waited for it apply (R226). -/
def endExch (p : Nat) (s : State) : State :=
  let q := lport s p
  if q.exch.isNone ∧ q.waiting = [] then s else q.waiting.foldl (applyChange p) (setLport p { q with exch := none, waiting := [] } s)

/-- A power-line port's exchange and calibration are cut; a calibration that was running is still due (R216, R484). -/
def cutLport (p : Nat) (s : State) : State :=
  let q := lport s p
  let s0 := endExch p s
  let s1 := if !q.calibrating then s0 else setLport p { lport s0 p with calibrating := false } s0
  match q.exch.bind (·.item) with
  | some (n, _) => dropItem n s1
  | none => s1

/-- Place a frame on a radio port's transmit queue; without the claim it is dropped (R183, R196). -/
def radioQueue (port : Nat) (f : TxFrame) (s : State) : State :=
  if dark s .van then s
  else if s.brk.groups % 2 = 0 then raise 42 port 0 (bump 0x6001C 1 s)
  else
    let p := vport s port
    setVport port { p with queue := p.queue ++ [f] } s

/-- Advance a parked-or-not cursor after a fragment's MAC success (R270). -/
def advanceRepair (n : Nat) (s : State) : State :=
  let r := repair s n
  let len := ((r.ranges[r.range]?).getD (0, 0)).2
  if r.frag < 7 then setRepair n { r with frag := r.frag + 1 } s
  else if r.block + 1 < len then setRepair n { r with frag := 0, block := r.block + 1 } s
  else if r.range + 1 < r.ranges.length then setRepair n { r with frag := 0, block := 0, range := r.range + 1 } s
  else setRepair n { r with frag := 0, block := 0, range := 0, parked := some s.elapsed } s

/-- What a delivered item advances (R263, R270). -/
def itemDelivered (w : TdfWhat) (s : State) : State :=
  match w with
  | .tariff i slot _ =>
    let r := dl s i
    if r.tslot = slot ∧ 0 < nseg (tariff s slot) then setDl i { r with tseg := (r.tseg + 1) % nseg (tariff s slot) } s else s
  | .repair i n =>
    if (repair s n).ranges ≠ [] ∧ (repair s n).idx = i ∧ (repair s n).parked.isNone then advanceRepair n s else s
  | _ => s

/-- The next item number, by which TDF_MAC_OUTCOME names an item. -/
def newItem (s : State) : Nat × State := (s.tai.itemNo, { s with tai := { s.tai with itemNo := s.tai.itemNo + 1 } })

/-- The campaign an item belongs to. -/
def whatCamp (s : State) : TdfWhat → Option Nat
  | .repair _ n => some (repair s n).camp
  | .camp c => some c
  | _ => none

/-! ### Broadcast and campaigns (R253, R264–R270) -/

/-- Take the broadcast counter's value (R253): none at its end or at its reserve's ceiling. -/
def takeBcast (s : State) : Option Nat × State :=
  if 0xFFFFF000 ≤ (reserve s 2).val then (none, s)
  else
    let r11_ := takeReserve 2 s
    let v := r11_.1
    let s1 := r11_.2
    match v with
    | none => (none, s1)
    | some d => (some d, if d + 1 = 0xFFFFF000 then raise 62 0xFFFFFFFF 0 s1 else s1)

/-- A port, or the gateway path, is a campaign path (R268): 0–7 radio, 8–11 PLC, 12 gateway. -/
def isPath (s : State) (p : Nat) : Bool :=
  if p < 8 then bit (paramN s .tailrace 9 0) p
  else if p < 12 then bit (paramN s .tailrace 9 1) (p - 8)
  else paramN s .tailrace 9 2 == 1

def paths (s : State) : List Nat := (List.range 13).filter (isPath s)

/-- Place broadcast frames of a campaign on a path: one at a time on radio and PLC, as one datagram to each gateway known. A
dark path takes none. -/
def pathPut (c p : Nat) (tdfs : List (List Byte)) (s : State) : State :=
  if p < 8 then
    (if dark s .van then s
     else tdfs.foldl (fun t b => radioQueue p { prio := 5, bytes := b, item := (newItem t).1, due := s.elapsed, camp := some c } (newItem t).2) s)
  else if p < 12 then
    (if dark s .lea then s
     else
      let q := lport s (p - 8)
      setLport (p - 8) { q with bcast := q.bcast ++ tdfs.map (fun b => (c, b)) } s)
  else (s.ing.gws.filter (fun e => e.2.set && e.2.seen)).foldl (fun t e => gwDownlink e.2.eth e.1 tdfs t) s

/-- DTTL of a broadcast TDF: FLOOD_TTL on radio; on the other paths the spec names none. -/
def bcastTtl (p : Nat) (s : State) : Nat × State :=
  if p < 8 then (paramN s .vane 9 0, s) else drawFree 4 s

/-- CAMP_CTRL broadcast on every campaign path (R265, R267), where sending is not held (R277). -/
def campBroadcast (c : Nat) (s : State) : State :=
  if taiHeld s then s
  else
    let r12_ := takeBcast s
    let d := r12_.1
    let s1 := r12_.2
    match d with
    | none => s1
    | some d =>
      (paths s1).foldl (fun t p =>
        let r13_ := bcastTtl p t
        let ttl := r13_.1
        let t1 := r13_.2
        pathPut c p [tdfBroadcast (devKey t1 2) .campCtrl false ttl d (campCtrl (camp t1 c) c)] t1) s1

/-- Two 16-bit counts in one word; a count the field cannot hold is open (log entry 2). -/
def count16 (n : Nat) (s : State) : Nat := if n < 65536 then n else Config.freeNat (s.free + n) % 65536

/-- The campaign closes, with its completion event (R267, R281). -/
def campClose (c : Nat) (s : State) : State :=
  let k := camp s c
  raise 57 c (count16 k.active s + 65536 * count16 k.failed s) (campMove c .closed s)

/-- What follows at once from a campaign's members (R267): REPAIR with every member COMPLETE and AUTO_ACT set enters
ACTIVATE unless a safety fault is reported; ACTIVATE with no member left closes. -/
def campSettle (c : Nat) (s : State) : State :=
  let k := camp s c
  let s1 := if k.st = .repair ∧ param s .tailrace 8 0 = 1 ∧ (members s c).all (fun i => k.ready.contains i) ∧ !safetyFault s then
      campBroadcast c (campMove c .activate s) else s
  if (camp s1 c).st = .activate ∧ members s1 c = [] then campClose c s1 else s1

def campSettleAll (s : State) : State := (List.range 16).foldl (fun t c => campSettle c t) s

/-! ### Endings, withdrawals, recalls (R276–R278) -/

/-- End the setpoint in a table entry with a result (R276). -/
def endSetpoint (n code : Nat) (s : State) : State :=
  match tget none s.tai.sps n with
  | none => s
  | some e =>
    let r := dl s e.idx
    let s1 := { s with tai := { s.tai with sps := tset none s.tai.sps n none } }
    let s2 := if r.spx = n then syncPend e.idx (setDl e.idx { r with spx := 0xFFFF } s1) else s1
    let recd := leBytes 4 e.idx ++ leBytes 4 e.seq ++ leBytes 1 code ++ zeros 3 ++ leBytes 4 (nowS s)
    let s3 := (pushOver 2 (.bytes recd) s2).2
    let s4 := if code = 0 then bump 0x80048 1 s3 else if code = 2 then bump 0x8004C 1 s3 else s3
    raise 58 e.idx code s4

/-- Take the frames a predicate picks out of every radio queue, not those on air; how many went. -/
def recallRadio (p : TxFrame → Bool) (s : State) : Nat × State :=
  let n := (s.van.ports.map (fun q => (q.2.queue.filter p).length)).sum
  (n, { s with van := { s.van with ports := s.van.ports.map (fun q => (q.1, { q.2 with queue := q.2.queue.filter (fun f => !p f) })) } })

/-- Items whose frames are on air or about to be: they complete (R278). -/
def airItems (s : State) : List Nat :=
  s.van.ports.filterMap (fun q => q.2.tx.bind (fun f => if f.uni.isSome then some f.item else none))

/-- A port's exchange without the item of a number in a list; one due to be sent again and so recalled is told of. -/
def recallExch (gone : List Nat) (q : LPort) : Bool × LPort :=
  match q.exch with
  | some e => match e.item with
    | some (n, _) => if gone.contains n then (!e.open_, { q with exch := some { e with item := none } }) else (false, q)
    | none => (false, q)
  | none => (false, q)

/-- Recall what two predicates pick, frames and items, where it is held and not on air: radio queues, frames whose acknowledgement is
awaited, and the items of polls (R267, R277, R278); how many were queued and unsent. DEDUCED: log entry 71. -/
def recallItems (p : TxFrame → Bool) (w : TdfItem → Bool) (s : State) : Nat × State :=
  let gone := (s.tai.items.filter (fun it => w it && !(airItems s).contains it.num)).map (·.num)
  let s1 := (recallRadio p s).2
  let waits := fun (v : VPort) => v.ackWait.any (fun a => p a.1)
  ((recallRadio p s).1 + (s1.lea.ports.filter (fun q => (recallExch gone q.2).1)).length, { s1 with
    van := { s1.van with ports := tmap {} (fun v => if waits v then { v with ackWait := none } else v) s1.van.ports }
    lea := { s1.lea with ports := tmap {} (fun q => (recallExch gone q).2) s1.lea.ports }
    tai := { s1.tai with items := s1.tai.items.filter (fun it => !gone.contains it.num)
                         bursts := s1.tai.bursts.filter (fun b => !gone.contains b.item) } })

/-- The withdrawal a reported safety fault causes (R278). -/
def faultWithdraw (s : State) : State :=
  let outs := (s.tai.sps.filter (fun e => e.2.isSome)).map (·.1)
  let s1 := outs.foldl (fun t n => endSetpoint n 4 t) s
  let r14_ := recallItems (fun f => f.prio == 2) (fun it => isSetpoint it.what) s1
  raise 60 outs.length r14_.1 (bump 0x80058 r14_.1 r14_.2)

/-- Remove a repair entry from its index's chain (R269, R270). -/
def removeRepair (i n : Nat) (s : State) : State :=
  let keep := (chainOf s i).filter (fun m => m != n)
  let s1 := setRepair n {} s
  let s2 := (keep.zip (keep.drop 1 ++ [0xFFFF])).foldl (fun t e => setRepair e.1 { repair t e.1 with next := e.2 } t) s1
  syncPend i (setDl i { dl s2 i with rpx := keep.headD 0xFFFF } s2)

/-- An item's index. -/
def whatIdx : TdfWhat → Option Nat
  | .tariff i _ _ => some i | .repair i _ => some i | .setpoint i _ => some i | .camp _ => none

/-- Withdraw all content of an index at its unbind (R277): the record as R254 gives it, keeping nothing. -/
def withdrawIndex (i : Nat) (s : State) : State :=
  let s1 := if (dl s i).spx ≠ 0xFFFF then endSetpoint (dl s i).spx 3 s else s
  let s2 := (chainOf s1 i).foldl (fun t n => setRepair n {} t) s1
  let s3 := (recallItems (fun f => f.idx == some i) (fun it => whatIdx it.what == some i) s2).2
  campSettleAll { s3 with tai := { s3.tai with
    recs := tset s3.tai.blank s3.tai.recs i {}
    items := s3.tai.items.filter (fun it => whatIdx it.what != some i)
    bursts := s3.tai.bursts.filter (fun b => b.idx != i)
    camps := (List.range 16).foldl (fun m c => tmod {} m c (fun k => { k with ready := k.ready.filter (fun x => x != i) })) s3.tai.camps } }

end Sys2Proof.Machine
end

