-- ==== Sys2Proof/Machine/SafeState.lean ====
section
/-! DEFINITION. The claim's loss, faults and the safe state (R432–R434, R477–R481), shared by every part that can fault. -/

namespace Sys2Proof.Machine

/-! ### Claim and groups (R429, R432, R434) -/

/-- The own claim byte; zero while LEVEL is 0 (R429). -/
def claimByte (s : State) : Nat := if s.brk.level = 0 then 0 else s.brk.level * 2 + b2n s.brk.unitId

/-- A group is enabled: 0 RAD, 1 PLC, 2 FLUME, 3 CHK (R434). -/
def grp (s : State) (k : Nat) : Bool := bit s.brk.groups k

def fluCh (s : State) (c : Nat) : FluCh := tget {} s.flu.chans c
def setFluCh (c : Nat) (v : FluCh) (s : State) : State := { s with flu := { s.flu with chans := tset {} s.flu.chans c v } }

/-- What the next samples are formed with. -/
def fluSet (s : State) : FluSet :=
  { chans := (List.range 12).map (fun c =>
      let k := fluCh s c
      { role := k.role, scale := k.scale, invert := k.invert, dcb := paramN s .flume 2 (c * 256), dcbK := paramN s .flume 1 (c * 256)
        otp := k.otp.getD {}, user := k.user, fault := k.fault, settling := k.settling })
    bankA := s.flu.bankA, bankB := s.flu.bankB, bank := s.flu.bank, fade := s.flu.fade, settling := s.flu.settling, rate := s.fan.rate }

/-- The settings are about to change: those that held up to now are kept for the samples not yet formed. -/
def noteFlu (s : State) : State :=
  if !s.flu.live || s.flu.past.any (fun p => p.until_ == s.elapsed) then s
  else { s with flu := { s.flu with past := s.flu.past ++ [{ until_ := s.elapsed, fix := nowFix s, set := fluSet s }] } }

/-- Group delay of tap P32, ns (R287). -/
def gdP32 : Nat := 523315

/-- Group delay of tap W8, ns (R287). -/
def gdW8 : Nat := 1617065

/-- The stamp of a sample that emerges now (R288). -/
def stampNow (s : State) : Nat := nowNs s - gdP32

/-- The chain stops: the block goes dark (R307). -/
def fluOff (s0 : State) : State :=
  if !s0.flu.live then s0
  else
    let s := noteFlu s0
    { s with flu := { s.flu with live := false, edges := s.flu.edges ++ [{ kind := .off, tick := s.elapsed, ns := stampNow s, toNs := 0 }] } }

/-- The chain runs on after its clock was lost (R31). -/
def fluOn (s : State) : State :=
  if s.flu.live then s
  else { s with flu := { s.flu with live := true, edges := s.flu.edges ++ [{ kind := .on, tick := s.elapsed, ns := stampNow s, toNs := 0 }] } }

/-- A cause of R284 stands on a configured channel: it enters fault, and no clock is the cause shown while it lasts (R283).
DESIGN CHOICE: log entry 116. -/
def chanFault (c cause : Nat) (s0 : State) : State :=
  let k0 := fluCh s0 c
  if k0.role = 0 then s0
  else
    let s := noteFlu s0
    let k := { k0 with stuck := k0.stuck || cause == 1, calBad := k0.calBad || cause == 3 }
    if k.fault = 0 then raise 64 c cause (setFluCh c { k with fault := cause, faultAt := s.elapsed, settling := none } s)
    else if cause = 2 ∧ k.fault ≠ 2 then raise 64 c cause (setFluCh c { k with fault := cause } s)
    else setFluCh c k s

/-- An NAND channel's state. -/
def setChk (c : Chan) (s : State) : State := { s with gra := { s.gra with chk := c } }

/-- A running checkpoint is given up (R410, R439): the generation stays incomplete. A program that the loss of the claim catches still ends
inside the NAND. DEDUCED: log entry 86. -/
def abandonCkpt (cause : Nat) (st : Status) (s : State) : State :=
  match s.brk.run with
  | none => s
  | some r =>
    let s1 := raise 91 (r.gen % 2 ^ 32) cause (bump 0xB001C 1 { s with
      brk := { s.brk with run := none }, snap := none, cut := if cause = 1 then s.snap.map (fun k => (r, k)) else none })
    match r.cmd with
    | some w => replyLater w st 0 s1
    | none => s1

/-- Groups change to a mask: what leaves a group goes high-impedance, its transmissions are cut, its inputs are ignored; a FORMAT that a
loss of the CHK group abandons is answered (R183, R283, R409, R410, R432). DESIGN CHOICE: log entry 82. -/
def setGroups (m : Nat) (s : State) : State :=
  let off := fun k => grp s k && !bit m k
  let s1 := { s with brk := { s.brk with groups := m } }
  let s2 := ["RAD", "PLC", "FLUME", "CHK"].zipIdx.foldl
    (fun t e => if grp s e.2 == bit m e.2 then t else emit (.pin e.1 (b2n (bit m e.2))) t) s1
  let s3 := if off 0 then (List.range 8).foldl (fun t p => cutPort p t) s2 else s2
  let s4 := if off 1 then (List.range 4).foldl (fun t p => cutLport p t) s3 else s3
  let s5 := if off 2 then fluOff ((List.range 12).foldl (fun t c => chanFault c 2 t) s4)
    else if !grp s 2 && bit m 2 && !s4.dev.unclocked.contains .afe && !dark s4 .flu then fluOn s4 else s4
  if !grp s 3 && bit m 3 && s5.gra.chk.st == .gated then setChk { s5.gra.chk with st := .mounting } s5
  else if off 3 then
    let s6 := abandonCkpt 1 .refusedState (if s5.gra.chk.st = .absent then s5 else setChk { s5.gra.chk with st := .gated, format := none } s5)
    match s5.gra.chk.format with
    | some w => replyLater w .refusedState 0 s6
    | none => s6
  else s5

/-- The claim drops: LEVEL 0, and holding ends with its event if it was held (R432, R448). DEDUCED: log entry 85. -/
def dropClaim (winner cause : Nat) (s : State) : State :=
  let held := s.brk.hold
  let s1 := setGroups 0 { s with brk := { s.brk with level := 0, next := none, hold := false } }
  if held then raise 89 winner cause s1 else s1

/-- The level SAFE_nFAULT is driven to. -/
def safePin (s : State) : Bool := !(s.saf.pinLow || s.pwr.wakeFault)

/-! ### The end of QUIET (R504) -/

/-- QUIET has ended: every port starts at step 0 (R235). -/
def leatQuietEnd (s0 : State) : State :=
  let s := (List.range 4).foldl (fun t p => endExch p t) s0
  { s with lea := { s.lea with ports := s.lea.ports.map (fun e =>
      (e.1, { e.2 with step := 0, begun := false, pos := 0, run := false, freeAt := 0 })) } }

/-- QUIET ends: its event, the ramp of the beacons, Leat at step 0 (R207, R235, R503, R504). -/
def quietEnd (s : State) : State :=
  if !s.dev.quiet then s
  else
    let ms := (s.elapsed - s.pwr.quietAt) / tickMs
    raise 107 ms s.pwr.resetCause (leatQuietEnd { s with
      dev := { s.dev with quiet := false }, pwr := { s.pwr with quiet := false, quietMs := ms },
      van := { s.van with ramp := some s.elapsed } })

/-- The role leaves RESTORING (R504). -/
def leaveRestoring (was : Role) (s : State) : State := if was = .restoring then quietEnd s else s

/-! ### Faults (R477–R480) -/

/-- A fault that a retry found transient: counted and reported (R477). -/
def transientFault (cause : Nat) (s : State) : State :=
  let s1 := bump 0x108 1 s
  raise 123 cause (cnt 0x108 s1) s1

/-- Entry to the safe state for a cause, or its latching while it is in force (R480 steps 1–3). The claim's drop follows. -/
def enterSafe (cause : Nat) (s : State) : State :=
  let s1 := { s with saf := { s.saf with latched := setBit s.saf.latched cause }, svc := { s.svc with healthAt := s.elapsed } }
  if s.saf.safe then s1
  else
    faultWithdraw (emit (.pin "SAFE_nFAULT" 0)
      { s1 with saf := { s1.saf with safe := true, pinLow := true, first := cause, dropDue := some (s.elapsed, cause) },
                pwr := { s1.pwr with safeFirst := cause } })

/-- A test of a proof-wake fails (R435, R444): its code is stored, and the proof-wake is over. -/
def proofFault (was : Role) (code : Nat) (b : BrkState) : BrkState :=
  if was = .proof then { b with proofValid := true, proofPass := false, proofCode := code, onProof := false } else b

/-- Step 4 and 5 of R480: the claim drops to zero, the role becomes FAULT, the safe-state-entered event follows. -/
def safeDrop (s : State) : State :=
  match s.saf.dropDue with
  | none => s
  | some (_, cause) =>
    let byte := claimByte s
    let s1 := dropClaim 0 2 { s with saf := { s.saf with dropDue := none } }
    raise 121 cause byte (leaveRestoring s.brk.role { s1 with brk := { s1.brk with role := .fault, current := false } })

/-- The same cause came up within 100 ms (R477). -/
def recurs (cause : Nat) (s : State) : Bool :=
  let l := tget 0 s.saf.seen cause
  decide (0 < l) && !passed s (l - 1) (100 * tickMs + 1)

def markCause (cause : Nat) (s : State) : State :=
  { s with saf := { s.saf with seen := tset 0 s.saf.seen cause (s.elapsed + 1) } }

/-- A diagnostic with one retry (R477): transient when the retry succeeds and the cause is not a recurrence, otherwise
lasting. -/
def diagnose (cause : Nat) (retryOk : Bool) (lasting : State → State) (s : State) : State :=
  if retryOk && !recurs cause s then markCause cause (transientFault cause s) else markCause cause (lasting s)

/-- Causes that lead to the safe state (R478). -/
def safeCause (c : Nat) : Bool := [1, 2, 3, 4, 5, 6, 7, 8, 9, 11, 12].contains c

/-- A cause is cleared; the safe state ends when none is latched, with Brake back in LISTEN (R478, R481). DEDUCED: log entry 89. -/
def clearCause (cause : Nat) (s : State) : State :=
  let l := clrBit s.saf.latched cause
  let saf := { s.saf with latched := l, seen := tset 0 s.saf.seen cause 0, cleared := setBit s.saf.cleared cause }
  let s1 := { s with saf := saf, svc := { s.svc with healthAt := s.elapsed } }
  if s.saf.safe ∧ (List.range 16).all (fun k => !(l.getLsbD k && safeCause k)) then
    let s2 := if s.pwr.wakeFault then s1 else emit (.pin "SAFE_nFAULT" 1) s1
    campSettleAll <| raise 122 s1.saf.cleared.toNat 0 { s2 with
      saf := { s2.saf with safe := false, pinLow := s.pwr.wakeFault, first := 0, dropDue := none, cleared := 0 }
      brk := { s2.brk with role := .listen, lineFault := false, seen := 0 } }
  else s1

/-- A line fault (R433): groups released at the sample, the claim zero, the safe state entered. On proof-wake it is a failing result (R444). -/
def lineFault (cause slot : Nat) (s : State) : State :=
  let byte := claimByte s
  let s1 := dropClaim 0 2 s
  let s2 := raise 90 cause slot (bump 0xB0010 1
    (leaveRestoring s.brk.role { s1 with brk := { proofFault s.brk.role 4 s1.brk with
      lineFault := true, role := .fault, seen := 0, current := false } }))
  let s3 := enterSafe 4 s2
  if s.saf.safe then s3
  else raise 121 4 byte { s3 with saf := { s3.saf with dropDue := none } }

/-- All four control cores are frozen, by the firewall or after a lost heartbeat (R465, R475). -/
def coresGone (s : State) : Bool := (s.sec.frozen.truncate 4 ||| s.saf.coresFrozen) == 0xF#4

/-- A firewall violation by a master (R465): captured, counted, raised, the master frozen; a fabric master's is a safety
fault, and so is the freeze of the last control core. -/
def violation (m : Nat) (write : Bool) (addr : Nat) (s : State) : State :=
  let s1 := captureViolation m write addr s
  if 6 ≤ m then enterSafe 7 s1
  else if m < 4 ∧ coresGone s1 then enterSafe 8 s1
  else s1

/-- A frozen master is released (R465, R471). -/
def releaseMaster (m means : Nat) (s : State) : State :=
  raise 97 m means { s with sec := { s.sec with frozen := clrBit s.sec.frozen m } }

end Sys2Proof.Machine
end

