-- ==== Sys2Proof/Machine/TailSend.lean ====
section
/-! DEFINITION. Sending downlink content: the setpoint channels and their comparator, items built and handed to their routes, bursts and
opportunities (R255–R257, R273–R275). -/

namespace Sys2Proof.Machine

/-! ### The setpoint channels and the comparator (R273, R274) -/

def spSeq (b : List Byte) : Nat := ofLe (slice b 0 4)

/-- A lasting mismatch (R274, R477): the event, and the safe state. -/
def spMismatch (seq : Nat) (s : State) : State := markCause 2 (enterSafe 2 (raise 59 seq 1 s))

/-- A transient mismatch (R274, R477). -/
def spTransient (seq : Nat) (s : State) : State := markCause 2 (transientFault 2 (raise 59 seq 0 (bump 0x80050 1 s)))

/-- The two channels' setpoint frame (R273), taking a DSEQ. -/
def setpointFrame (i : Nat) (body : List Byte) (more : Bool) (s : State) : List Byte × State :=
  let r1_ := takeDseq i s
  let dseq := r1_.1
  let s1 := r1_.2
  (tdfSetpoint (keyOf s i) (devKey s 3) more 0 (euiOf s i) (entry s i).keyGen.toNat dseq body, s1)

/-- The channels run, and on a mismatch once more (R273, R274): nothing on a lasting mismatch. -/
def spChannels (i : Nat) (b : List Byte) (cmp : SpCompare) (s : State) : Option (List Byte) × State :=
  let more := decide (0 < (dueItems s i false).length)
  let r6_ := setpointFrame i b more s
  let f := r6_.1
  let s1 := r6_.2
  match cmp with
  | .equal => (some f, s1)
  | .transient =>
    if recurs 2 s1 then (none, spMismatch (spSeq b) s1)
    else if (dl s1 i).dseqEnd then (none, spTransient (spSeq b) s1)
    else
      let r7_ := setpointFrame i b more s1
      let f2 := r7_.1
      let s2 := r7_.2
      (some f2, spTransient (spSeq b) s2)
  | .lasting =>
    let r8_ := setpointFrame i b more s1
    let s2 := r8_.2
    (none, spMismatch (spSeq b) s2)

/-! ### Items and routes (R255–R257) -/

/-- A frame with its DTTL, which no authenticator covers, set. -/
def withTtl (ttl : Nat) (f : List Byte) : List Byte := f.take 1 ++ leBytes 1 ttl ++ f.drop 2

/-- What the comparator finds at a repeat that a route opportunity brings: the spec bounds it no further than R274 does.
DESIGN CHOICE: log entry 115. -/
def openCompare (s : State) : SpCompare × State :=
  let r_ := drawFree 2 s
  (if r_.1 = 2 then .transient else if r_.1 = 3 then .lasting else .equal, r_.2)

/-- The setpoint of an index has been sent: the frame stored for it is spent. -/
def spSent (n : Nat) (s : State) : State :=
  { s with tai := { s.tai with sps := tmod none s.tai.sps n (Option.map (fun e => { e with frame := none, sentAt := s.elapsed })) } }

/-- Build the unicast frame of an item. A setpoint's first sending carries the frame stored at its release; each repeat goes through
both channels and the comparator, which may release nothing (R274, R275). Every other frame takes its DSEQ here. -/
def buildItem (i : Nat) (w : TdfWhat) (more : Bool) (ttl : Nat) (s : State) : Option (List Byte) × State :=
  match w with
  | .setpoint _ _ =>
    let n := (dl s i).spx
    match tget none s.tai.sps n with
    | none => (none, s)
    | some e =>
      match e.frame with
      | some f => (some (withTtl ttl f), spSent n s)
      | none =>
        let r1_ := openCompare s
        let r2_ := spChannels i e.body r1_.1 r1_.2
        (r2_.1.map (withTtl ttl), if r2_.1.isSome then spSent n r2_.2 else r2_.2)
  | _ =>
    let r3_ := itemContent s w
    let r4_ := takeDseq i s
    (some (tdfUnicast (keyOf s i) r3_.1 more ttl (euiOf s i) r4_.1 r3_.2), r4_.2)

/-- Hand a built item to its route. -/
def routeItem (rt : Route) (i : Nat) (w : TdfWhat) (more : Bool) (b : List Byte) (t0 : Nat) (s : State) : State :=
  let prio := if isSetpoint w then 2 else 5
  let n := (newItem s).1
  let s1 := (newItem s).2
  let f : TxFrame := { prio := prio, bytes := b, item := n, due := t0, idx := some i, camp := whatCamp s w }
  match rt with
  | .uni port =>
    let it : TdfItem := { num := n, what := w, port := port, more := more }
    radioQueue port { f with uni := some i } { s1 with tai := { s1.tai with items := s1.tai.items ++ [it] } }
  | .flood port _ => itemDelivered w (bump 0x80024 1 (radioQueue port f s1))
  | .gw g => itemDelivered w (gwDownlink (dl s i).gwEth g [b] s)
  | _ => s

/-- DTTL of a route's frames (R255). -/
def routeTtl : Route → Nat
  | .flood _ ttl => ttl
  | _ => 0

/-- Build an item of an index and hand it to its route, where the comparator lets it go; whether one went. -/
def sendOn (rt : Route) (i : Nat) (w : TdfWhat) (s : State) : Bool × State :=
  let more := moreAfter s i w
  match buildItem i w more (routeTtl rt) s with
  | (none, t) => (false, t)
  | (some b, t) => (true, routeItem rt i w more b s.elapsed t)

/-- Send the next due item of an index (R255, R257); `sp` tells whether its setpoint counts. Tells whether one went. -/
def sendNext (sp : Bool) (i : Nat) (s : State) : Bool × State :=
  match dueItems s i sp with
  | [] => (false, s)
  | w :: _ =>
    if taiHeld s ∨ noUnicast s i then (false, s)
    else match route s i with
    | .none => (false, bump 0x80038 1 s)
    | .plc => (false, s)
    | .gw g => sendOn (.gw g) i w s
    | rt => if dark s .van then (false, s) else sendOn rt i w s

/-- Send up to `n` due items in turn (R255, gateway route), the setpoint once. -/
def sendUpTo (sp : Bool) (i : Nat) : Nat → State → State
  | 0, s => s
  | n + 1, s => let r8_ := sendNext sp i s; let ok := r8_.1; let t := r8_.2; if ok then sendUpTo false i n t else t

/-- Send the index's next due item as part of a burst whose setpoint has gone or not, and note it (R256). -/
def burstSend (i sent : Nat) (spGone : Bool) (s : State) : State :=
  let sp := match dueItems s i (!spGone) with | w :: _ => isSetpoint w | [] => false
  let n := s.tai.itemNo
  let r9_ := sendNext (!spGone) i s
  let ok := r9_.1
  let t := r9_.2
  let rest := t.tai.bursts.filter (fun b => b.idx != i)
  { t with tai := { t.tai with
    bursts := if ok then rest ++ [{ idx := i, sent := sent + 1, item := n, sp := spGone || sp }] else rest } }

/-- An acknowledgement with Frame Pending set went to the index (R256). -/
def openBurst (i : Nat) (s : State) : State :=
  match route s i with
  | .uni _ => if s.tai.bursts.any (fun b => b.idx == i) then s else burstSend i 0 false s
  | _ => s

/-- The setpoint of an index goes at once by its route (R255, R275); on the unicast route with MORE = 1 it opens a burst. -/
def setpointNow (i : Nat) (s : State) : State :=
  match dueItems s i true, route s i with
  | w :: _, .uni _ =>
    if !isSetpoint w then s
    else if moreAfter s i w ∧ !s.tai.bursts.any (fun b => b.idx == i) then burstSend i 0 false s
    else (sendNext true i s).2
  | w :: _, _ => if isSetpoint w then (sendNext true i s).2 else s
  | [], _ => s

/-- The opportunities a committed frame of the index opens (R255): one item by flooding, up to BURST_MAX by gateway; a
route that is absent is counted. -/
def commitSend (i : Nat) (s : State) : State :=
  match route s i with
  | .flood _ _ => (sendNext true i s).2
  | .gw _ => sendUpTo true i (paramN s .tailrace 0 0) s
  | .none => (sendNext true i s).2
  | _ => s

/-- The item a POLL of the index's slot carries: its TDF and item number (R228, R255). -/
def pollItem (port i : Nat) (s : State) : Option (Nat × List Byte) × State :=
  match dueItems s i true with
  | [] => (none, s)
  | w :: _ =>
    if taiHeld s ∨ noUnicast s i ∨ route s i ≠ .plc then (none, s)
    else
      let more := moreAfter s i w
      match buildItem i w more 0 s with
      | (none, t) => (none, t)
      | (some b, t) =>
        let n := (newItem t).1
        let t1 := (newItem t).2
        let it : TdfItem := { num := n, what := w, port := 8 + port, more := more }
        (some (n, b), bump 0x80028 1 { t1 with tai := { t1.tai with items := t1.tai.items ++ [it] } })

end Sys2Proof.Machine
end

