-- ==== Sys2Proof/Machine/Media.lean ====
section
/-! DEFINITION. The NAND media: channels, pages and their tags, anchors, the allocation list, the journal and the rebuild
(R405–R408, R410, R411, R413, R414, R417, R419). -/

namespace Sys2Proof.Machine

/-! ### Channels (R405, R409) -/

/-- A channel by number: false ARC, true CHK. -/
def chan (s : State) (ch : Bool) : Chan := if ch then s.gra.chk else s.gra.arc
def setChan (ch : Bool) (c : Chan) (s : State) : State :=
  if ch then { s with gra := { s.gra with chk := c } } else { s with gra := { s.gra with arc := c } }

def chanCode : ChSt → Nat
  | .absent => 0 | .unformatted => 1 | .mounting => 2 | .ready => 3 | .readOnly => 4 | .failed => 5 | .gated => 6

def pagesPer (c : Chan) : Nat := max 1 c.geom.pages

/-- Blocks used: those beyond 4 TiB of ARC or 256 GiB of CHK are not (R405). -/
def totalBlocks (ch : Bool) (c : Chan) : Nat :=
  min (c.geom.targets * c.geom.luns * c.geom.blocks) ((if ch then 2 ^ 24 else 2 ^ 28) / pagesPer c)

/-- A physical page number, counted across targets, LUNs, blocks and pages (R406). -/
def ppnOf (g : Geom) (target lun block page : Nat) : Nat := ((target * g.luns + lun) * g.blocks + block) * g.pages + page

/-- The block of a page, within its channel. -/
def blockOf (c : Chan) (ppn : Nat) : Nat := ppn / pagesPer c

/-- Channel counter address (R427). DEDUCED: log entry 83. -/
def graReg (ofs : Nat) (ch : Bool) : Nat := 0xA0000 + ofs + 0x40 * b2n ch

def peMax (c : Chan) : Nat := (c.erase.map (·.2)).foldl max 0
def peAvg (ch : Bool) (c : Chan) : Nat := (c.erase.map (·.2)).sum / max 1 (totalBlocks ch c)

/-- The wear warnings (R419), each once since the format: SPARE reaches a quarter of its value at format, PE_MAX the warning share of the
rating. -/
def wearCheck (ch : Bool) (s : State) : State :=
  let c := chan s ch
  let sp := !c.wearSpare && decide (0 < c.spare0 ∧ c.spare ≤ c.spare0 / 4)
  let pe := !c.wearPe && decide (paramN s .granary 10 0 * c.geom.rated ≤ 1000 * peMax c)
  let s1 := setChan ch { c with wearSpare := c.wearSpare || sp, wearPe := c.wearPe || pe } s
  let s2 := if sp then raise 87 (b2n ch) (peMax c) s1 else s1
  if pe then raise 87 (b2n ch) (peMax c) s2 else s2

/-- The target a block lies on (R406). -/
def targetOf (c : Chan) (b : Nat) : Nat := b / max 1 (c.geom.luns * c.geom.blocks)

/-- An operation on a block's target came to its end: the run of the target's failures to be ready is over (R409). -/
def targetOk (c : Chan) (b : Nat) : Tab Nat := tset 0 c.notReady (targetOf c b) 0

/-- The anchor band without a block, and the place in it: pages go on in the next block of the band (R408, R417). -/
def bandLess (c : Chan) (b : Nat) : List Nat × Nat :=
  match c.band.findIdx? (fun x => x == b) with
  | some i =>
    let p := pagesPer c
    (c.band.filter (fun x => x != b), if (i + 1) * p ≤ c.bandAt then c.bandAt - p else if i * p ≤ c.bandAt then i * p else c.bandAt)
  | none => (c.band, c.bandAt)

/-- A block is no longer the open one. -/
def notOpen (b : Nat) : Option (Nat × Nat) → Option (Nat × Nat)
  | some (o, p) => if o = b then none else some (o, p)
  | none => none

/-- A block joins the retired list and leaves every other (R417, R419). -/
def retire (ch : Bool) (b cause : Nat) (s : State) : State :=
  let c := chan s ch
  if c.retired.contains b then s
  else
    wearCheck ch (raise 81 (b2n ch * 2 ^ 28 + b) cause (setChan ch { c with
      retired := b :: c.retired, free := c.free.filter (fun x => x != b), sysFree := c.sysFree.filter (fun x => x != b)
      band := (bandLess c b).1, bandAt := (bandLess c b).2
      spare := c.spare - 1, rewrite := c.rewrite.filter (fun x => x != b), failing := c.failing.filter (fun x => x.1 != b)
      open_ := notOpen b c.open_, copyOpen := notOpen b c.copyOpen, sysOpen := notOpen b c.sysOpen } s))

/-! ### Pages and tags (R406, R407) -/

/-- KIND of a page; a directory or retired-list page counts as a map page. DESIGN CHOICE: log entry 120. -/
def kindOf : Body → Nat
  | .unit _ | .torn => 0 | .map _ | .dir _ | .retired _ _ => 1 | .journal _ _ _ _ => 2 | .anchor _ => 3 | .data _ => 4

/-- The 32-byte tag of a page (R407). -/
def tagBytes (q : NPage) : List Byte :=
  let b := leBytes 1 (kindOf q.body) ++ leBytes 1 q.tflags ++ zeros 2 ++ leBytes 4 q.lunit ++ leBytes 8 q.wseq ++ leBytes 8 q.dseq ++
    leBytes 4 q.pidx
  b ++ leBytes 4 (crc32 b)

/-- The page decodes and its tag is valid (R406, R407, R410). -/
def pageGood (q : NPage) : Bool := !q.bad && (match q.body with | .torn => false | _ => true)

/-- A valid page. -/
def goodPage (c : Chan) (ppn : Nat) : Option NPage := (tget none c.pages ppn).filter pageGood

/-- The pages of a block, in order, up to the first that is erased or invalid. -/
def readForward (c : Chan) (b : Nat) : List (Nat × NPage) :=
  (((List.range (pagesPer c)).map (fun k => b * pagesPer c + k)).map (fun p => (p, goodPage c p))).takeWhile (fun e => e.2.isSome)
    |>.filterMap (fun e => e.2.map (fun q => (e.1, q)))

/-- A page is programmed with its tag (R407): LUNIT, TFLAGS and PIDX as given; a copy keeps the DSEQ of its source. -/
def putPage (ch : Bool) (ppn : Nat) (body : Body) (lunit tflags pidx : Nat) (dseq : Option Nat) (s : State) : State :=
  let c := chan s ch
  bump (graReg 0x128 ch) 1 (setChan ch { c with
    pages := tset none c.pages ppn
      (some { tflags := tflags, lunit := lunit, wseq := c.wseq, dseq := dseq.getD c.wseq, pidx := pidx, body := body })
    wseq := c.wseq + 1, notReady := targetOk c (blockOf c ppn) } s)

/-- A program that fails leaves its page partly written (R410, R417). -/
def putTorn (ch : Bool) (ppn : Nat) (s : State) : State :=
  let c := chan s ch
  bump (graReg 0x11C ch) 1 (setChan ch { c with pages := tset none c.pages ppn (some { wseq := c.wseq, body := .torn }) } s)

/-- A block is erased: its pages are gone, its count is one more (R415). -/
def eraseBlock (ch : Bool) (b : Nat) (s : State) : State :=
  let c := chan s ch
  wearCheck ch (setChan ch { c with pages := c.pages.filter (fun e => blockOf c e.1 != b), erase := tmod 0 c.erase b (· + 1)
                                    notReady := targetOk c b, rewrite := c.rewrite.filter (fun x => x != b) } s)

/-! ### The allocation list (R413) -/

/-- The next page for units, or for copies: in the open block, or the first of the next block of the allocation list. -/
def nextPage (copy : Bool) (c : Chan) : Option (Nat × Chan) :=
  let set := fun (o : Option (Nat × Nat)) (k : Chan) => if copy then { k with copyOpen := o } else { k with open_ := o }
  let fresh := match c.free with
    | n :: t => some (n * pagesPer c, set (some (n, 1)) { c with free := t, opened := c.opened + 1 })
    | [] => none
  match (if copy then c.copyOpen else c.open_) with
  | some (b, p) => if p < pagesPer c then some (b * pagesPer c + p, set (some (b, p + 1)) c) else fresh
  | none => fresh

/-- The blocks open for units and for copies. -/
def openBlocks (c : Chan) : List Nat := (c.open_.map (·.1)).toList ++ (c.copyOpen.map (·.1)).toList

/-- A journal page's content: the blocks open, the 64 blocks that will be opened next, the retired blocks and its entries (R413). DEDUCED:
log entry 121. -/
def journalBody (c : Chan) (ents : List (Nat × Nat × Nat)) : Body := .journal (openBlocks c) (c.free.take 64) c.retired ents

/-- The next page of the map and journal areas. -/
def sysPage (c : Chan) : Option (Nat × Chan) :=
  let fresh := match c.sysFree, c.free with
    | n :: t, _ => some (n * pagesPer c, { c with sysOpen := some (n, 1), sysFree := t })
    | [], n :: t => some (n * pagesPer c, { c with sysOpen := some (n, 1), free := t, sys := n :: c.sys })
    | [], [] => none
  match c.sysOpen with
  | some (b, p) => if p < pagesPer c then some (b * pagesPer c + p, { c with sysOpen := some (b, p + 1) }) else fresh
  | none => fresh

/-- A page of the map or journal area is programmed; its PPN. -/
def sysPut (body : Body) (lunit : Nat) (s : State) : Nat × State :=
  match sysPage s.gra.arc with
  | none => (0xFFFFFFFF, s)
  | some (ppn, c) => (ppn, putPage false ppn body lunit 0 0 none (setChan false c s))

/-! ### Valid pages and erases (R413, R415, R416) -/

/-- The archive units of a journal or map entry still read there: the page is valid and is that unit's (R407). -/
def unitAt (c : Chan) (lunit : Nat) (e : Nat × Nat) : Option (List Byte) :=
  match goodPage c e.1 with
  | some q => match q.body with
    | .unit bs => if q.lunit = lunit ∧ q.dseq = e.2 then some bs else none
    | _ => none
  | none => none

/-- Valid units of a block: those whose map entry names a page of it that reads as theirs. -/
def validUnits (s : State) (b : Nat) : List (Nat × Nat × Nat) :=
  s.gra.map.filterMap (fun e => match e.2 with
    | some v => if blockOf s.gra.arc v.1 = b ∧ (unitAt s.gra.arc e.1 v).isSome then some (e.1, v) else none
    | none => none)

/-- The pages of a stream, in order: each extent runs to the end of its block (R408). -/
def streamPpns (c : Chan) (extents : List Nat) (len : Nat) : List Nat :=
  (extents.flatMap (fun e => (List.range (pagesPer c - e % pagesPer c)).map (e + ·))).take ((len + 16383) / 16384)

/-- Checkpoint pages that are kept: those of the two newest complete generations, and those the next generation will name (R425, R438). -/
def keptPages (s : State) : List Nat :=
  (s.chk.take 2).flatMap (fun k => streamPpns s.gra.chk k.extents k.len ++ k.dir) ++ ((s.brk.base.map (·.dir)).getD [])

/-- Valid pages of a block of a channel: units on ARC, kept checkpoint pages on CHK. -/
def validIn (ch : Bool) (s : State) (b : Nat) : Nat :=
  if ch then (((keptPages s).filter (fun p => blockOf s.gra.chk p == b)).eraseDups).length else (validUnits s b).length

/-- Programmed pages of a block. -/
def pagesIn (c : Chan) (b : Nat) : Nat := (c.pages.filter (fun e => blockOf c e.1 == b)).length

/-- Blocks with programmed pages of units, or of checkpoint data, that are neither open nor retired (R415). -/
def closedBlocks (ch : Bool) (s : State) : List Nat :=
  let c := chan s ch
  let busy := openBlocks c ++ (match s.brk.run with | some r => (if ch then r.blocks else []) | none => [])
  (((c.pages.filter (fun e => match e.2 with | some q => kindOf q.body == (if ch then 4 else 0) | none => false)).map
    (fun e => blockOf c e.1)).eraseDups).filter (fun b => !c.retired.contains b && !busy.contains b)

/-- A block holds only cold data: no page of it has been superseded. DESIGN CHOICE: log entry 123. -/
def coldBlock (ch : Bool) (s : State) (b : Nat) : Bool := validIn ch s b == pagesIn (chan s ch) b

/-- The cold block of the lowest count that is copied instead of erasing a block worn 100 above the average (R415). -/
def coldInstead (ch : Bool) (s : State) (b : Nat) : Option Nat :=
  let c := chan s ch
  let n := tget 0 c.erase b
  if n < peAvg ch c + 100 then none
  else ((closedBlocks ch s).filter (fun x => coldBlock ch s x && decide (tget 0 c.erase x < n))).foldl (fun best x => match best with
    | none => some x
    | some y => if tget 0 c.erase x < tget 0 c.erase y then some x else some y) none

/-- A block is scheduled for rewrite (R421); `first`: at once, ahead of the others. -/
def schedule (ch first : Bool) (b : Nat) (s : State) : State :=
  let c := chan s ch
  if c.retired.contains b then s
  else if c.rewrite.contains b then
    (if first then setChan ch { c with rewrite := b :: c.rewrite.filter (fun x => x != b) } s else s)
  else bump (graReg 0x114 ch) 1 (setChan ch { c with rewrite := if first then b :: c.rewrite else c.rewrite ++ [b] } s)

/-! ### Map pages, the map cache and the Host Map Region (R411, R412) -/

/-- The entries of a map page: 4,096 units. -/
def mapEnts (s : State) (page : Nat) : List (Nat × Nat) :=
  s.gra.map.filterMap (fun e => if e.1 / 4096 = page then e.2.map (fun v => (e.1, v.1)) else none)

/-- The 16 KiB of a map page: 4 bytes for each unit, all ones where none is mapped. DESIGN CHOICE: log entry 120. -/
def mapBytes (s : State) (page : Nat) : List Byte :=
  (List.range 4096).flatMap (fun k => leBytes 4 (((tget none s.gra.map (page * 4096 + k)).map (·.1)).getD 0xFFFFFFFF))

/-- A dirty map page is written. -/
def writeMap (page : Nat) (s : State) : State :=
  let r := sysPut (.map (mapEnts s page)) page s
  { r.2 with gra := { r.2.gra with dir := tset none r.2.gra.dir page (some r.1), dirtyMap := r.2.gra.dirtyMap.filter (fun x => x != page) } }

/-- A map page is in the map cache, most recently used first; past MAP_CACHE the least recently used clean page leaves it, and a dirty
one is written first (R411). -/
def cachePut (page : Nat) (s : State) : State :=
  let g := s.gra
  let l := page :: g.cache.filter (fun x => x != page)
  if l.length ≤ g.cacheMiB * 64 then { s with gra := { g with cache := l } }
  else match l.reverse.find? (fun x => !g.dirtyMap.contains x) with
    | some x => { s with gra := { g with cache := l.filter (fun y => y != x) } }
    | none => match l.getLast? with
      | some x => writeMap x { s with gra := { g with cache := l.filter (fun y => y != x) } }
      | none => s

/-- Host address of a map page's copy: page p at 16 KiB × p of the region. DESIGN CHOICE: log entry 136. -/
def hmrAddr (s : State) (page : Nat) : Nat := s.gra.hmrBase + 16384 * page

/-- The region can be reached: it is in use, and the function's DMA is neither held nor frozen (R338, R465). -/
def hmrOpen (s : State) : Bool := s.gra.hmrUse && !pcieHeld s

/-- A clean map page is written to the Host Map Region and its CRC-32 kept (R412), unless the firewall refuses the request (R340, R465). -/
def hmrWrite (page : Nat) (s : State) : State :=
  if !hmrOpen s then s
  else if !granted s 4 (hmrAddr s page) 16384 true then captureViolation 4 true (hmrAddr s page) s
  else emit (.hmr (hmrAddr s page) (mapBytes s page) dataAttr) { s with gra := { s.gra with
    hmr := tset none s.gra.hmr page (some (crc32 (mapBytes s page))) } }

/-- The Host Map Region is filled with clean map pages, one for each 16 KiB (R412). -/
def hmrFill (s : State) : State :=
  let g := s.gra
  if !hmrOpen s then s
  else ((g.dir.map (·.1)).filter (fun p => decide (p < g.hmrMiB * 64) && !g.dirtyMap.contains p && (tget none g.hmr p).isNone)).foldl
    (fun t p => hmrWrite p t) s

/-- Look a map page up: map cache, Host Map Region unless its copy fails its CRC or cannot be read, else NAND; the page becomes the most
recently used. `reads` are the CRC-32s of the copies as read; one not listed reads as it was written. -/
def mapLookup (reads : List (Nat × Nat)) (page : Nat) (s : State) : State :=
  let g := s.gra
  if g.cache.contains page then cachePut page s
  else
    let copy := if hmrOpen s then tget none g.hmr page else none
    let barred := copy.isSome && !granted s 4 (hmrAddr s page) 16384 false
    let s0 := if barred then captureViolation 4 false (hmrAddr s page) s else s
    let spoilt := !barred && (match copy with
      | some k => reads.any (fun r => decide (r.1 = page ∧ r.2 ≠ k))
      | none => false)
    let s1 :=
      if copy.isSome ∧ !barred ∧ !spoilt then s0
      else
        let t := if (tget none g.dir page).isSome then bump 0xA0018 1 s0 else s0
        if spoilt then raise 85 1 page (bump 0xA001C 1 t) else t
    hmrFill (cachePut page s1)

/-- An entry of a map page changes: the page is looked up, is dirty in the map cache, and its copy in the Host Map Region is void
(R411, R412). -/
def mapDirty (page : Nat) (s : State) : State :=
  let t := mapLookup [] page s
  { t with gra := { t.gra with dirtyMap := if t.gra.dirtyMap.contains page then t.gra.dirtyMap else t.gra.dirtyMap ++ [page]
                               hmr := tset none t.gra.hmr page none } }

/-! ### Anchors (R408) -/

/-- The 4,420 bytes an anchor page lays out (R408). -/
def anchorBytes (a : Anchor) : List Byte :=
  let b := leBytes 4 0x4752414E ++ leBytes 4 (a.ch + 0x100) ++ leBytes 8 a.aseq ++
    leBytes 4 a.geom.targets ++ leBytes 4 a.geom.luns ++ leBytes 4 a.geom.blocks ++ leBytes 4 a.geom.pages ++
    leBytes 4 a.cap ++ leBytes 4 a.retired ++ leBytes 4 a.retPpn ++ leBytes 4 a.w2c ++ leBytes 4 a.w30 ++ leBytes 8 a.w34 ++
    leBytes 2 a.extents.length ++ zeros 2 ++ (a.extents.take 1024).flatMap (leBytes 4) ++ zeros (4096 - 4 * a.extents.length) ++
    a.commit ++ zeros (256 - a.commit.length)
  b ++ leBytes 4 (crc32 b)

/-- An anchor as its page lays it out, where MAGIC and the content CRC are right (R408); the rated cycles are the device's. -/
def readAnchor (g : Geom) (b : List Byte) : Option Anchor :=
  let w := fun (o n : Nat) => ofLe (slice b o n)
  if w 0 4 = 0x4752414E ∧ w 0x1140 4 = crc32 (b.take 0x1140) then
    some { ch := w 4 1, aseq := w 8 8, geom := { targets := w 0x10 4, luns := w 0x14 4, blocks := w 0x18 4, pages := w 0x1C 4, rated := g.rated }
           cap := w 0x20 4, retired := w 0x24 4, retPpn := w 0x28 4, w2c := w 0x2C 4, w30 := w 0x30 4, w34 := w 0x34 8
           extents := (List.range (min 1024 (w 0x3C 2))).map (fun k => w (0x40 + 4 * k) 4)
           commit := if w 0x3C 2 = 0 then [] else slice b 0x1040 256, exhausted := Config.anchorExhausted b }
  else none

/-- A page the twin programmed, as this device reads it (R407). -/
def rawBody (g : Geom) (q : RawPage) : Body :=
  match q.kind with
  | 1 => .retired (Config.retiredRead q.data).1 (Config.retiredRead q.data).2
  | 3 => match readAnchor g q.data with | some a => .anchor a | none => .torn
  | _ => .data q.data

/-- What the twin changed on the CHK channel (R408, R410). -/
def takeMedia (media : List (Nat × Option RawPage)) (c : Chan) : Chan :=
  { c with pages := media.foldl (fun t e => tset none t e.1 (e.2.map (fun q =>
      { tflags := q.tflags, lunit := q.lunit, wseq := q.wseq, dseq := q.dseq, pidx := q.pidx, body := rawBody c.geom q }))) c.pages }

/-- The block of the anchor band that the next page goes to: the one at the place reached, but where that one would have to be erased and is
worn 100 above the average, the next that is not; with the cold block to be copied instead (R415). DESIGN CHOICE: log entry 123. -/
def bandNext (ch : Bool) (s : State) : Nat × Option Nat :=
  let c := chan s ch
  let p := pagesPer c
  let size := c.band.length * p
  let at_ := c.bandAt % max 1 size
  let worn := fun (a : Nat) => match c.band[a / p]? with
    | some b => if a % p = 0 ∧ 0 < pagesIn c b then coldInstead ch s b else none
    | none => none
  match worn at_ with
  | none => (at_, none)
  | some x => ((((List.range c.band.length).map (fun k => (at_ + k * p) % max 1 size)).find? (fun a => (worn a).isNone)).getD at_, some x)

/-- A page of the anchor band is programmed, in order through the band; a block is erased as it is opened anew. -/
def bandPut (ch : Bool) (body : Body) (s : State) : Nat × State :=
  let n := bandNext ch s
  let s0 := match n.2 with | some x => schedule ch false x s | none => s
  let c := chan s0 ch
  match c.band[n.1 / pagesPer c]? with
  | none => (0xFFFFFFFF, s)
  | some b =>
    let ppn := b * pagesPer c + n.1 % pagesPer c
    let s1 := if n.1 % pagesPer c = 0 ∧ 0 < pagesIn c b then eraseBlock ch b s0 else s0
    (ppn, putPage ch ppn body 0xFFFFFFFF 0 0 none (setChan ch { chan s1 ch with bandAt := n.1 + 1 } s1))

/-- A new anchor is written, the retired list with the erase counts before it. -/
def putAnchor (ch : Bool) (a : Anchor) (s : State) : State :=
  let c0 := chan s ch
  let r := bandPut ch (.retired c0.retired c0.erase) s
  let c := chan r.2 ch
  (bandPut ch (.anchor { a with ch := b2n ch, aseq := c.aseq + 1, geom := c.geom, retired := c.retired.length, retPpn := r.1
                                exhausted := c.exhausted }) (setChan ch { c with aseq := c.aseq + 1 } r.2)).2

/-- The block of the band whose first page has the highest WSEQ (R408). -/
def newestBand (c : Chan) : Option Nat :=
  ((c.band.filterMap (fun b => (goodPage c (b * pagesPer c)).map (fun q => (q.wseq, b)))).foldl (fun best e => match best with
    | none => some e
    | some m => if m.1 < e.1 then some e else some m) (none : Option (Nat × Nat))).map (·.2)

/-- The anchor in force (R408): in the block whose first page has the highest WSEQ, the last anchor before a page that is erased or
invalid; with its WSEQ. -/
def anchorScan (c : Chan) : Option (Nat × Anchor) :=
  (newestBand c).bind (fun b => ((readForward c b).filterMap (fun e => match e.2.body with
    | .anchor a => some (e.2.wseq, a)
    | _ => none)).getLast?)

/-! ### The ARC anchor (R413) -/

/-- A new map directory is written, 4,096 map pages to a page; the PPN of its first page. -/
def writeDir (s : State) : Nat × State :=
  let of := fun (k : Nat) => Body.dir (s.gra.dir.filterMap (fun e => if e.1 / 4096 = k then e.2.map (fun p => (e.1, p)) else none))
  let r0 := sysPut (of 0) 0xFFFFFFFF s
  ((((s.gra.dir.map (fun e => e.1 / 4096)).eraseDups).filter (fun k => k != 0)).foldl
    (fun (t : Nat × State) k => (t.1, (sysPut (of k) 0xFFFFFFFF t.2).2)) r0)

/-- Blocks of the map and journal areas that hold no page in use are erased for use again, but for one worn 100 above the average while a
cold block can be copied instead (R415). -/
def reclaim (dir0 : Nat) (s : State) : State :=
  let c := s.gra.arc
  let w := ((tget none c.pages dir0).map (·.wseq)).getD 0
  let live := fun (e : Nat × Option NPage) => (match e.2 with
    | some q => (decide (w ≤ q.wseq)) || s.gra.dir.any (fun d => d.2 == some e.1)
    | none => false)
  let used := ((c.pages.filter live).map (fun e => blockOf c e.1)).eraseDups
  let gone := c.sys.filter (fun b => !used.contains b && !c.sysFree.contains b && !c.retired.contains b &&
    (match c.sysOpen with | some (o, _) => o != b | none => true))
  gone.foldl (fun t b => match coldInstead false t b with
    | some x => schedule false false x t
    | none =>
      let u := eraseBlock false b t
      { u with gra := { u.gra with arc := { u.gra.arc with sysFree := u.gra.arc.sysFree ++ [b] } } }) s

/-- Every dirty map page, a new map directory and a new anchor are written; a new journal area starts, its first page holding the
allocation list (R413). DEDUCED: log entry 121. -/
def writeArc (s : State) : State :=
  let s1 := s.gra.dirtyMap.foldl (fun t p => writeMap p t) s
  let r := writeDir s1
  let next := ((sysPage r.2.gra.arc).map (·.1)).getD 0xFFFFFFFF
  let s2 := putAnchor false { cap := r.2.gra.cap, w2c := r.1, w30 := next, w34 := r.2.gra.wp } r.2
  let s3 := reclaim r.1 s2
  (sysPut (journalBody s3.gra.arc []) 0xFFFFFFFF
    { s3 with gra := { s3.gra with journalPages := 1, arc := { s3.gra.arc with opened := 0 } } }).2

/-! ### Checkpoint anchors and pages (R408, R437, R440) -/

/-- Pages a checkpoint's stream takes at most, and its tables (R437): Key Vault store, downlink records, tariff store, setpoint and repair
tables, cold records. -/
def streamPages : Nat := 16 + 2048 + 512 + 64 + 33 + 4 + 34
def coldPages (s : State) : Nat := if paramN s .ledger 2 0 = 0 then 0 else 64 * 2 ^ paramN s .ledger 2 0 * 64
def tablePages (s : State) : Nat := 3072 + 1024 + 64 + 256 + 128 + coldPages s

/-- The CHK anchor of a generation (R408). -/
def ckptAnchor (cap : Nat) (k : Option Ckpt) : Anchor :=
  match k with
  | none => { cap := cap }
  | some k => { cap := cap, w2c := k.gen % 2 ^ 32, w30 := k.gen / 2 ^ 32 % 2 ^ 32, w34 := k.len, extents := k.extents, commit := k.commit }

/-- The good blocks of CHK's data band (R420). -/
def dataBand (c : Chan) : List Nat :=
  (List.range (totalBlocks true c)).filter (fun b => !c.band.contains b && !c.retired.contains b)

/-- The bytes of a checkpoint page, where it reads (R406, R407). -/
def dataAt (c : Chan) (ppn : Nat) : Option (List Byte) :=
  match goodPage c ppn with
  | some q => match q.body with
    | .data bs => some bs
    | _ => none
  | none => none

/-- The bytes of pages that all read. -/
def readAll (c : Chan) (ppns : List Nat) : Option (List Byte) := (ppns.mapM (dataAt c)).map (·.flatten)

/-- A stream as it reads: the bytes of its extents, to its length; every page is of the generation (R407, R408). -/
def readStream (c : Chan) (gen : Nat) (extents : List Nat) (len : Nat) : Option (List Byte) :=
  let ps := streamPpns c extents len
  if ps.all (fun p => (tget none c.pages p).any (fun q => q.lunit == gen % 2 ^ 32)) then (readAll c ps).map (·.take len) else none

/-- The table directory of a stream, by the commit record's section 7 (R437, R440). -/
def dirOf (commit stream : List Byte) : List Nat :=
  let o := 0x58 + 12 * 6
  let from_ := ofLe (slice commit (o + 4) 4)
  (List.range (ofLe (slice commit (o + 8) 4) / 4)).map (fun k => ofLe (slice stream (from_ + 4 * k) 4))

/-- A generation verifies (R440, R443): the commit record's TAG is right under this device's pair key, every page of it reads, and DIGEST is
that of the stream and the named table pages as they read. -/
def ckptSound (s : State) (k : Ckpt) : Bool :=
  decide (k.commit.length = 256) && k.commit.drop 240 == Config.cmac (pairKey s) (k.commit.take 240) &&
  (match readStream s.gra.chk k.gen k.extents k.len, readAll s.gra.chk k.dir with
    | some st, some tb => slice k.commit 0x38 32 == Config.sha256 (st ++ tb)
    | _, _ => false)

/-- The generation of an anchor: this device's own, or the twin's as its stream and its table pages read; one whose sections cannot be read
does not verify. DESIGN CHOICE: log entry 137. -/
def anchorGen (s : State) (a : Anchor) : Option Ckpt :=
  if a.extents = [] then none
  else match s.chk.find? (fun k => k.commit == a.commit) with
    | some k => some { k with extents := a.extents }
    | none =>
      let gen := a.w2c + 2 ^ 32 * a.w30
      let st := (readStream s.gra.chk gen a.extents a.w34).getD []
      let dir := dirOf a.commit st
      some (match Config.ckptRead a.commit st ((readAll s.gra.chk dir).getD []) with
        | some k => { k with gen := gen, extents := a.extents, len := a.w34, dir := dir, commit := a.commit }
        | none => { gen := gen, extents := a.extents, len := a.w34 })

/-- The channel becomes READ_ONLY for want of blocks, and an anchor records it (R419, R425). From then on the ring's units are diverted. -/
def divertRing (s : State) : State :=
  { s with gra := { s.gra with ring := s.gra.ring.map (fun u => { u with diverted := true })
                               opens := s.gra.opens.map (fun e => (e.1, e.2.map (fun u => { u with diverted := true }))) } }

def exhaust (ch : Bool) (s : State) : State :=
  let c := chan s ch
  let s1 := setChan ch { c with st := .readOnly, exhausted := true } s
  let s2 := if ch then putAnchor true (ckptAnchor (dataBand c).length s.chk.head?) s1 else divertRing (writeArc s1)
  raise 80 (b2n ch) (chan s2 ch).retired.length s2

/-! ### Journal (R413, R416) -/

/-- Blocks due to be retired are, once no valid page is left in them (R414, R417). -/
def retireDrained (s : State) : State :=
  s.gra.arc.failing.foldl (fun t f => if (validUnits t f.1).isEmpty then retire false f.1 f.2 t else t) s

/-- Write the journal page: entries become persistent, copies commit where their source is still mapped, and a full journal
area is started anew. Where the map and journal areas have no page left, the entries wait. -/
def journalWrite (s : State) : State :=
  if (sysPage s.gra.arc).isNone then s
  else
    let g := s.gra
    let moved := g.gc.filterMap (fun k => match tget none g.map k.lunit with
      | some v => if v.1 = k.src then some (k.lunit, k.dst, v.2) else none
      | none => none)
    let s1 := (sysPut (journalBody g.arc (g.journal ++ moved)) 0xFFFFFFFF s).2
    let s2 := { s1 with gra := { s1.gra with
      map := moved.foldl (fun t m => tset none t m.1 (some m.2)) s1.gra.map
      gc := [], journal := [], journalAt := s.elapsed, journalPages := g.journalPages + 1, arc := { s1.gra.arc with opened := 0 } } }
    let s3 := retireDrained (((moved.map (fun m => m.1 / 4096)).eraseDups).foldl (fun t p => mapDirty p t) s2)
    if 4096 ≤ s3.gra.journalPages then writeArc s3 else s3

/-- The journal page is due by its entries or by the allocation list (R413). -/
def journalCheck (s : State) : State :=
  if s.gra.journal.length + s.gra.gc.length ≥ 1000 ∨ 48 ≤ s.gra.arc.opened then journalWrite s else s

/-! ### Rebuild (R414) -/

/-- Pages in WSEQ order. -/
def byWseq : List (Nat × NPage) → List (Nat × NPage)
  | [] => []
  | q :: t =>
    let rest := byWseq t
    rest.takeWhile (fun r => decide (r.2.wseq < q.2.wseq)) ++ q :: rest.dropWhile (fun r => decide (r.2.wseq < q.2.wseq))

/-- A map entry is taken unless one of later content stands (R414, R416). -/
def takeEntry (strict : Bool) (t : Tab (Option (Nat × Nat))) (lunit ppn dseq : Nat) : Tab (Option (Nat × Nat)) :=
  match tget none t lunit with
  | some v => if v.2 < dseq ∨ (!strict ∧ v.2 = dseq) then tset none t lunit (some (ppn, dseq)) else t
  | none => tset none t lunit (some (ppn, dseq))

/-- The map pages a directory names, as PPNs of units with the DSEQ of their pages; and whether one of them does not read. -/
def loadMap (c : Chan) (dir : Tab (Option Nat)) : Tab (Option (Nat × Nat)) × Bool :=
  dir.foldl (fun t d => match d.2.bind (goodPage c) with
    | some q => match q.body with
      | .map ents => (ents.foldl (fun u e => match goodPage c e.2 with
          | some p => if p.lunit = e.1 then tset none u e.1 (some (e.2, p.dseq)) else u
          | none => u) t.1, t.2)
      | _ => (t.1, true)
    | none => (t.1, true)) ([], false)

/-- The scan of blocks in order, to the first whose page 0 is erased: the pages of KIND 0, and the blocks whose scan stops on a page that is
invalid and not erased. -/
def scanBlocks (c : Chan) : List Nat → List (Nat × NPage) × List Nat
  | [] => ([], [])
  | b :: t =>
    if (tget none c.pages (b * pagesPer c)).isNone then ([], [])
    else
      let got := readForward c b
      let rest := scanBlocks c t
      let stop := got.length < pagesPer c && (tget none c.pages (b * pagesPer c + got.length)).isSome
      (got.filter (fun e => kindOf e.2.body == 0) ++ rest.1, if stop then b :: rest.2 else rest.2)

/-- A scanned archive page (R414). -/
def scanned (t : Tab (Option (Nat × Nat))) (e : Nat × NPage) : Tab (Option (Nat × Nat)) := takeEntry true t e.2.lunit e.1 e.2.dseq

/-- Number of an archive unit (R424). -/
def unitNum (bs : List Byte) : Nat := ofLe (slice bs 8 8)

/-- The write point: one above the highest unit mapped, and at least the anchor's. -/
def wpOf (c : Chan) (a : Anchor) (m : Tab (Option (Nat × Nat))) : Nat :=
  m.foldl (fun n e => match e.2.bind (unitAt c e.1) with
    | some bs => max n (unitNum bs + 1)
    | none => n) a.w34

/-- The retired list and the erase counts a retired-list page holds. -/
def retiredAt (c : Chan) (ppn : Nat) : List Nat × Tab Nat :=
  match goodPage c ppn with
  | some q => match q.body with
    | .retired r e => (r, e)
    | _ => (c.retired, c.erase)
  | none => (c.retired, c.erase)

/-- The rebuild of ARC (R414) from the anchor in force: map directory, journal replay, scan of the blocks open at the last journal page and of
its allocation list; a map or journal page that does not read is made good by the tags of every block that is not retired. DEDUCED: log
entry 121. -/
def rebuildArc (aw : Nat) (a : Anchor) (s : State) : State :=
  let c := s.gra.arc
  let all : List (Nat × NPage) := byWseq (c.pages.filterMap (fun e => e.2.map (fun q => (e.1, q))))
  let w0 : Nat := ((goodPage c a.w2c).map (·.wseq)).getD 0
  let dirs := all.filter (fun e => decide (w0 ≤ e.2.wseq) && decide (e.2.wseq < aw))
  let dir := dirs.foldl (fun t e => match e.2.body with
    | .dir ents => if pageGood e.2 then ents.foldl (fun u d => tset none u d.1 (some d.2)) t else t
    | _ => t) ([] : Tab (Option Nat))
  let base := loadMap c dir
  let jour := all.filter (fun e => decide (aw < e.2.wseq) && kindOf e.2.body == 2)
  let lost := base.2 || jour.any (fun e => !pageGood e.2) || (goodPage c a.w2c).isNone || dirs.any (fun e => !pageGood e.2)
  let played := jour.foldl (fun (t : Tab (Option (Nat × Nat)) × List Nat × List Nat × List Nat) e => match e.2.body with
    | .journal op al gone ents => if pageGood e.2 then (ents.foldl (fun u x => takeEntry false u x.1 x.2.1 x.2.2) t.1, op, al, gone) else t
    | _ => t) (base.1, [], [], (retiredAt c a.retPpn).1)
  let scan := scanBlocks c (played.2.1 ++ played.2.2.1)
  let retired := played.2.2.2
  let m1 := scan.1.foldl scanned played.1
  let m := if lost then (all.filter (fun e => pageGood e.2 && kindOf e.2.body == 0 && !retired.contains (blockOf c e.1))).foldl scanned m1 else m1
  let erase := (retiredAt c a.retPpn).2
  let blank := fun (b : Nat) => !(c.pages.any (fun e => blockOf c e.1 == b))
  let good := (List.range (totalBlocks false c)).filter (fun b => !retired.contains b && !c.band.contains b && !c.sys.contains b && blank b)
  let first := played.2.2.1.filter good.contains
  let dirty := (((jour.flatMap (fun e => match e.2.body with | .journal _ _ _ ents => ents.map (·.1) | _ => [])) ++
    scan.1.map (fun e => e.2.lunit)).map (· / 4096)).eraseDups
  let failing := (scan.2.filter (fun b => !retired.contains b)).map (fun b => (b, 2))
  dirty.foldl (fun t p => cachePut p t) (retireDrained { s with gra := { s.gra with
    cap := a.cap, map := m, dir := dir, wp := wpOf c a m, journal := [], journalPages := jour.length, journalAt := s.elapsed
    dirtyMap := dirty, cache := [], gc := [], gcBlock := none
    arc := { c with retired := retired, erase := erase, exhausted := a.exhausted, aseq := a.aseq, failing := failing, rewrite := []
                    free := first ++ good.filter (fun b => !first.contains b), sysFree := (c.sys.filter (fun b => blank b && !retired.contains b))
                    sysOpen := none, open_ := none, copyOpen := none, opened := 0, spare := c.spare0 - (retired.length - c.retired0) } } })

end Sys2Proof.Machine
end

