-- ==== Sys2Proof/Machine/Granary.lean ====
section
/-! DEFINITION. Granary: the archive, garbage collection, the Host Map Region, formats and mounts (R404–R428). -/

namespace Sys2Proof.Machine

/-! ### Garbage collection (R415) -/

/-- The block garbage collection chooses: fewest valid pages, then the lower erase count; a cold block in place of one worn 100 above the
average (R415). -/
def gcVictim (ch : Bool) (s : State) : Option Nat :=
  let c := chan s ch
  let v := ((closedBlocks ch s).filter (fun b => !c.failing.any (fun f => f.1 == b))).foldl (fun best b => match best with
    | none => some b
    | some a =>
      let va := validIn ch s a
      let vb := validIn ch s b
      if vb < va ∨ (vb = va ∧ tget 0 c.erase b < tget 0 c.erase a) then some b else some a) none
  v.map (fun b => (coldInstead ch s b).getD b)

/-- Garbage collection can produce a block: some closed block holds a page that is not valid. -/
def gcAble (s : State) : Bool := (closedBlocks false s).any (fun b => !coldBlock false s b)

/-! ### Archive units (R418, R419, R422–R424) -/

/-- A unit's 16,384 bytes (R424), CRC last computed over the rest. -/
def unitBytes (u : OpenUnit) (num : Nat) : List Byte :=
  let body := u.items.flatten
  let head := leBytes 2 0xA7C5 ++ [0x01] ++ leBytes 1 u.stream ++ leBytes 2 u.items.length ++ leBytes 2 body.length
    ++ leBytes 8 num ++ leBytes 4 u.firstS ++ leBytes 4 u.lastS ++ leBytes 4 u.lost
    ++ leBytes 1 (b2n u.diverted + 2 * b2n u.short) ++ zeros 3 ++ leBytes 4 Config.deviceId ++ leBytes 4 u.firstSeq ++ zeros 20
  let rest := body ++ zeros (16320 - body.length)
  head ++ leBytes 4 (crc32 (head ++ zeros 4 ++ rest)) ++ rest

/-- The map names a new page for a unit: journalled, its map page dirty, a copy of it in the Host Map Region void (R411–R413). -/
def mapChange (lu ppn dseq : Nat) (s : State) : State :=
  let t := mapDirty (lu / 4096) s
  { t with gra := { t.gra with map := tset none t.gra.map lu (some (ppn, dseq)), journal := t.gra.journal ++ [(lu, ppn, dseq)] } }

/-- Program the oldest closed unit of the ring (R417, R422). While fewer than FREE_MIN blocks are free it waits (R415); with
none beyond them, SPARE at zero and nothing to collect, the channel is exhausted (R419). -/
def programUnit (s : State) : State :=
  let c := s.gra.arc
  match s.gra.ring with
  | [] => s
  | u :: rest =>
    if c.st ≠ .ready ∨ s.gra.cap = 0 then s
    else match (nextPage false c).filter (fun x => decide (paramN s .granary 8 0 ≤ x.2.free.length)) with
    | none => if c.spare = 0 ∧ !gcAble s then exhaust false s else s
    | some (ppn, c1) =>
      let n := s.gra.wp
      let s1 := putPage false ppn (.unit (unitBytes u n)) (n % s.gra.cap) 0 0 none { s with gra := { s.gra with
        ring := rest, wp := n + 1, arc := c1 } }
      journalCheck (mapChange (n % s.gra.cap) ppn c.wseq s1)

/-- A unit's program fails (R417): the page stays partly written, the block is copied out and then retired, and the unit waits for the next
block. -/
def unitFails (s : State) : State :=
  let c := s.gra.arc
  match s.gra.ring, nextPage false c with
  | _ :: _, some (ppn, c1) =>
    let b := blockOf c ppn
    retireDrained (putTorn false ppn (setChan false { c1 with open_ := none, failing := c1.failing ++ [(b, 0)] } s))
  | _, _ => s

/-- Program every unit the ring holds, as far as the channel takes them. -/
def programAll : Nat → State → State
  | 0, s => s
  | n + 1, s => programAll n (programUnit s)

/-- Close the open units a predicate picks, as SHORT. -/
def closeShort (p : OpenUnit → Bool) (s : State) : State :=
  let due := s.gra.opens.filterMap (fun e => match e.2 with | some u => if p u then some e.1 else none | none => none)
  due.foldl (fun t k => let r1_ := closeUnit k true t; let t1 := r1_.1; let ev := r1_.2; raiseAll ev t1) s

/-- The flush of R418. -/
def graFlush (s : State) : State :=
  let s1 := closeShort (fun _ => true) s
  let s2 := programAll s1.gra.ring.length s1
  if s2.gra.arc.st = .ready then journalWrite s2 else s2

/-! ### The Host Map Region (R412) -/

def hmrSetCmd (size base : Nat) (s : State) : CmdRes :=
  if size ≠ 0 ∧ (s.gra.hmrUse ∨ s.gra.hmrEnded) then refuse .refusedState s
  else if 1024 < size ∨ base % 4096 ≠ 0 then refuse .badParam s
  else .ok (hmrFill { s with gra := { s.gra with hmrBase := base, hmrMiB := size, hmrUse := size != 0, hmrEnded := false, hmr := [] } }) 0 []

def hmrError (page : Nat) (s : State) : State :=
  if !s.gra.hmrUse then s
  else
    let t := if (tget none s.gra.dir page).isSome then bump 0xA0018 1 s else s
    raise 85 0 page { t with gra := { s.gra with hmrUse := false, hmrEnded := true } }

/-! ### Commands (R381, R422) -/

def archiveReadCmd (c : Ctx) (ofs : Nat) (reads : List (Nat × Nat)) (s : State) : CmdRes :=
  let st := s.gra.arc.st
  if st = .absent ∨ st = .unformatted ∨ st = .failed ∨ st = .gated then refuse .refusedState s
  else if st = .mounting then refuse (if ofs % 16384 = 0 then .busy else .badParam) s
  else if ofs < (s.gra.wp - s.gra.cap) * 16384 then refuse .notFound s
  else if ofs % 16384 ≠ 0 ∨ s.gra.wp * 16384 ≤ ofs then refuse .badParam s
  else
    let u0 := ofs / 16384
    let n := min (c.xlen / 16384) (s.gra.wp - u0)
    let us := (List.range n).map (fun k => (u0 + k) % max 1 s.gra.cap)
    let s1 := us.foldl (fun t lu => mapLookup reads (lu / 4096) t) s
    let got := us.map (fun lu => (tget none s.gra.map lu).bind (unitAt s.gra.arc lu))
    let data := (got.map (fun u => u.getD (zeros 16384))).flatten
    if got.all (·.isSome) then .ok s1 n data else .done .poisoned s1 n data

/-- Highest and mean erase count of a channel (R427): zero until a mount or a format has loaded the counts. -/
def peMaxOf (c : Chan) : Nat := if c.mounted then peMax c else 0
def peAvgOf (ch : Bool) (c : Chan) : Nat := if c.mounted then peAvg ch c else 0

/-- A channel's status block (R381): its 64 bytes of the register block (R427), counters left as they stand. DEDUCED: log entry 83. -/
def statusBlock (ch : Bool) (s : State) : List Byte :=
  let c := chan s ch
  ([c.spare, c.retired.length, peMaxOf c, peAvgOf ch c] ++
    [0x110, 0x114, 0x118, 0x11C, 0x120, 0x124, 0x128].map (fun o => cnt (graReg o ch) s)).flatMap (leBytes 4) ++ zeros 20

def mediaStatusCmd (ch : Nat) (s : State) : CmdRes :=
  if 1 < ch then refuse .badParam s
  else .ok s (chanCode (chan s (ch == 1)).st) (statusBlock (ch == 1) s)

/-- DESIGN CHOICE: log entry 82. -/
def formatCmd (c : Ctx) (ch confirm : Nat) (s : State) : CmdRes :=
  let k := chan s (ch == 1)
  if 1 < ch then refuse .badParam s
  else if ch = 1 ∧ !grp s 3 then refuse .refusedState s
  else if k.st = .absent ∨ k.st = .gated then refuse .refusedState s
  else if confirm ≠ 0x464D5424 then refuse .badParam s
  else if k.st = .mounting then refuse .busy s
  else
    let s1 := if ch = 1 then abandonCkpt 2 .refusedState s else divertRing s
    .later (setChan (ch == 1) { chan s1 (ch == 1) with st := .mounting, format := some (jobOf c s) } s1)

/-- The state condition of the group's table (R426): ARC_RING only while the ring is empty. -/
def granaryRefusal (ents : List CfgEntry) (s : State) : Option Status :=
  if sets ents 4 ∧ ringDepth s ≠ 0 then some .refusedState else none

/-! ### Mount and format (R409, R414, R420) -/

/-- The blocks one checkpoint takes at most (R420). -/
def ckptBlocks (s : State) : Nat := (streamPages + tablePages s + pagesPer s.gra.chk - 1) / pagesPer s.gra.chk

/-- Blocks for the map and journal areas of a channel of so many data blocks: two journal areas of 4,096 pages, and every map page with its
directory twice (R413). -/
def sysBlocks (c : Chan) (blocks : Nat) : Nat :=
  let p := pagesPer c
  let maps := (blocks * p + 4095) / 4096
  2 * ((4096 + p - 1) / p) + 2 * ((maps + (maps + 4095) / 4096 + p - 1) / p)

/-- What a format leaves (R420): everything erased but the retired blocks, the retired list and erase counts kept, a new anchor, the wear
conditions judged (R419). DESIGN CHOICE: log entry 82. -/
def formatEnd (ch : Bool) (found : List Nat) (s : State) : State :=
  let c0 := chan s ch
  let gone := if c0.formats = 0 then found.filter (fun b => !c0.retired.contains b) ++ c0.retired else c0.retired
  let good := (List.range (totalBlocks ch c0)).filter (fun b => !gone.contains b)
  let c : Chan := { c0 with
    pages := c0.pages.filter (fun e => gone.contains (blockOf c0 e.1)), band := good.take 64, bandAt := 0, sys := [], sysFree := [], sysOpen := none, exhausted := false, retired := gone
    retired0 := gone.length, failing := [], erase := good.foldl (fun t b => tmod 0 t b (· + 1)) c0.erase, open_ := none, copyOpen := none
    opened := 0, rewrite := [], wearSpare := false, wearPe := false, notReady := [], mounted := true, formats := c0.formats + 1, patrol := 0
    dataAt := 0, copyFrom := none }
  let data := good.drop 64
  if ch then
    let failed := data.length < 4 * ckptBlocks s
    let s1 := { s with chk := [], brk := { s.brk with base := none }, gra := { s.gra with chk := { c with
      st := if failed then .failed else .ready, free := data
      spare := data.length - 4 * ckptBlocks s, spare0 := data.length - 4 * ckptBlocks s } } }
    wearCheck true (putAnchor true (ckptAnchor data.length none) s1)
  else
    let r2_ := drawFree 12 s
    let areas := sysBlocks c data.length + r2_.1
    let s2 := r2_.2
    let usable := data.length - paramN s2 .granary 8 0 - areas
    let keep := usable - (usable * paramN s2 .granary 9 0 + 999) / 1000
    let cap := min (keep * pagesPer c) (2 ^ 28)
    let failed := cap < 65536
    wearCheck false <| writeArc { s2 with gra := { s2.gra with
      cap := cap, wp := 0, map := [], dir := [], journal := [], journalPages := 0, journalAt := s2.elapsed, cache := [], dirtyMap := [], gc := []
      gcBlock := none, hmr := []
      arc := { c with st := if failed then .failed else .ready, free := data.drop areas, sys := data.take areas, sysFree := data.take areas
                      spare := usable - keep, spare0 := usable - keep } } }

/-- A page left partly programmed by the stop, at the first erased page of its block (R410). -/
def tornAt (ch : Bool) (b : Nat) (s : State) : State :=
  let c := chan s ch
  let p := b * pagesPer c + pagesIn c b
  if pagesIn c b < pagesPer c ∧ (tget none c.pages p).isNone then
    setChan ch { c with pages := tset none c.pages p (some { body := .torn }) } s
  else s

/-- The band of a channel this device never formatted: the first 64 blocks that are not known to be bad. DESIGN CHOICE: log entry 137. -/
def bandGuess (c : Chan) : List Nat :=
  if c.band = [] then ((List.range (totalBlocks true c)).filter (fun b =>
    !c.retired.contains b && (match tget none c.pages (b * pagesPer c) with | some q => pageGood q | none => true))).take 64
  else c.band

/-- The anchors of a channel, newest first, from the one in force on. -/
def anchorsFrom (w : Nat) (c : Chan) : List Anchor :=
  ((byWseq (c.pages.filterMap (fun (e : Nat × Option NPage) => (e.2.filter (fun q => pageGood q && decide (q.wseq ≤ w))).map
    (fun q => (e.1, q))))).filterMap
    (fun (e : Nat × NPage) => match e.2.body with | .anchor a => some a | _ => none)).reverse

/-- The two newest complete generations that the anchors of CHK name (R425, R443). -/
def mediaGens (w : Nat) (s : State) : List Ckpt :=
  (((anchorsFrom w s.gra.chk).filterMap (anchorGen s)).foldl (fun l k => if l.any (fun x => x.gen == k.gen) then l else l ++ [k]) []).take 2

/-- The highest generation in a tag or an anchor of CHK (R439). -/
def topGen (c : Chan) (gens : List Ckpt) : Nat :=
  let g0 := (gens.map (·.gen)).foldl max 0
  (c.pages.filterMap (fun (e : Nat × Option NPage) => (e.2.filter (fun q => kindOf q.body == 4)).map (fun q => g0 / 2 ^ 32 * 2 ^ 32 + q.lunit))).foldl
    max g0

/-- A mounted CHK channel (R408): its retired list and erase counts, the generations its anchors name, the place reached in the band, in the
program sequence and in the data band, the blocks that are erased. -/
def mountChk (w : Nat) (a : Anchor) (s : State) : State :=
  let c := s.gra.chk
  let p := pagesPer c
  let r := retiredAt c a.retPpn
  let gens := mediaGens w s
  let at_ := match newestBand c with
    | some b => (c.band.findIdx (fun x => x == b)) * p + pagesIn c b
    | none => c.bandAt
  let c1 := { c with
    retired := r.1, erase := r.2, exhausted := a.exhausted, aseq := a.aseq, failing := [], rewrite := [], copyOpen := none, copyFrom := none
    spare := c.spare0 - (r.1.length - c.retired0), bandAt := at_
    wseq := (c.pages.filterMap (fun (e : Nat × Option NPage) => e.2.map (fun (q : NPage) => q.wseq + 1))).foldl max c.wseq
    dataAt := (gens.head?.bind (fun k => k.extents.getLast?)).elim c.dataAt (blockOf c) }
  { s with chk := gens, cut := none, brk := { s.brk with lastGen := max s.brk.lastGen (topGen c gens) }
           gra := { s.gra with chk := { c1 with free := (dataBand c1).filter (fun b => pagesIn c1 b == 0) } } }

/-- Mount, rebuild or format ends (R409, R414, R420). `found`: for a first format the factory-marked blocks; for a mount, the blocks in which
the stop left a page partly programmed. `media`: what the twin changed on CHK. -/
def mountEnd (ch : Bool) (ms : Nat) (found : List Nat) (media : List (Nat × Option RawPage)) (s : State) : State :=
  let c0 := chan s ch
  if c0.st ≠ .mounting then s
  else match c0.format with
    | some w =>
      let s0 := if ch then s else { s with gra := { s.gra with cacheMiB := paramN s .granary 5 0 } }
      let s1 := formatEnd ch found s0
      let s2 := raise 84 (b2n ch) ms (setChan ch { chan s1 ch with format := none } { s1 with gra := { s1.gra with rebuildMs := ms } })
      let s3 := replyLater w .ok 0 s2
      if ch then s3 else programAll s3.gra.ring.length s3
    | none =>
      let s0 := if ch then setChan true { takeMedia media c0 with band := bandGuess (takeMedia media c0) } s
        else { s with gra := { s.gra with cacheMiB := paramN s .granary 5 0 } }
      match anchorScan (chan s0 ch) with
      | none => setChan ch { chan s0 ch with st := .unformatted } (if ch then { s0 with chk := [], cut := none } else s0)
      | some (w, a) =>
        let s1 := found.foldl (fun t b => tornAt ch b t) s0
        let s2 := if ch then mountChk w a s1 else rebuildArc w a s1
        raise 84 (b2n ch) ms (setChan ch { chan s2 ch with st := if a.exhausted then .readOnly else .ready, notReady := [], mounted := true }
          { s2 with gra := { s2.gra with rebuildMs := ms } })

/-- The NAND domain starts, by a device reset or a wake (R409). -/
def nandStart (s : State) : State :=
  let go := fun (c : Chan) (claim : Bool) => { c with
    st := if c.geom.targets = 0 then .absent else if claim then ChSt.mounting else .gated, format := none, notReady := [], mounted := false }
  divertRing { s with gra := { s.gra with arc := go s.gra.arc true, chk := go s.gra.chk (grp s 3) } }

/-! ### Program, erase and read completions (R416, R417, R421) -/

/-- The block of ARC whose valid pages are copied next: one due to be retired, the one under way, one scheduled for rewrite, or garbage
collection's choice below 2 × FREE_MIN; and whether the copies are rewrite copies. -/
def copySource (s : State) : Option (Nat × Bool) :=
  let c := s.gra.arc
  match c.failing, s.gra.gcBlock, c.rewrite with
  | f :: _, _, _ => some (f.1, true)
  | [], some b, _ => some (b, c.rewrite.contains b)
  | [], none, b :: _ => some (b, true)
  | [], none, [] => if c.free.length < 2 * paramN s .granary 8 0 then (gcVictim false s).map (fun b => (b, false)) else none

/-- The anchors that are kept are written again, in order, in the next block of the band (R408, R421). -/
def putKept (ch : Bool) (s : State) : State :=
  if ch then
    (match s.chk with
      | [] => putAnchor true (ckptAnchor (dataBand s.gra.chk).length none) s
      | _ => s.chk.reverse.foldl (fun t k => putAnchor true (ckptAnchor (dataBand t.gra.chk).length (some k)) t) s)
  else match anchorScan s.gra.arc with
    | some (_, a) => putAnchor false a s
    | none => s

/-- A block of the anchor band is rewritten: the anchors go on in the next block, and it is erased (R421). -/
def moveBand (ch : Bool) (b : Nat) (s : State) : State :=
  let c := chan s ch
  let p := pagesPer c
  let i := c.band.findIdx (fun x => x == b)
  let c1 := if i * p ≤ c.bandAt ∧ c.bandAt < (i + 1) * p then { c with bandAt := (i + 1) * p } else c
  eraseBlock ch b (if c.pages.any (fun e => blockOf c e.1 == b && (match e.2 with | some q => pageGood q | none => false))
    then putKept ch (setChan ch c1 s) else setChan ch c1 s)

/-- A map page's copy: TFLAGS set, DSEQ kept (R416). -/
def moveMap (page : Nat) (s : State) : State :=
  match (tget none s.gra.dir page).bind (goodPage s.gra.arc), sysPage s.gra.arc with
  | some q, some (ppn, c) =>
    let t := bump (graReg 0x124 false) 1 (putPage false ppn q.body q.lunit 2 0 (some q.dseq) (setChan false c s))
    { t with gra := { t.gra with dir := tset none t.gra.dir page (some ppn) } }
  | _, _ => s

/-- A block of the map or journal areas is rewritten: its map pages are copied, a new directory and a new journal area begin elsewhere, and it
is erased with what no longer holds a page in use (R413, R421). -/
def moveSys (b : Nat) (s : State) : State :=
  let c := { s.gra.arc with sysOpen := notOpen b s.gra.arc.sysOpen, sysFree := s.gra.arc.sysFree.filter (fun x => x != b) }
  let pages := s.gra.dir.filterMap (fun d => match d.2 with
    | some p => if blockOf c p = b ∧ !s.gra.dirtyMap.contains d.1 then some d.1 else none
    | none => none)
  writeArc (pages.foldl (fun t p => moveMap p t) (setChan false c s))

/-- Copy the first valid page of the source that is not copied yet (R416); where the program fails, the target is retired, its copies are
abandoned and the copy starts again (R417). -/
def copyPage (ok : Bool) (s : State) : State :=
  let c := s.gra.arc
  match copySource s with
  | none => s
  | some (b, rw) =>
    if c.band.contains b then moveBand false b s
    else if c.sys.contains b then moveSys b s
    else match (validUnits s b).filter (fun e => !s.gra.gc.any (fun k => k.lunit == e.1)), nextPage true c with
    | e :: _, some (ppn, c1) =>
      let blk := blockOf c ppn
      if ok then
        match unitAt c e.1 e.2 with
        | some bs => journalCheck (bump (graReg 0x124 false) 1
            (putPage false ppn (.unit bs) e.1 (if rw then 2 else 1) 0 (some e.2.2) { s with gra := { s.gra with
              gcBlock := some b, gc := s.gra.gc ++ [{ lunit := e.1, src := e.2.1, dst := ppn }], arc := c1 } }))
        | none => s
      else
        retire false blk 0 (putTorn false ppn { s with gra := { s.gra with
          gcBlock := some b, gc := s.gra.gc.filter (fun k => blockOf c k.dst != blk), arc := c1 } })
    | _, _ => s

/-- A page of the anchor, map or journal area fails to program: it is written again in the next block of its area, and the failed block is
retired (R417). -/
def systemFails (ch : Bool) (block : Nat) (s : State) : State :=
  let c := chan s ch
  let last := (c.pages.filter (fun e => blockOf c e.1 == block)).foldl (fun best e => match best, e.2 with
    | none, some q => if kindOf q.body = 0 ∨ kindOf q.body = 4 then none else some (e.1, q)
    | some b, some q => if kindOf q.body = 0 ∨ kindOf q.body = 4 ∨ q.wseq < b.2.wseq then some b else some (e.1, q)
    | b, none => b) (none : Option (Nat × NPage))
  match last with
  | none => s
  | some (ppn, q) =>
    let inBand := c.band.contains block
    let s2 := retire ch block 0 (putTorn ch ppn s)
    if inBand then (bandPut ch q.body s2).2
    else
      let r := sysPut q.body q.lunit s2
      match q.body with
      | .map _ => { r.2 with gra := { r.2.gra with dir := tset none r.2.gra.dir q.lunit (some r.1) } }
      | _ => r.2

/-! ### Blocks of the CHK data band (R415, R425) -/

/-- Blocks the two newest complete generations, the next one, a running checkpoint and a copy hold (R425, R438). -/
def heldBlocks (s : State) : List Nat :=
  (keptPages s).map (blockOf s.gra.chk) ++ (match s.brk.run with | some r => r.blocks | none => []) ++ openBlocks s.gra.chk

/-- Data-band blocks that may be used, round robin from the block after the last one used (R425). -/
def freeData (s : State) : List Nat :=
  let c := s.gra.chk
  let ok := (dataBand c).filter (fun b => !(heldBlocks s).contains b)
  ok.filter (fun b => decide (c.dataAt < b)) ++ ok.filter (fun b => decide (b ≤ c.dataAt))

/-- A data-band block is made ready: erased, unless it is. -/
def cleanData (b : Nat) (s : State) : State :=
  let c := s.gra.chk
  if c.free.contains b then s
  else
    let t := eraseBlock true b s
    setChan true { t.gra.chk with free := t.gra.chk.free ++ [b] } t

/-- Erase blocks that hold nothing kept, in the order they will be used, until FREE_MIN erased ones stand ready (R415); one worn 100 above the
average waits while a cold block can be copied instead. -/
def readyData : List Nat → State → State
  | [], s => s
  | b :: l, s =>
    if paramN s .granary 8 0 ≤ s.gra.chk.free.length then s
    else match coldInstead true s b with
    | some x => readyData l (if s.gra.chk.free.contains b then s else schedule true false x s)
    | none => readyData l (cleanData b s)

/-- The next data-band block is taken, erased (R425): round robin, but for one worn 100 above the average while a cold block can be copied
instead (R415). -/
def takeData (s : State) : Option (Nat × State) :=
  let l := freeData s
  let fit := fun (b : Nat) => s.gra.chk.free.contains b || (coldInstead true s b).isNone
  match (l.find? fit).orElse (fun _ => l.head?) with
  | none => none
  | some b =>
    let t := cleanData b s
    let c := t.gra.chk
    some (b, setChan true { c with free := c.free.filter (fun x => x != b), dataAt := b } t)

/-! ### Copies on the CHK channel (R415, R416, R421) -/

/-- Pages of a block that a copy moves, in order: those of a kept generation's stream, and those the next directory will name. -/
def movable (s : State) (b : Nat) : List Nat :=
  let c := s.gra.chk
  ((List.range (pagesPer c)).map (b * pagesPer c + ·)).filter (fun p =>
    (s.chk.take 2).any (fun k => (streamPpns c k.extents k.len).contains p) || ((s.brk.base.map (·.dir)).getD []).contains p)

/-- The block of CHK whose pages are copied next, and whether the copies are rewrite copies: the one under way, one scheduled for rewrite, or
garbage collection's choice below 2 × FREE_MIN when none can be erased as it is. -/
def chkSource (s : State) : Option (Nat × Bool) :=
  let c := s.gra.chk
  match c.copyFrom, c.rewrite.find? (fun b => c.band.contains b || !(movable s b).isEmpty) with
  | some (b, _), _ => some (b, c.rewrite.contains b)
  | none, some b => some (b, true)
  | none, none =>
    if c.free.length < 2 * paramN s .granary 8 0 ∧ (freeData s).all c.free.contains then
      ((gcVictim true s).filter (fun b => !(movable s b).isEmpty)).map (fun b => (b, false))
    else none

/-- A whole block has been copied, page for page: extents and the next directory name the copies, and the anchors of the kept generations are
written again (R408, R416). A directory on the media keeps naming the source, which is erased once no kept generation does (R438).
DEDUCED: log entry 138. -/
def chkMoved (b n : Nat) (s : State) : State :=
  let p := pagesPer s.gra.chk
  let moved := fun (x : Nat) => if x / p = b then n * p + x % p else x
  let had := (s.chk.take 2).any (fun k => k.extents.any (fun x => x / p == b))
  let t := { s with chk := s.chk.map (fun k => { k with extents := k.extents.map moved })
                    brk := { s.brk with base := s.brk.base.map (fun t => { t with dir := t.dir.map moved })
                                        run := s.brk.run.map (fun r => { r with tables := { r.tables with dir := r.tables.dir.map moved } }) } }
  let u := setChan true { t.gra.chk with copyOpen := none, copyFrom := none } t
  if had then putKept true u else u

/-- Copy the next page of the source to its place in the target (R416); where the program fails, the target is retired and the copy starts
again (R417). -/
def chkCopy (ok : Bool) (s : State) : State :=
  match chkSource s with
  | none => s
  | some (b, rw) =>
    if s.gra.chk.band.contains b then moveBand true b s
    else
      let from_ := match s.gra.chk.copyFrom with | some (_, k) => k | none => 0
      let opened := match s.gra.chk.copyFrom, s.gra.chk.copyOpen with
        | some _, some (n, _) => some (n, s)
        | _, _ => takeData s
      match opened, (movable s b).filter (fun x => decide (b * pagesPer s.gra.chk + from_ ≤ x)) with
      | some (n, s1), x :: rest =>
        let c := s1.gra.chk
        let o := x % pagesPer c
        let dst := n * pagesPer c + o
        if ok then
          match goodPage c x with
          | some q =>
            let t := bump (graReg 0x124 true) 1 (putPage true dst q.body q.lunit (if rw then 2 else 1) q.pidx (some q.dseq)
              (setChan true { c with copyOpen := some (n, o + 1), copyFrom := some (b, o + 1) } s1))
            if rest.isEmpty then chkMoved b n t else t
          | none => setChan true { c with copyOpen := some (n, o + 1), copyFrom := some (b, o + 1) } s1
        else retire true n 0 (putTorn true dst (setChan true { c with copyOpen := none, copyFrom := none } s1))
      | some (n, s1), [] => chkMoved b n s1
      | none, _ => s

/-- A block may be erased (R415, R416, R425): it is no block in use, none of its pages is valid, copied and not committed, or of a generation
that is kept, and no cold block goes first. -/
def mayErase (ch : Bool) (b : Nat) (s : State) : Bool :=
  let c := chan s ch
  decide (b < totalBlocks ch c) && !c.retired.contains b && !c.free.contains b && !c.band.contains b && !c.sys.contains b &&
  !(openBlocks c).contains b && !c.failing.any (fun f => f.1 == b) && (coldInstead ch s b).isNone &&
  (if ch then !(heldBlocks s).contains b
   else (validUnits s b).isEmpty && !s.gra.gc.any (fun k => blockOf c k.src == b))

/-- A block that the engine has just erased, or that a FORMAT erases: its erase can be the one that fails (R417, R420). -/
def justErased (ch : Bool) (b : Nat) (s : State) : Bool :=
  let c := chan s ch
  decide (b < totalBlocks ch c) && !c.retired.contains b &&
  (c.format.isSome || (decide (pagesIn c b = 0) && (c.free.contains b || c.sysFree.contains b || c.band.contains b)))

/-- A block erase ends (R416, R417). One that a loss of the claim caught still ends inside the NAND (R410). DEDUCED: log entry 84. -/
def eraseDone (ch : Bool) (block : Nat) (ok : Bool) (s : State) : State :=
  let c := chan s ch
  let s0 := if !ch ∧ s.gra.gcBlock = some block then { s with gra := { s.gra with gcBlock := none } } else s
  if c.st = .gated then (if ok ∧ mayErase ch block s then eraseBlock ch block s else s)
  else if c.st ≠ .ready ∧ c.st ≠ .readOnly ∧ c.format.isNone then s
  else if ok then
    (if c.format.isNone ∧ mayErase ch block s then
      let t := eraseBlock ch block s0
      setChan ch { chan t ch with free := (chan t ch).free ++ [block] } t
    else s)
  else if mayErase ch block s || justErased ch block s then retire ch block 1 (bump (graReg 0x120 ch) 1 s0)
  else s

/-- A page read ends: the largest corrected count of a codeword, 40 at most, or uncorrectable (R406, R421). DEDUCED: log entry 134. -/
def readDone (ch : Bool) (ppn : Nat) (corr : Option Nat) (patrol : Bool) (s : State) : State :=
  let c := chan s ch
  let b := blockOf c ppn
  if c.st ≠ .ready ∧ c.st ≠ .readOnly then s
  else match corr.filter (fun k => decide (k ≤ 40)) with
  | some k =>
    let s1 := { s with rc := tmod 0 s.rc (graReg 0x110 ch) (max k) }
    if paramN s .granary 6 0 ≤ k then schedule ch false b s1 else s1
  | none =>
    let s1 := setChan ch { c with
      pages := (match tget none c.pages ppn with | some q => tset none c.pages ppn (some { q with bad := true }) | none => c.pages) } s
    let s2 := raise 82 (b2n ch) ppn (bump (graReg 0x118 ch) 1 s1)
    if patrol then schedule ch true b s2 else s2

/-- The pages a patrol reads: every programmed page of the channel (R421). -/
def patrolPages (ch : Bool) (s : State) : List Nat := (chan s ch).pages.map (·.1)

/-- The patrol's next page: the lowest beyond the last one; at the end of a cycle the next one waits for PATROL_DAYS to pass (R421). -/
def patrolNext (ch : Bool) (s : State) : State :=
  let c := chan s ch
  let after := (patrolPages ch s).filter (fun p => decide (c.patrol ≤ p))
  match after with
  | p :: t => setChan ch { c with patrol := t.foldl min p + 1 } s
  | [] => if passed s c.patrolAt (paramN s .granary 7 0 * 86400 * tickS) then setChan ch { c with patrol := 0, patrolAt := s.elapsed } s else s

/-- A target was not ready within 50 ms; the third time in a row that it was not, the channel fails (R409). -/
def notReady (ch : Bool) (target : Nat) (s : State) : State :=
  let c := chan s ch
  let n := tget 0 c.notReady target + 1
  if c.st ≠ .ready ∧ c.st ≠ .readOnly then s
  else if n < 3 then setChan ch { c with notReady := tset 0 c.notReady target n } s
  else
    let s1 := raise 86 (b2n ch) 2 (setChan ch { c with st := .failed, notReady := [] } s)
    if ch then abandonCkpt 2 .refusedState s1 else s1

/-! ### Meanings -/

def execGranaryConfig (c : Ctx) (op : Byte) (ents : List CfgEntry) (s : State) : Res :=
  .next (command (.granaryConfig c op ents) true (configure .granary op ents granaryRefusal (fun _ t => t)) s)
def execHmrSet (c : Ctx) (size : U16) (base : U64) (s : State) : Res :=
  .next (command (.hmrSet c size base) true (hmrSetCmd size.toNat base.toNat) s)
def execArchiveRead (c : Ctx) (ofs : U64) (reads : List (Nat × Nat)) (s : State) : Res :=
  .next (command (.archiveRead c ofs reads) (decide (c.xlen % 16384 = 0)) (archiveReadCmd c ofs.toNat reads) s)
def execMediaStatus (c : Ctx) (ch : Byte) (s : State) : Res :=
  .next (command (.mediaStatus c ch) (decide (c.xlen = 64)) (mediaStatusCmd ch.toNat) s)
def execFormat (c : Ctx) (ch : Byte) (confirm : U32) (s : State) : Res :=
  .next (command (.format c ch confirm) true (formatCmd c ch.toNat confirm.toNat) s)
def execNandEraseDone (ch : Bool) (block : Nat) (ok : Bool) (s : State) : Res := .next (if halted s .gra 10 then s else eraseDone ch block ok s)
def execNandReadDone (ch : Bool) (ppn : U32) (corr : Option Nat) (patrol : Bool) (s : State) : Res :=
  .next (if halted s .gra 10 then s else readDone ch ppn.toNat corr patrol s)
def execJournalTimer (s : State) : Res :=
  .next (if !halted s .gra 10 ∧ s.gra.arc.st = .ready ∧ passed s s.gra.journalAt (paramN s .granary 0 0 * tickMs) then journalWrite s else s)
def execArcFlushTimer (s : State) : Res :=
  let s1 := closeShort (fun u => passed s u.since (paramN s .granary 1 0 * tickMs)) s
  .next (if halted s .gra 10 then s else if s1.gra.arc.st = .ready ∧ s1.gra.ring ≠ [] then journalWrite (programAll s1.gra.ring.length s1) else s1)
/-- The patrol reads its next programmed page (R421); the read's end is NAND_READ_DONE. -/
def execPatrolRead (ch : Bool) (s : State) : Res :=
  .next (if !halted s .gra 10 ∧ ((chan s ch).st = .ready ∨ (chan s ch).st = .readOnly) then patrolNext ch s else s)
def execTargetNotReady (ch : Bool) (target : Fin 8) (s : State) : Res := .next (if halted s .gra 10 then s else notReady ch target.val s)
def execMountRebuildComplete (ch : Bool) (ms : Nat) (found : List Nat) (media : List (Nat × Option RawPage)) (s : State) : Res :=
  .next (if halted s .gra 10 then s else mountEnd ch ms found media s)
def execHmrDmaError (page : Nat) (s : State) : Res := .next (hmrError page s)

end Sys2Proof.Machine
end

