-- ==== Sys2Proof/Machine/PowerBase.lean ====
section
/-! DEFINITION. What a reset clears and keeps, and the sleep states' entry (R490–R494, R501, R502). -/

namespace Sys2Proof.Machine

/-- The fields of the security state that OTP holds (R449, R454). -/
def otpSec (c : SecState) : SecState :=
  { lc := c.lc, lcCount := c.lcCount, owners := c.owners, revoked := c.revoked, toggles := c.toggles, ktk := c.ktk, oik := c.oik,
    pairKey := c.pairKey, burnedOut := c.burnedOut, rootBurned := c.rootBurned, subsysVendor := c.subsysVendor,
    subsysId := c.subsysId, svnLoader := c.svnLoader, svnMain := c.svnMain }

/-- What the image store and the AON domain keep of the update state (R508, R519, R521, R525): a transfer under way leaves
STAGING incomplete, or idle when no byte was staged (R515, R524). -/
def keptSvc (c : SvcState) : SvcState :=
  { upd := if c.upd = .receiving then (if c.staging = [] then .idle else .incomplete) else c.upd
    header := c.header, staging := c.staging, running := c.running, fallback := c.fallback, loader0 := c.loader0
    loader1 := c.loader1, loaderUse := c.loaderUse, preferred := c.preferred, tries := c.tries, last := c.last, chunk := c.chunk
    jseq := c.jseq, jnl0 := c.jnl0, jnl1 := c.jnl1, jHalf := c.jHalf, revertReq := c.revertReq, trialLoader := c.trialLoader, hostMoving := c.hostMoving, tilt := c.tilt, usb := c.usb
    readyAt := c.readyAt, cfgA := c.cfgA, cfgB := c.cfgB }

/-- What NAND holds: the pages and the counts of each channel. The map, the ring, the open units, the journal buffer and what was scheduled
are lost (R414, R416, R418). -/
def keptGra (g : GraState) : GraState :=
  let k := fun (c : Chan) => ({ geom := c.geom, pages := c.pages, band := c.band, bandAt := c.bandAt, sys := c.sys, aseq := c.aseq, wseq := c.wseq
                                spare0 := c.spare0, retired0 := c.retired0, wearSpare := c.wearSpare, wearPe := c.wearPe
                                erase := c.erase, formats := c.formats, dataAt := c.dataAt } : Chan)
  { arc := k g.arc, chk := k g.chk }

/-- Counter reserves at a start: each counter resumes at the ceiling that governs in the COUNTERS area, with the start's record still due
(R131). -/
def resumeReserves (area : Tab (List Byte)) : Tab Reserve :=
  [0, 1, 2].foldl (fun t k => tset {} t k { val := storedCeil area k, ceil := storedCeil area k, startDue := true }) []

/-- Burned factory calibration (R295). -/
def otpFlu (at_ : Nat) (f : FluState) : FluState :=
  { grid := { at_ := at_ }
    chans := f.chans.filterMap (fun e => match e.2.otp with | some r => some (e.1, { otp := some r }) | none => none) }

/-- The TB domain starts (R323): the time value is seeded from the AON RTC where that holds valid time. -/
def fanStart (s : State) : FanState :=
  if s.pwr.rtcValid then
    { tbStart := s.elapsed, baseFix := rtcNow s * 1000000000 * 2 ^ 26, rateAt := rtcNow s * 1000000000 * 2 ^ 26, st := .holdover
      sel := 3, rep := 3, initStep := true }
  else { tbStart := s.elapsed }

/-- Everything outside the AON domain, OTP, the image store and the NAND returns to reset (R501). -/
def clearCore (s : State) : State :=
  let t := { State.reset with
    elapsed := s.elapsed, pending := s.pending, out := s.out, free := s.free, chk := s.chk
    pwr := { s.pwr with st := .run, startFrom := s.pwr.st, pwrEn := 0xF, pgCore := true, quiet := true, entry := none, heldWake := 0
                        waking := none, quietAt := s.elapsed, entryMs := 0, quietMs := 0, wakeUs := 0, dozeNs := 0 }
    log := { bank := s.log.bank, lgSticky := s.log.lgSticky, failed := s.log.failed }
    brk := { unitId := s.brk.unitId, proofValid := s.brk.proofValid, proofPass := s.brk.proofPass, proofCode := s.brk.proofCode
             onProof := s.brk.onProof, fired := s.brk.fired, oneLine := s.brk.oneLine, startAt := s.elapsed, lastGen := s.brk.lastGen }
    sec := otpSec s.sec
    svc := { keptSvc s.svc with boot := .rom }
    gra := keptGra s.gra
    flu := otpFlu s.elapsed s.flu
    ing := { reserves := resumeReserves s.ing.counters, counters := s.ing.counters, cntPos := s.ing.cntPos, recNo := s.ing.recNo }
    led := { dramMiB := s.led.dramMiB }
    fan := fanStart s
    dev := { quiet := true, paceAt := s.elapsed } }
  { t with flu := { t.flu with interval := if t.fan.st = .unset then 0 else gridNow t } }

/-- The order POWER_STATE codes the states in (R384). -/
def pstateCode : PState → Nat
  | .run => 0 | .trim => 1 | .doze => 2 | .hush => 3 | .off => 4

/-- A debug session ends (R467): every halted core resumes. -/
def endDebug (cause : Nat) (s : State) : State :=
  match s.sec.session with
  | none => s
  | some d => raise 99 d.level cause { s with sec := { s.sec with session := none } }

/-- The pins a reset releases: every enabled group, and SAFE_nFAULT unless a wake failure holds it (R432, R502). -/
def resetPins (s : State) : State :=
  let s1 := ["RAD", "PLC", "FLUME", "CHK"].zipIdx.foldl (fun t e => if grp s e.2 then emit (.pin e.1 0) t else t) s
  let s2 := if s1.fan.ppsOut then emit (.pin "PPS_OUT" 0) s1 else s1
  if s.saf.safe ∧ !s.pwr.wakeFault then emit (.pin "SAFE_nFAULT" 1) s2 else s2

/-- A SYSTEM reset with its cause bit (R501, R506): start-up resumes from step 2 of R503. -/
def systemReset (cause : Nat) (s : State) : State :=
  let t := clearCore (resetPins (endDebug 2 s))
  { t with pwr := { t.pwr with resetCause := cause, waking := some { since := s.elapsed, at_ := s.elapsed } }
           brk := { t.brk with onProof := false, fired := false, oneLine := false } }

/-- PWR_EN in a state (R490). -/
def pwrEnOf : PState → Nat
  | .run | .trim => 0xF | .doze => 0xE | .hush | .off => 0

/-- The frames and batches an entry to HUSH or OFF discards (R492). -/
def discardRings (s : State) : State :=
  let n := s.ing.staging.length + (s.ing.ring.filter (fun b => !b.sent)).length
  bump 0xD001C n { s with ing := { s.ing with staging := [], ring := s.ing.ring.filter (fun b => b.sent) } }

/-- The staging lock is released (R515): STAGING stays INCOMPLETE, or the machine is IDLE when no byte was staged. -/
def releaseLock (s : State) : State :=
  { s with svc := { s.svc with lock := none,
                               upd := if s.svc.upd = .receiving then (if s.svc.staging = [] then .idle else .incomplete) else s.svc.upd } }

/-! ### Wake events (R492, R495, R496, R498) -/

/-- FROM of PWR_WAKE (R506). -/
def fromCode : PState → Nat
  | .doze => 2 | .hush => 3 | _ => 0

/-- PWR_WAKE (R506). -/
def pwrWake (s : State) : Nat :=
  s.pwr.wakeCause % 16 + 16 * s.pwr.wakeAttempts + 128 * b2n s.pwr.wakeOk + 256 * s.pwr.wakeFrom

/-- Step 1 of R496: the wake is latched with its causes, PWR_EN rises, QUIET begins. A start-up's own sequence is no wake.
DEDUCED: log entry 93. -/
def startSeq (causes : Nat) (s : State) : State :=
  let p := { s.pwr with waking := some { since := s.elapsed, at_ := s.elapsed }, pwrEn := 0xF }
  if s.pwr.st = .run then { s with pwr := p }
  else { s with
    pwr := { p with wakeCause := causes, wakeAttempts := 1, wakeOk := false, wakeFrom := fromCode s.pwr.st, quiet := true
                    quietAt := s.elapsed }
    dev := { s.dev with quiet := true } }

/-- A wake event with its cause bits (R495): held during an entry sequence, joined to a wake in progress, or the start of one. After a
wake failure only WAKEn and WAKE_RETRY start one (R498); in OFF nothing does. DEDUCED: log entry 93. -/
def wake (causes : Nat) (s : State) : State :=
  let p := s.pwr
  match p.entry with
  | some e =>
    if e.1 = .doze ∨ e.1 = .hush then { s with pwr := { p with heldWake := p.heldWake ||| causes } } else s
  | none =>
    if p.st = .doze ∨ p.st = .hush then
      match p.waking with
      | some _ => { s with pwr := { p with wakeCause := p.wakeCause ||| causes } }
      | none => if p.wakeFail ∧ bits causes 1 1 = 0 ∧ bits causes 3 1 = 0 then s else startSeq causes s
    else if p.st = .run ∧ p.wakeFail ∧ p.waking = none ∧ (bits causes 1 1 = 1 ∨ bits causes 3 1 = 1) then startSeq causes s
    else s

/-! ### What is still open in a block taken down (R35) -/

/-- A command open in a block at its isolation completes with POWERED_DOWN, and the powered-down event is logged (R32, R35). -/
def downReply (w : Nat × Nat) (s : State) : State := replyLater w .poweredDown 0 (openRecord 0 s)

/-- Host frames that have not left their pin (R328). -/
def takePtp (s : State) : State :=
  s.fan.ptpOut.foldl (fun t p => downReply p.job t) { s with fan := { s.fan with ptpOut := [] } }

/-- CHANNEL commands whose script has not run, and the script that runs (R182, R186). -/
def takeVan (s : State) : State :=
  let ws := s.van.ports.flatMap (fun e => (match e.2.running with | some (_, _, some w) => [w] | _ => []) ++ e.2.chanWait)
  ws.foldl (fun t w => downReply w t)
    { s with van := { s.van with ports := s.van.ports.map (fun e => (e.1, { e.2 with running := none, chanWait := [] })) } }

/-- PLC front-end calibrations asked for (R484, R485). -/
def takeLea (s : State) : State :=
  (s.lea.ports.flatMap (fun e => e.2.calCmd)).foldl (fun t w => downReply w t)
    { s with lea := { s.lea with ports := s.lea.ports.map (fun e => (e.1, { e.2 with calCmd := [], calibrating := false })) } }

/-- A FORMAT in progress (R407). -/
def takeGra (s : State) : State :=
  let ws := s.gra.arc.format.toList ++ s.gra.chk.format.toList
  ws.foldl (fun t w => downReply w t)
    { s with gra := { s.gra with arc := { s.gra.arc with format := none }, chk := { s.gra.chk with format := none } } }

/-- Queue flushes that wait for their boundary (R392). -/
def takeQue (s : State) : State :=
  (s.que.flush.map (fun f => f.2)).foldl (fun t w => downReply w t) { s with que := { s.que with flush := [] } }

/-- Self-tests that have not ended (R485): the blocks they test are taken down with the Ledger. -/
def takeSaf (s : State) : State :=
  (s.saf.tests.map (·.job)).foldl (fun t w => downReply w t) { s with saf := { s.saf with tests := [], rotNext := none } }

/-- The blocks a power state darkens are taken down: whatever is still open in them completes with POWERED_DOWN (R35). -/
def takeDown (s : State) : State :=
  let at_ := fun (b : Blk) (f : State → State) (t : State) => if dark s b then f t else t
  at_ .ldg takeSaf (at_ .que takeQue (at_ .gra takeGra (at_ .fan takePtp (at_ .lea takeLea (at_ .van takeVan s)))))

/-- Step 7 of R492: the state is entered, supplies and clamps follow; a wake held during the entry starts at once.
DEDUCED: log entry 95. -/
def enterState (t : PState) (s : State) : State :=
  let old := s.pwr.st
  let low := t == .doze || t == .hush || t == .off
  let s1 := raise 102 (pstateCode t) (pstateCode old) s
  let s2 := if low then endDebug 4 (releaseLock { s1 with svc := { s1.svc with usb := false } }) else s1
  let s3a := if t = .hush ∨ t = .off then discardRings s2 else s2
  let s3 := if low ∧ s3a.fan.ppsOut then emit (.pin "PPS_OUT" 0) s3a else s3a
  let unlock := { s3 with
    pwr := { s3.pwr with st := t, pwrEn := pwrEnOf t, pgCore := !low, entry := none, dozeFrom := if t = .doze then old else s3.pwr.dozeFrom
                         dozeAt := if t = .doze then s3.elapsed else s3.pwr.dozeAt
                         dozeNs := nowNs s3, heldWake := 0 }
    brk := if low then { s3.brk with armed := false, sawRound := false, fired := false, oneLine := false } else s3.brk
    van := if t = .run then s3.van else { s3.van with ports := s3.van.ports.map (fun e => (e.1, { e.2 with lock := false })) }
    lea := if t = .run then s3.lea else { s3.lea with ports := s3.lea.ports.map (fun e => (e.1, { e.2 with lock := false })) }
    fan := if low then { s3.fan with ppsOut := false } else s3.fan
    dev := { s3.dev with ready := if t = .hush ∨ t = .off then false else s3.dev.ready } }
  let down := takeDown (if dark unlock .flu then fluOff unlock else unlock)
  if s.pwr.heldWake ≠ 0 ∧ (t = .doze ∨ t = .hush) then startSeq s.pwr.heldWake down else down

end Sys2Proof.Machine
end

