-- ==== Sys2Proof/Machine/Security.lean ====
section
/-! DEFINITION. Keys, lifecycle, tokens, the firewall's commands and debug sessions (R449–R471). -/

namespace Sys2Proof.Machine

/-! ### Lifecycle authority (R462) -/

def lcIn (s : State) (l : List Nat) : Bool := l.contains s.sec.lc

/-! ### Tokens (R452, R453) -/

def tokMagic (t : List Byte) : Nat := ofLe (slice t 0 4)
def tokKind (t : List Byte) : Nat := byteAt t 4
def tokTarget (t : List Byte) : Nat := byteAt t 5
def tokSigner (t : List Byte) : Nat := byteAt t 6
def tokLimit (t : List Byte) : Nat := ofLe (slice t 0x0C 4)

/-- A signer's stored hash: Dravrid's, or that of a burned owner slot not revoked. DEDUCED: log entry 14. -/
def signerHash (s : State) (n : Nat) : Option (List Byte) :=
  if n = 0 then some Config.dravridHash
  else if n ≤ 4 then
    let h := tget [] s.sec.owners (n - 1)
    if h = [] ∨ s.sec.revoked.getLsbD (n - 1) then none else some h
  else none

/-- The checks of R453 in their order; the number of the first that fails (log entry 14). The public point follows the token.
DEDUCED: log entry 14. -/
def tokenFault (s : State) (kind target : Nat) (nonce : List Byte) (t : List Byte) : Option Nat :=
  let pub := slice t 0x90 97
  if tokMagic t ≠ 0x4B545A43 ∨ tokKind t ≠ kind ∨ tokTarget t ≠ target ∨ byteAt t 7 ≠ 0 ∨
      ofLe (slice t 8 4) ≠ Config.deviceId % 2 ^ 32 ∨ (kind = 1 ∧ tokLimit t ≠ 0) then some 0
  else if slice t 0x10 32 ≠ nonce then some 1
  else match signerHash s (tokSigner t) with
  | none => some 2
  | some h => if Config.sha384 pub ≠ h ∨ !Config.ecdsaP384 pub (slice t 0 0x30) (slice t 0x30 96) then some 3 else none

/-- Further tokens are refused unchecked for 60 s after eight rejections (R453). -/
def tokenLocked (s : State) : Bool :=
  match s.sec.lockout with
  | some t => !passed s t (60 * tickS)
  | none => false

/-- A token is rejected: counted, told of, and the eighth starts the refusal. -/
def rejectToken (kind check : Nat) (s : State) : State :=
  let n := s.sec.rejects + 1
  raise 95 kind check (bump 0xC002C 1 { s with sec := { s.sec with
    rejects := if n = 8 then 0 else n, lockout := if n = 8 then some s.elapsed else s.sec.lockout } })

/-! ### Lifecycle (R450, R451) -/

/-- The nonce of a lifecycle token: SEC_LC_COUNT. -/
def lcNonce (s : State) : List Byte := leBytes 4 s.sec.lcCount ++ zeros 28

/-- A transition takes effect: counted, told of; any debug session ends. -/
def lcStep (new : Nat) (s : State) : State :=
  let old := s.sec.lc
  let n := s.sec.lcCount + 1
  endDebug 3 (raise 94 (new * 16 + old) n { s with sec := { s.sec with lc := new, lcCount := n } })

/-- The destruction an entry to RETURN carries out (R451). -/
def destroyKeys (s : State) : State :=
  let ones := List.replicate 48 (0xFF : Byte)
  let wipe := fun (c : Option CfgSet) => c.map (fun x => { x with devKeys := [] })
  dropClaim 0 1 { s with svc := { s.svc with cfgA := wipe s.svc.cfgA, cfgB := wipe s.svc.cfgB }, sec := { s.sec with
    ktk := none, oik := none, pairKey := none, burnedOut := true, vault := [], cache := [], devKeys := []
    owners := [(0, ones), (1, ones), (2, ones), (3, ones)] } }

/-- The boot chain runs again (R451). -/
def restartBoot (s : State) : State := { s with svc := { s.svc with boot := .rom }, dev := { s.dev with ready := false } }

/-- The row of R451 a LIFECYCLE target takes, as a check of the state and the signers it needs: owner, Dravrid or both, and a
slot that may not sign. -/
def lcRow (s : State) (target : Nat) : Option (Bool × Bool × Option Nat) :=
  let l := s.sec.lc
  if target = 2 then
    if l = 1 then some (true, false, none)
    else if l = 3 ∧ 0 < s.sec.toggles then some (true, false, none) else none
  else if target = 3 then
    if l = 2 ∧ 0 < s.sec.toggles ∧ !(s.svc.upd == .receiving || s.svc.upd == .armed || s.svc.upd == .trial) then some (true, false, none)
    else none
  else if target = 4 then (if l = 1 ∨ l = 2 ∨ l = 3 then some (true, true, none) else none)
  else if target = 5 then
    (if l = 5 then none else if l = 0 ∨ l = 4 then some (false, true, none) else some (true, false, none))
  else if 0x10 ≤ target ∧ target < 0x14 then
    (if l = 1 ∨ l = 2 ∨ l = 3 then some (true, false, some (target - 0x10)) else none)
  else none

/-- An exit from OWNER_LOCKED burns a toggle bit (R450). -/
def burnToggle (s : State) : State := if s.sec.lc = 3 then { s with sec := { s.sec with toggles := s.sec.toggles - 1 } } else s

/-- What a permitted and authorised LIFECYCLE command does (R451). -/
def lcEffect (target : Nat) (s : State) : State :=
  if target = 2 then
    lcStep 2 (burnToggle s)
  else if target = 3 then lcStep 3 { s with sec := { s.sec with toggles := s.sec.toggles - 1 } }
  else if target = 4 then restartBoot (lcStep 4 (destroyKeys (burnToggle s)))
  else if target = 5 then
    let t := destroyKeys (burnToggle s)
    restartBoot (lcStep 5 { t with sec := { t.sec with rootBurned := true } })
  else lcStep s.sec.lc { s with sec := { s.sec with revoked := setBit s.sec.revoked (target - 0x10) } }

/-- The transfer a LIFECYCLE target needs: one token and its public point, or two, rounded up to 4 B (log entry 14). -/
def lcLen (target : Nat) : Nat := if target = 4 then 484 else 244

def lifecycleCmd (c : Ctx) (target : Nat) (s : State) : CmdRes :=
  match lcRow s target with
  | none => refuse .denied s
  | some (owner, dravrid, notSlot) =>
    if tokenLocked s then refuse .denied s
    else
      let t1 := c.xin.take 241
      let t2 := slice c.xin 241 241
      let bad1 := tokenFault s 1 target (lcNonce s) t1
      let sign1 := if owner then decide (1 ≤ tokSigner t1) && decide (some (tokSigner t1 - 1) ≠ notSlot) else decide (tokSigner t1 = 0)
      let bad2 := if owner && dravrid then (match tokenFault s 1 target (lcNonce s) t2 with
        | some k => some k | none => if tokSigner t2 = 0 then none else some 2) else none
      match (match bad1 with | some k => some k | none => if sign1 then bad2 else some 2) with
      | some k => .fail .verifyFailed (rejectToken 1 k s)
      | none => .ok (lcEffect target s) 0 []

/-! ### Keys (R383, R456–R458) -/

/-- A slot's key is replaced with any cached copy (R458). -/
def putSlot (i : Nat) (v : Option Vault) (s : State) : State :=
  { s with sec := { s.sec with vault := tset none s.sec.vault i v, cache := s.sec.cache.filter (fun x => x != i) },
           ing := { s.ing with unwrapBad := s.ing.unwrapBad.filter (fun x => x != i) } }

def keyLoadCmd (c : Ctx) (i klen : Nat) (s : State) : CmdRes :=
  if !lcIn s [1, 2, 3] then refuse .denied s
  else if klen ≠ 16 ∧ klen ≠ 32 then refuse .badParam s
  else match Config.keyUnwrap (s.sec.ktk.getD []) c.xin with
  | none => refuse .verifyFailed s
  | some k =>
    let e := entry s i
    if e.state = .free then .ok (putSlot i (some { key := k, eui := 0 }) s) 0 []
    else
      let s1 := putSlot i (some { key := k, eui := euiOf s i }) s
      let s2 := setEntry i { e with key256 := klen == 32, keyGen := e.keyGen + 1 } s1
      .ok (modCold i (fun r => { r with key256 := klen == 32, keyGen := (e.keyGen + 1).toNat }) s2) 0 []

def deviceKeyCmd (c : Ctx) (which klen : Nat) (s : State) : CmdRes :=
  if !lcIn s [1, 2] then refuse .denied s
  else if 3 < which ∨ !(klen == 32 || (klen == 16 && (which == 1 || which == 2))) then refuse .badParam s
  else match Config.keyUnwrap (s.sec.ktk.getD []) c.xin with
  | none => refuse .verifyFailed s
  | some k =>
    let s1 := { s with sec := { s.sec with devKeys := tset [] s.sec.devKeys which k } }
    let fresh := fun (k block : Nat) => setReserve k { val := 1, ceil := 1 + block, startDue := false } (appendCounter k (1 + block) s1)
    let s2 := if which = 2 then fresh 2 (2 ^ 20)
      else if which = 1 then (let u := fresh 1 (2 ^ 14); { u with van := { u.van with upBseq := 0 } }) else s1
    .ok (raise 100 which klen s2) 0 []

/-! ### Firewall (R463–R465) -/

/-- The next access of its own by a control core or an engine, at an address the spec does not print (R463–R465): the owner rules may refuse
it. DESIGN CHOICE: log entry 13. -/
def masterAccess (m : Nat) (s : State) : State :=
  let addr := Config.masterAddr m s.free % 2 ^ 48
  if m = 4 ∨ m = 5 ∨ frozen s m ∨ granted s m addr 4 false then s else violation m false addr { s with free := s.free + 1 }

def firewallRuleCmd (rule master perm base size : Nat) (s : State) : CmdRes :=
  if !lcIn s [1, 2] ∨ rule < 32 then refuse .denied s
  else if 63 < rule ∨ 11 < master ∨ 3 < perm ∨ base % 4096 ≠ 0 ∨ size % 4096 ≠ 0 then refuse .badParam s
  else
    let r : Option FwRule := if size = 0 then none else some { master := master, perm := perm, base := base, size := size }
    .ok (masterAccess master { s with sec := { s.sec with rules := tset none s.sec.rules rule r } }) 0 []

/-- DEDUCED: log entry 91. -/
def firewallReleaseCmd (master : Nat) (s : State) : CmdRes :=
  if !lcIn s [0, 1, 2, 3] then refuse .denied s
  else if 11 < master then refuse .badParam s
  else if !frozen s master ∨ master = 4 ∨ 6 ≤ master then refuse .refusedState s
  else .ok (releaseMaster master 0 s) 0 []

/-- A write to SEC_FW_RELEASE (R465). DEDUCED: log entry 91. -/
def fwReleaseWrite (value : Nat) (s : State) : State :=
  if value = 0xF1EE0004 then (if frozen s 4 then hopResume (releaseMaster 4 1 s) else s)
  else bump 0xC002C 1 s

/-! ### Debug sessions (R466–R469) -/

/-- Who must sign for a level (R469): nobody, an owner, Dravrid, or the level is denied. -/
inductive DbgAuth where
  | open_ | owner | dravrid | denied
  deriving DecidableEq, Repr

def dbgAuth (lc level : Nat) : DbgAuth :=
  if lc = 0 then (if level = 3 then .dravrid else .open_)
  else if lc = 1 ∨ lc = 2 then (if level = 3 then .denied else .owner)
  else if lc = 3 then (if level = 1 then .owner else .denied)
  else if lc = 4 then .dravrid
  else .denied

/-- Open a session at a level (R467, R468); the length a session without a token has is its longest (log entry 14). -/
def openDebug (entry level limit : Nat) (s : State) : State :=
  let s1 := { s with sec := { s.sec with session := some { level := level, entry := entry, at_ := s.elapsed, limit := limit } } }
  let s2 := raise 98 level entry s1
  if 2 ≤ level ∧ frozen s2 4 then hopResume (releaseMaster 4 2 s2) else s2

/-- A session request (R466–R469): `level` is asked in ARG, the token and its public point follow. -/
def debugRequest (entry level : Nat) (t : List Byte) (s : State) : Status × State :=
  if s.sec.session.isSome then (.busy, s)
  else if level = 0 ∨ 3 < level then (.badParam, s)
  else if !(s.pwr.st == .run || s.pwr.st == .trim) then (.denied, s)
  else match dbgAuth s.sec.lc level with
  | .denied => (.denied, s)
  | a =>
    if 2 ≤ level ∧ s.brk.hold then (.refusedState, s)
    else if a = .open_ then (.ok, openDebug entry level 28800 s)
    else if tokenLocked s then (.denied, s)
    else
      let nonce := match s.sec.challenge with
        | some (n, at_) => if passed s at_ (60 * tickS) then none else some n
        | none => none
      let s1 := { s with sec := { s.sec with challenge := none } }
      let lim := tokLimit t
      let bad := match nonce with
        | none => some 1
        | some n => match tokenFault s 2 level n t with
          | some k => some k
          | none => if (if a = .owner then tokSigner t = 0 else tokSigner t ≠ 0) then some 2
                    else if lim < 60 ∨ 28800 < lim then some 0 else none
      match bad with
      | some k => (.verifyFailed, rejectToken 2 k s1)
      | none => (.ok, openDebug entry level lim s1)

/-- A fresh challenge of 32 random bytes (R467). -/
def newChallenge (s : State) : List Byte × State :=
  let b := Config.random s.free
  (b, { s with free := s.free + 1, sec := { s.sec with challenge := some (b, s.elapsed) } })

/-- A session's LIMIT elapses (R467). -/
def debugLimit (s : State) : State :=
  match s.sec.session with
  | some d => if passed s d.at_ (d.limit * tickS) then endDebug 0 s else s
  | none => s

/-! ### Meanings -/

def execKeyLoad (c : Ctx) (idx : Idx) (klen : Byte) (s : State) : Res :=
  .next (command (.keyLoad c idx klen) (decide (c.xlen = klen.toNat + 8)) (keyLoadCmd c idx.toNat klen.toNat) s)
def execDeviceKey (c : Ctx) (which : Byte) (klen : Byte) (s : State) : Res :=
  .next (command (.deviceKey c which klen) (decide (c.xlen = klen.toNat + 8)) (deviceKeyCmd c which.toNat klen.toNat) s)
def execLifecycle (c : Ctx) (target : Byte) (s : State) : Res :=
  .next (command (.lifecycle c target) (decide (c.xlen = lcLen target.toNat)) (lifecycleCmd c target.toNat) s)
def execFirewallRule (c : Ctx) (rule master perm : Byte) (base size : U64) (s : State) : Res :=
  .next (command (.firewallRule c rule master perm base size) true (firewallRuleCmd rule.toNat master.toNat perm.toNat base.toNat size.toNat) s)
def execFirewallRelease (c : Ctx) (master : Byte) (s : State) : Res :=
  .next (command (.firewallRelease c master) true (firewallReleaseCmd master.toNat) s)
def execSecFwViolInfoClear (value : U32) (s : State) : Res :=
  .next (regWrite .sec 0xC001C (fun t => if bit value.toNat 31 then { t with sec := { t.sec with violValid := false } } else t) s)
def execSecFwReleaseWrite (value : U32) (s : State) : Res :=
  .next (regWrite .sec 0xC0028 (fwReleaseWrite value.toNat) s)
def execTokenLockoutEnd (s : State) : Res :=
  .next (if tokenLocked s then s else { s with sec := { s.sec with lockout := none } })
def execDebugLimitExpiry (s : State) : Res := .next (debugLimit s)

end Sys2Proof.Machine
end

