-- ==== Sys2Proof/Machine/WeirBase.lean ====
section
/-! DEFINITION. The tree's headers, the anomaly score, suppression, proposals and the stranger records: what the Ledger, the
Weir, Leat and Millrace share (R68–R78, R139, R169–R176). -/

namespace Sys2Proof.Machine

/-! ### Nodes (R72–R74) -/

/-- A node's identity: level code in [20:18], number in [17:0] (R168). -/
def nodeKey (lvl num : Nat) : Nat := lvl * 2 ^ 18 + num
def keyLvl (k : Nat) : Nat := k / 2 ^ 18
def keyNum (k : Nat) : Nat := k % 2 ^ 18

/-- Nodes of a level (R72); none for a code that names no level. -/
def levelCount : Nat → Nat
  | 2 => 196608 | 3 => 65536 | 4 => 4096 | 5 => 256 | _ => 0

/-- The LEG value of an unattached endpoint. -/
def noLeg : Nat := 0x3FFFF

def node (s : State) (k : Nat) : Node := tget {} s.led.nodes k
def setNode (k : Nat) (v : Node) (s : State) : State := { s with led := { s.led with nodes := tset {} s.led.nodes k v } }
def wnode (s : State) (k : Nat) : WNode := tget {} s.wei.nodes k
def setWnode (k : Nat) (v : WNode) (s : State) : State := { s with wei := { s.wei with nodes := tset {} s.wei.nodes k v } }

def topoUp (s : State) : State := { s with led := { s.led with topoGen := s.led.topoGen + 1 } }

/-- MEASURED of a node (R147–R149): a check meter measures a leg or transformer; a feeder's or station's mirrors its ANCHOR. -/
def measuredBit (s : State) (k : Nat) : Bool := if keyLvl k = 4 ∨ keyLvl k = 5 then (node s k).anchor else (wnode s k).measured

/-- The PARENT a header holds (R74): a leg's is always ⌊n ÷ 3⌋, a station has none. -/
def parentNum (s : State) (k : Nat) : Nat :=
  if keyLvl k = 2 then keyNum k / 3 else if keyLvl k = 5 then 0 else (node s k).parent

/-- The parent's identity. -/
def parentKey (s : State) (k : Nat) : Option Nat :=
  if keyLvl k = 5 then none else some (nodeKey (keyLvl k + 1) (parentNum s k))

/-- A header changes, and its GEN with it (R74). -/
def nodeChange (k : Nat) (f : Node → Node) (s : State) : State :=
  let n := f (node s k)
  setNode k { n with gen := n.gen + 1 } s

/-- A child comes to or leaves a node. -/
def childUp (k : Nat) (s : State) : State := nodeChange k (fun n => { n with children := n.children + 1 }) s
def childDown (k : Nat) (s : State) : State := nodeChange k (fun n => { n with children := n.children - 1 }) s

def legActive (s : State) (leg : Nat) : Bool := decide (leg < levelCount 2) && (node s (nodeKey 2 leg)).active

/-! ### SUSP and ANOM (R169, R170) -/

def suspUp (leg : Nat) (s : State) : State :=
  let w := wnode s (nodeKey 2 leg)
  setWnode (nodeKey 2 leg) { w with susp := min 7 (w.susp + 1) } s
def suspDown (leg : Nat) (s : State) : State :=
  let w := wnode s (nodeKey 2 leg)
  setWnode (nodeKey 2 leg) { w with susp := if w.susp = 7 then 7 else w.susp - 1 } s

/-- Parameters as the last close read them: those but INT_LEN, LATE_WIN, HIST and RETIME_LAG apply from the next close (R177).
DEDUCED: log entry 48. -/
def frz (s : State) (pid scope : Nat) : Nat := (cfgGet s.wei.frzCfg .weir pid scope).toNat

/-- The Weir group's parameters, as a close copies them. -/
def weirCfg (s : State) : Tab Int := s.cfg.filter (fun e => e.1 / 2 ^ 32 == 4)

def anomThr (s : State) : Nat := frz s 7 0
def anomScore (e : Entry) : Nat := e.anom.toNat / 8
def anomCause (e : Entry) : Nat := e.anom.toNat % 8

/-- Write ANOM, with the leg's SUSP following a crossing of ANOM_THR (R170). -/
def setAnom (i score cause : Nat) (s : State) : State :=
  let e := entry s i
  let t := anomThr s
  let s1 := setEntry i { e with anom := BitVec.ofNat 8 (score * 8 + cause) } s
  if e.leg.toNat = noLeg then s1
  else if anomScore e < t ∧ t ≤ score then suspUp e.leg.toNat s1
  else if t ≤ anomScore e ∧ score < t then suspDown e.leg.toNat s1
  else s1

/-- The increase a proposal makes (R169). -/
def anomProposal (i : Nat) (s : State) : State := setAnom i (min 31 (anomScore (entry s i) + 4)) 2 s

/-! ### Suppression and proposals (R172, R173, R176) -/

/-- The suppression list forbids a proposal (R173): an entry of the index with the present LEG and evidence phase. -/
def suppressed (s : State) (i phase : Nat) : Bool :=
  s.wei.suppress.contains (i, (entry s i).leg.toNat, phase)

def suppressAdd (e : Nat × Nat × Nat) (s : State) : State :=
  let l := s.wei.suppress ++ [e]
  { s with wei := { s.wei with suppress := if 4096 < l.length then l.drop 1 else l } }

/-- Push a record on the Weir's report queue; any record overwritten raises the report-lost event, with Records lost 1 (R176, R179).
DESIGN CHOICE: log entry 110. -/
def weirReport (b : List Byte) (s : State) : State :=
  let r1_ := pushOver 1 (.bytes b) s
  let lost := r1_.1
  let t := r1_.2
  if lost then raise 26 1 0 (bump 0x50044 1 t) else t

/-- A report record (R176). -/
def reportBytes (s : State) (i fromLeg toLeg source result phase pairs rho1 rho2 : Nat) : List Byte :=
  leBytes 4 i ++ leBytes 4 fromLeg ++ leBytes 4 toLeg ++ leBytes 1 (source + 16 * result) ++ leBytes 1 phase ++ leBytes 2 pairs
    ++ leBytes 2 rho1 ++ leBytes 2 rho2 ++ leBytes 4 (s.wei.openIv.getD 0) ++ leBytes 4 s.led.topoGen.toNat ++ zeros 4

/-- The active sibling leg of the same transformer with a PHASE_REF, other than the leg itself; none is 0x3_FFFF. -/
def siblingWith (s : State) (leg phase : Nat) : Nat :=
  (((List.range 3).map (fun k => leg / 3 * 3 + k)).find? (fun l => l != leg && legActive s l &&
    (node s (nodeKey 2 l)).phaseRef.toNat == phase)).getD noLeg

/-- A proposal (R172, R175): MOVE_PROP, the ANOM increase, the event. -/
def propose (i toLeg : Nat) (s : State) : State :=
  let s1 := anomProposal i (setEntry i { entry s i with moveProp := true } s)
  raise 21 i toLeg s1

/-- The phase 1–3 of a PHASE class (R243): classes 1–3 upright, 4–6 inverted. -/
def classPhase (c : Nat) : Nat := if c = 0 then 0 else (c - 1) % 3 + 1

/-! ### Moves (R76, R154) -/

/-- MOVED in the banks of the open interval and of the one in LATE (R154). -/
def markMoved (leg : Nat) (s : State) : State :=
  let k := nodeKey 2 leg
  let put := fun (n : Nat) (w : WNode) =>
    if n % 2 = 0 then { w with bankA := { w.bankA with moved := true } } else { w with bankB := { w.bankB with moved := true } }
  let w1 := match s.wei.openIv with | some n => put n (wnode s k) | none => wnode s k
  let w2 := match s.wei.late with | some n => put n w1 | none => w1
  setWnode k w2 s

/-- An endpoint leaves its leg: CHILDREN, GEN and SUSP. -/
def leaveLeg (i : Nat) (s : State) : State :=
  let e := entry s i
  if e.leg.toNat = noLeg then s
  else
    let s1 := childDown (nodeKey 2 e.leg.toNat) s
    if anomThr s ≤ anomScore e then suspDown e.leg.toNat s1 else s1

/-- An endpoint joins a leg. -/
def joinLeg (i leg : Nat) (s : State) : State :=
  if leg = noLeg then s
  else
    let s1 := childUp (nodeKey 2 leg) s
    if anomThr s ≤ anomScore (entry s i) then suspUp leg s1 else s1

/-! ### Check meters (R161) -/

/-- A check-meter entry measures an interval: from the one open at its bind to the last one that was under way at its removal. -/
def checkIn (n : Nat) (c : CheckM) : Bool := decide (c.first ≤ n) && (match c.last with | some l => decide (n ≤ l) | none => true)

/-- The entry by which an endpoint measures an interval. -/
def checkAt (s : State) (i n : Nat) : Option CheckM := s.wei.checks.find? (fun c => c.idx == i && checkIn n c)
/-- The endpoint has a place in the check-meter table: removed or not, its entry still measures (R161). DEDUCED: log entry 104. -/
def checkHeld (s : State) (i : Nat) : Bool := s.wei.checks.any (fun c => c.idx == i)
/-- The endpoint is in force as a check meter: its entry has not been removed. -/
def isCheck (s : State) (i : Nat) : Bool := s.wei.checks.any (fun c => c.idx == i && c.last.isNone)

/-- Remove a check-meter entry from the next open interval on (R161). -/
def checkRemove (i : Nat) (s : State) : State :=
  let open_ := s.wei.openIv
  let live := fun (n : Option Nat) => n.isSome
  { s with wei := { s.wei with
    checks := (s.wei.checks.map (fun c => if c.idx = i ∧ c.last.isNone then { c with last := some (open_.getD 0) } else c)).filter
      (fun c => !(c.idx == i) || live open_ || live s.wei.late || live s.wei.closing)
    nodes := if live open_ then s.wei.nodes else
      (s.wei.checks.filter (fun c => c.idx == i)).foldl
        (fun t c => tmod {} t (nodeKey c.lvl c.num) (fun w => { w with measured := false })) s.wei.nodes } }

/-! ### Strangers (R68–R70) -/

/-- Fold an EUI-64 to its tag (R48). -/
def euiTag (e : Nat) : Nat := (bits e 48 16) ^^^ (bits e 32 16) ^^^ (bits e 16 16) ^^^ (bits e 0 16)

/-- A stranger record, unless the holdoff filter withholds it (R68–R70). Of a full filter the entry whose last record is the oldest
goes, and SEEN_S is the second in which the record is made. DESIGN CHOICE: log entry 102. -/
def stranger (eui claimIdx reason path port : Nat) (rssi : Byte) (rxNs : Nat) (s : State) : State :=
  let byIdx := reason = 1 ∨ reason = 2
  let key := if byIdx then claimIdx else eui
  let mine := fun (h : Holdoff) => h.byIndex == decide byIdx && h.key == key
  let hold := s.led.holdoff.find? mine
  let within := match hold with
    | some h => !passed s h.at_ (paramN s .ledger 1 0 * tickS)
    | none => false
  if within then
    { s with led := { s.led with holdoff := s.led.holdoff.map (fun h => if mine h then { h with count := h.count + 1 } else h) } }
  else
    let n := (hold.map (·.count)).getD 0
    let rest := s.led.holdoff.filter (fun h => !mine h)
    let rest' := if 256 ≤ rest.length then rest.drop 1 else rest
    let h : Holdoff := { byIndex := decide byIdx, key := key, at_ := s.elapsed, count := 0 }
    let recd := leBytes 8 eui ++ leBytes 4 (rxNs / 1000000000) ++ leBytes 4 (rxNs % 2 ^ 32)
      ++ leBytes 4 (claimIdx % 2 ^ 20 + reason * 2 ^ 20 + path * 2 ^ 24 + port * 2 ^ 27) ++ [rssi] ++ zeros 3 ++ leBytes 4 n ++ zeros 4
    let first := queue s 0 = []
    let s1 := (pushOver 0 (.bytes recd) { s with led := { s.led with holdoff := rest' ++ [h] } }).2
    if first then raise 4 (queue s1 0).length 0 s1 else s1

/-- P32 samples between the start of the interval Flume measures and now. -/
def samplesSoFar (s : State) : Nat := (nowNs s - startOf s s.flu.interval * 1000000000) / 31250

def verdictCode : Verdict → Nat
  | .none => 0 | .nodeLoss => 1 | .nodeSurplus => 2 | .theftSuspect => 3

def sat32i (v : Int) : Int := clampI v (-0x80000000) 0x7FFFFFFF

end Sys2Proof.Machine
end

