-- ==== Sys2Proof/Machine/Records.lean ====
section
/-! DEFINITION. The words of a Ledger entry, of a node record and of a move record, and where each stands in the node table
(R49–R52, R72, R74, R77, R147–R149). -/

namespace Sys2Proof.Machine

/-! ### Words -/

/-- A field of `w` bits at bit `lo`. -/
def fld (v lo w : Nat) : Nat := v % 2 ^ w * 2 ^ lo

/-- STATE, in code order (R50). -/
def stateCode : EState → Nat
  | .free => 0 | .registered => 1 | .present => 2 | .absent => 3 | .blocked => 4

/-- CTRL (R50). -/
def ctrlWord (e : Entry) : Nat :=
  stateCode e.state + fld e.kind.toNat 3 2 + fld (b2n e.key256) 5 1 + fld e.keyGen.toNat 6 2 + fld e.pend.toNat 8 4
    + fld e.bindGen.toNat 12 8 + fld (b2n e.moveProp) 20 1 + fld (b2n e.resync) 21 1 + fld (b2n e.baseline) 22 1

/-- ATTACH (R51). -/
def attachWord (e : Entry) : Nat :=
  fld e.leg.toNat 0 18 + fld e.phase.toNat 18 3 + fld e.path.toNat 21 3 + fld e.port.toNat 24 3 + fld e.hops.toNat 27 4

/-- TAGS (R52). -/
def tagsWord (e : Entry) : Nat := fld e.euiTag.toNat 0 16 + fld e.anom.toNat 16 8 + fld e.intTag.toNat 24 8

/-- Word `w` of a hot entry (R49). -/
def entryWord (e : Entry) : Nat → Nat
  | 0 => ctrlWord e
  | 1 => e.lastSeq.toNat
  | 2 => e.seqMap.toNat
  | 3 => e.lastHeard.toNat
  | 4 => attachWord e
  | 5 => e.impWh.toNat
  | 6 => e.expWh.toNat
  | 7 => tagsWord e
  | _ => 0

/-- The 32 bytes of a hot entry (R49). -/
def entryBytes (e : Entry) : List Byte := ((List.range 8).map (fun w => leBytes 4 (entryWord e w))).flatten

/-- Word 0 of a node header (R74): LEVEL reads its code once the node has been defined. -/
def headWord0 (s : State) (k : Nat) : Nat :=
  let n := node s k
  (if n.defined then keyLvl k else 0) + fld (b2n n.active) 3 1 + fld (b2n n.frozen) 4 1 + fld (b2n n.anchor) 5 1
    + fld (if n.defined then parentNum s k else 0) 8 16 + fld n.gen.toNat 24 8

/-- Word 1 of a node header (R74). -/
def headWord1 (s : State) (k : Nat) : Nat :=
  let n := node s k
  fld n.children 0 21 + fld n.phaseRef.toNat 21 2 + fld (b2n n.invert) 23 1

/-- Word 4 or 5 of a leg record (R147). -/
def bankWord (b : WBank) : Nat :=
  fld b.rep 0 21 + fld (b2n b.est) 21 1 + fld (b2n b.outage) 22 1 + fld (b2n b.moved) 23 1 + fld (b2n b.sat) 24 1

/-- LCLASS, the scores, VERDICT and MEASURED (R147–R149). -/
def scoreWord (s : State) (k : Nat) : Nat :=
  let w := wnode s k
  fld w.lclass 0 8 + fld w.scorePos 8 8 + fld w.scoreNeg 16 8 + fld (verdictCode w.verdict) 24 4 + fld (b2n (measuredBit s k)) 28 1

/-- A 64-bit signed field as its pattern. -/
def toU64 (v : Int) : Nat := (v % (2 ^ 64 : Int)).toNat

/-- Word `w` of a leg record, of a transformer record, of a feeder or station record (R74, R147–R149). -/
def legWord (s : State) (k : Nat) : Nat → Nat
  | 0 => headWord0 s k
  | 1 => headWord1 s k
  | 2 => toU32 (wnode s k).bankA.net
  | 3 => toU32 (wnode s k).bankB.net
  | 4 => bankWord (wnode s k).bankA
  | 5 => bankWord (wnode s k).bankB
  | 6 => toU32 (sat32i (wnode s k).resid)
  | 7 => scoreWord s k + fld (wnode s k).susp 29 3
  | _ => 0

def transWord (s : State) (k : Nat) : Nat → Nat
  | 0 => headWord0 s k
  | 1 => headWord1 s k
  | 2 => toU32 (wnode s k).bankA.net
  | 3 => toU32 (wnode s k).bankB.net
  | 4 => toU32 (sat32i (wnode s k).resid)
  | 5 => scoreWord s k
  | _ => 0

def upperWord (s : State) (k : Nat) : Nat → Nat
  | 0 => headWord0 s k
  | 1 => headWord1 s k
  | 2 => toU64 (wnode s k).bankA.net % 2 ^ 32
  | 3 => toU64 (wnode s k).bankA.net / 2 ^ 32
  | 4 => toU64 (wnode s k).bankB.net % 2 ^ 32
  | 5 => toU64 (wnode s k).bankB.net / 2 ^ 32
  | 6 => toU64 (wnode s k).meas % 2 ^ 32
  | 7 => toU64 (wnode s k).meas / 2 ^ 32
  | 8 => toU64 (wnode s k).resid % 2 ^ 32
  | 9 => toU64 (wnode s k).resid / 2 ^ 32
  | 10 => (wnode s k).loss % 2 ^ 32
  | 11 => (wnode s k).loss / 2 ^ 32 % 2 ^ 32
  | 12 => (wnode s k).rep % 2 ^ 32
  | 13 => (wnode s k).eps % 2 ^ 32
  | 14 => scoreWord s k
  | _ => 0

/-- Word `w` of a move record; no record reads zero (R77). -/
def moveWord : Option NodeMv → Nat → Nat
  | some m, 0 => fld m.num 0 18 + fld m.lvl 18 3
  | some m, 1 => fld m.newParent 0 18
  | some m, 2 => fld m.oldParent 0 18
  | _, _ => 0

/-! ### Places -/

/-- A region of the Topology Node Table (R72): level code (0 the move list), offset, record size, records. -/
structure Region where
  lvl : Nat
  base : Nat
  size : Nat
  count : Nat
  deriving DecidableEq, Repr

/-- The regions of R72. -/
def tableRegions : List Region :=
  [⟨2, 0x000000, 32, 196608⟩, ⟨3, 0x600000, 24, 65536⟩, ⟨4, 0x780000, 64, 4096⟩, ⟨5, 0x7C0000, 64, 256⟩, ⟨0, 0x7C4000, 16, 4096⟩]

/-- The region an offset of the table lies in; none is the tail that reads zero (R72). -/
def regionAt (o : Nat) : Option Region := tableRegions.find? (fun r => decide (r.base ≤ o ∧ o < r.base + r.size * r.count))

/-- The aligned dword of the table at an offset (R72). -/
def tableDword (s : State) (o : Nat) : Nat :=
  match regionAt o with
  | none => 0
  | some r =>
    let n := (o - r.base) / r.size
    let w := (o - r.base) % r.size / 4
    match r.lvl with
    | 0 => moveWord s.led.moves[n]? w
    | 2 => legWord s (nodeKey 2 n) w
    | 3 => transWord s (nodeKey 3 n) w
    | l => upperWord s (nodeKey l n) w

end Sys2Proof.Machine
end

