-- ==== Sys2Proof/Machine/Checkpoint.lean ====
section
/-! DEFINITION. Checkpoints: what a generation holds, how its pages are written, and how it completes (R425, R437–R440); the end of a NAND page
program (R410, R416, R417). -/

namespace Sys2Proof.Machine

/-! ### What a generation takes (R437–R439) -/

/-- The Key Vault store as it lies in DRAM: every slot wrapped under the pair key (R437, R457). -/
def wrappedVault (s : State) : Tab (List Byte) := s.sec.vault.filterMap (fun e => e.2.map (fun _ => (e.1, vaultBytes s e.1)))

/-- What a snapshot holds at its start (R439); the parts of its stream that have an instant of their own are taken again at it, the tables are
not. DEDUCED: log entry 16. -/
def snapshot (gen : Nat) (s : State) : Ckpt :=
  { gen := gen, dev := Config.deviceId, startS := nowS s, startNs := nowNs s, claim := claimByte s, fwVer := s.dev.fwVer, cfg := s.cfg
    gws := s.ing.gws, headEnd := s.ing.headEnd, reserves := s.ing.reserves, bseq := s.van.bseqSent, led := s.led, wei := s.wei
    lea := s.lea, tai := s.tai, vault := wrappedVault s, devKeys := s.sec.devKeys }

/-- The tables of the checkpoint as they stand (R437), with the places of a directory. -/
def tablesOf (dir : List Nat) (s : State) : Tables :=
  { vault := wrappedVault s, recs := s.tai.recs, blank := s.tai.blank, tariffs := s.tai.tariffs, sps := s.tai.sps, repairs := s.tai.repairs
    cold := s.led.cold, dir := dir }

/-- Keys at which two tables differ. -/
def diffKeys {α : Type} [DecidableEq α] (da db : α) (a b : Tab α) : List Nat :=
  (a.map (·.1) ++ b.map (·.1)).filter (fun k => decide (tget da a k ≠ tget db b k))

/-- Table pages a list of items of a size lies on, in a table that begins at a page. -/
def pagesOn (first size : Nat) (items : List Nat) : List Nat :=
  items.flatMap (fun i => [first + size * i / 16384, first + (size * i + size - 1) / 16384])

/-- The table pages that changed after the last complete generation took them, and those that no directory names yet (R438).
DESIGN CHOICE for the places within a page: log entry 122. -/
def changedPages (s : State) : List Nat :=
  match s.brk.base with
  | none => List.range (tablePages s)
  | some b =>
    let t := tablesOf b.dir s
    let recs := if t.blank ≠ b.blank then List.range (2 ^ 20) else diffKeys t.blank b.blank t.recs b.recs
    let fresh := (List.range (tablePages s)).drop b.dir.length
    let all := pagesOn 0 48 (diffKeys [] [] t.vault b.vault) ++ pagesOn 3072 16 recs ++ pagesOn 4096 4096 (diffKeys {} {} t.tariffs b.tariffs) ++
      pagesOn 4160 64 (diffKeys none none t.sps b.sps) ++ pagesOn 4416 32 (diffKeys {} {} t.repairs b.repairs) ++
      pagesOn 4544 (64 * 2 ^ paramN s .ledger 2 0) (diffKeys none none t.cold b.cold) ++ fresh
    (all.foldl (fun u p => tset 0 u p 1) ([] : Tab Nat)).map (·.1)

/-- The 16 KiB of a table page: 48 bytes a slot in the Key Vault store (R437, R457). DESIGN CHOICE: log entry 122. -/
def tablePage (t : Tables) (p : Nat) : List Byte :=
  if p < 3072 then (List.range 16384).map (fun b => (tget (zeros 48) t.vault ((p * 16384 + b) / 48)).getD ((p * 16384 + b) % 48) 0)
  else (Config.tableBytes p t ++ zeros 16384).take 16384

/-! ### The stream (R437, R439) -/

/-- A part of the stream that comes from one instant: a section, the Ledger entries or the node records from a number on, the move list, the
bytes of the node table behind it, or the table directory. -/
inductive StreamPart where
  | sect (id : Nat)
  | entries (first : Nat)
  | nodes (lvl first : Nat)
  | moves
  | tail
  | dir
  deriving DecidableEq, Repr

/-- The parts in stream order (R437); the Ledger and the node table in index order (R439). -/
def partAt (j : Nat) : StreamPart :=
  if j = 0 then .sect 1
  else if j < 2049 then .entries ((j - 1) * 512)
  else if j < 2433 then .nodes 2 ((j - 2049) * 512)
  else if j < 2561 then .nodes 3 ((j - 2433) * 512)
  else if j < 2577 then .nodes 4 ((j - 2561) * 256)
  else if j = 2577 then .nodes 5 0
  else if j = 2578 then .moves
  else if j = 2579 then .tail
  else if j = 2580 then .sect 4
  else if j = 2581 then .sect 5
  else if j = 2582 then .sect 6
  else .dir
def partCount : Nat := 2584

/-- The section a part belongs to. -/
def sectOf : StreamPart → Nat
  | .sect i => i | .entries _ => 2 | .nodes _ _ | .moves | .tail => 3 | .dir => 7

/-- Records of a node part. -/
def nodesIn (lvl : Nat) : Nat := if lvl < 4 then 512 else 256

/-- Rows of a table from a key on, taken again. -/
def takeRows {α : Type} [DecidableEq α] (d : α) (lo n : Nat) (new old : Tab α) : Tab α :=
  (new.filter (fun e => decide (lo ≤ e.1 ∧ e.1 < lo + n))).foldl (fun t e => tset d t e.1 e.2)
    (old.filter (fun e => !decide (lo ≤ e.1 ∧ e.1 < lo + n)))

/-- What a part takes at its instant (R439). -/
def takePart (s : State) (k : Ckpt) : StreamPart → Ckpt
  | .sect 1 => { k with cfg := s.cfg, gws := s.ing.gws, headEnd := s.ing.headEnd, reserves := s.ing.reserves, bseq := s.van.bseqSent
                        devKeys := s.sec.devKeys, led := { k.led with moves := s.led.moves, topoGen := s.led.topoGen } }
  | .sect 4 => { k with wei := { s.wei with nodes := k.wei.nodes } }
  | .sect 5 => { k with lea := s.lea }
  | .sect 6 => { k with tai := { s.tai with recs := k.tai.recs, blankDseq := k.tai.blankDseq, blankEnd := k.tai.blankEnd, tariffs := k.tai.tariffs
                                            repairs := k.tai.repairs, sps := k.tai.sps } }
  | .entries i => { k with led := { k.led with entries := takeRows {} i 512 s.led.entries k.led.entries } }
  | .nodes l i => { k with led := { k.led with nodes := takeRows {} (nodeKey l i) (nodesIn l) s.led.nodes k.led.nodes }
                           wei := { k.wei with nodes := takeRows {} (nodeKey l i) (nodesIn l) s.wei.nodes k.wei.nodes } }
  | .sect _ | .moves | .tail | .dir => k

/-- Bytes of the node table. -/
def nodeTableBytes (s : State) (ofs len : Nat) : List Byte := (List.range (len / 4)).flatMap (fun w => leBytes 4 (tableDword s (ofs + 4 * w)))

/-- The place and size of a node part in the node table (R72). -/
def nodesAt (lvl first : Nat) : Nat × Nat :=
  match tableRegions.find? (fun r => r.lvl == lvl) with
  | some r => (r.base + first * r.size, nodesIn lvl * r.size)
  | none => (0, 0)

/-- The bytes of a part: those of the Ledger (R49), of the node table (R72), of the directory, and of a section within the size R437 gives it. -/
def partBytes (s : State) (k : Ckpt) : StreamPart → List Byte
  | .sect 1 => (Config.sectBytes 1 k).take 262144
  | .sect 4 => (Config.sectBytes 4 k).take 1048576
  | .sect 5 => (Config.sectBytes 5 k ++ zeros 540672).take 540672
  | .sect i => (Config.sectBytes i k).take 65536
  | .entries i => (List.range 512).flatMap (fun n => entryBytes (entry s (i + n)))
  | .nodes l i => nodeTableBytes s (nodesAt l i).1 (nodesAt l i).2
  | .moves => nodeTableBytes s 0x7C4000 0x10000
  | .tail => zeros 0x2C000
  | .dir => k.dir.flatMap (leBytes 4)

/-- The directory of a running checkpoint (R438): new places for the pages it wrote, the places before for every other page. -/
def newDir (r : CkptRun) : List Nat := (List.range r.pages).map (fun i => (tget none r.placed i).getD (r.tables.dir.getD i 0))

/-- Take parts until a page's bytes are there. -/
def fillStream : Nat → State → CkptRun × Ckpt → CkptRun × Ckpt
  | 0, _, x => x
  | n + 1, s, (r, k) =>
    if 16384 * (r.sp + 1) ≤ r.stream.length ∨ partCount ≤ r.part then (r, k)
    else
      let p := partAt r.part
      let k1 := takePart s (if p = .dir then { k with dir := newDir r } else k) p
      let bs := partBytes s k1 p
      fillStream n s ({ r with stream := r.stream ++ bs, part := r.part + 1, lens := tmod 0 r.lens (sectOf p) (· + bs.length) }, k1)

/-! ### The commit record (R440) -/

/-- The commit record without its TAG, of the sections' lengths and the digest (R440). -/
def commitHead (k : Ckpt) (lens : Tab Nat) (digest : List Byte) : List Byte :=
  leBytes 4 0x434B5054 ++ [0x01] ++ zeros 3 ++ leBytes 8 k.gen ++ leBytes 4 k.dev ++ leBytes 1 k.claim ++ zeros 3 ++
    leBytes 4 k.startS ++ leBytes 4 (k.startNs % 1000000000) ++ leBytes 4 k.endS ++ leBytes 4 (k.endNs % 1000000000) ++
    leBytes 4 k.fwVer ++ leBytes 4 k.dir.length ++ zeros 8 ++ digest ++
    ([1, 2, 3, 4, 5, 6, 7].flatMap (fun i => leBytes 2 i ++ zeros 2 ++ leBytes 4 (((List.range i).map (tget 0 lens)).sum) ++ leBytes 4 (tget 0 lens i))) ++
    zeros 68

/-- TAG of a commit record under this device's pair key (R440). -/
def commitTag (s : State) (head : List Byte) : List Byte := Config.cmac (pairKey s) head

/-- The last page of the stream has been programmed: END, DIGEST over the stream and the named table pages in directory order, TAG (R440). -/
def sealCkpt (r : CkptRun) (k : Ckpt) (s : State) : Ckpt :=
  let k1 := { k with endS := nowS s, endNs := nowNs s, extents := r.extents, len := r.stream.length }
  let head := commitHead k1 r.lens (Config.sha256 (r.stream ++ (readAll s.gra.chk k1.dir).getD []))
  { k1 with commit := head ++ commitTag s head }

/-! ### Writing a generation (R417, R425, R439) -/

/-- The data-band blocks the next generation takes at most (R425). -/
def nextBlocks (s : State) : Nat :=
  let p := pagesPer s.gra.chk
  (streamPages + (changedPages s).length + p - 1) / p

/-- The good data-band blocks not held by the two newest complete generations would not take one more (R425). -/
def chkFull (s : State) : Bool := decide ((freeData s).length < nextBlocks s)

/-- Start a checkpoint (R439). DEDUCED: log entry 16. -/
def startCkpt (cmd : Option (Nat × Nat)) (s : State) : State :=
  let gen := s.brk.lastGen + 1
  let t := tablesOf ((s.brk.base.map (·.dir)).getD []) s
  let s1 := readyData (freeData s) s
  { s1 with
    snap := some (snapshot gen s), cut := none
    brk := { s1.brk with run := some { gen := gen, at_ := s.elapsed, cmd := cmd, tables := t, pages := tablePages s, changed := changedPages s }
                         lastGen := gen, lastCkpt := s.elapsed } }

/-- The page a running checkpoint programs next: in its open block, or the first of the next block of the data band (R425). -/
def ckptPlace (r : CkptRun) (s : State) : Option (Nat × Nat × CkptRun × State) :=
  let fresh := (takeData s).map (fun x => (x.1, 0, { r with blocks := r.blocks ++ [x.1] }, x.2))
  match r.open_ with
  | some (b, p) => if p < pagesPer s.gra.chk then some (b, p, r, s) else fresh
  | none => fresh

/-- A block's program fails (R417): it is retired, and the checkpoint goes on in the next; the stream pages it holds are written again there,
as an extent runs to the end of its block (R408). DESIGN CHOICE: log entry 122. -/
def ckptBreak (b p : Nat) (r : CkptRun) (s : State) : State :=
  let c := s.gra.chk
  let lost := match r.extents.getLast? with
    | some e => if blockOf c e = b then p - e % pagesPer c else 0
    | none => 0
  let t := retire true b 0 (putTorn true (b * pagesPer c + p) s)
  { t with brk := { t.brk with run := some { r with
      open_ := none, sp := r.sp - lost, extents := if lost = 0 then r.extents else r.extents.dropLast } } }

/-- The next page of a running checkpoint is programmed: its changed table pages first, then the stream, whose last page ends it
(R425, R437–R440). DESIGN CHOICE for that order: log entry 122. -/
def ckptPage (ok : Bool) (s : State) : State :=
  match s.brk.run, s.snap with
  | some r, some k =>
    if r.done then s
    else match ckptPlace r s with
    | none => abandonCkpt 0 .mediaExhausted (exhaust true s)
    | some (b, p, r1, s1) =>
      if !ok then ckptBreak b p r1 s1
      else
        let ppn := b * pagesPer s1.gra.chk + p
        let put := fun (bs : List Byte) => putPage true ppn (.data bs) (r1.gen % 2 ^ 32) 0 (r1.placed.length + r1.sp) none s1
        match r1.changed with
        | t :: rest =>
          let u := put (tablePage r1.tables t)
          { u with brk := { u.brk with run := some { r1 with
              changed := rest, placed := tset none r1.placed t (some ppn), open_ := some (b, p + 1) } } }
        | [] =>
          let f := fillStream partCount s1 (r1, k)
          let bs := (f.1.stream.drop (16384 * f.1.sp)).take 16384
          let u := put (bs ++ zeros (16384 - bs.length))
          let same := match f.1.extents.getLast? with
            | some e => blockOf u.gra.chk e == b
            | none => false
          let r2 := { f.1 with sp := f.1.sp + 1, extents := if same then f.1.extents else f.1.extents ++ [ppn], open_ := some (b, p + 1)
                               done := decide (partCount ≤ f.1.part ∧ f.1.stream.length ≤ 16384 * (f.1.sp + 1)) }
          { u with brk := { u.brk with run := some r2 }, snap := some (if r2.done then sealCkpt r2 f.2 u else f.2) }
  | _, _ => s

/-- The pages still to be programmed are, one after another. -/
def ckptRest : Nat → State → State
  | 0, s => s
  | n + 1, s => match s.brk.run with
    | some r => if r.done then s else ckptRest n (ckptPage true s)
    | none => s

/-- The anchor just programmed does not read back as written. -/
def spoilAnchor (s : State) : State :=
  let c := s.gra.chk
  setChan true { c with pages := c.pages.map (fun e => (e.1, e.2.map (fun q => if q.wseq + 1 = c.wseq then { q with bad := true } else q))) } s

/-- Every page of a running checkpoint is programmed, then its anchor, and the anchor's read-back decides (R425, R439): the generation is
complete, or the checkpoint has failed. DEDUCED: log entry 86. -/
def ckptEnd (ok : Bool) (s0 : State) : State :=
  let s := match s0.brk.run with
    | some r => ckptRest (r.changed.length + streamPages + partCount) s0
    | none => s0
  match s.brk.run, s.snap with
  | some r, some k =>
    let s1 := putAnchor true (ckptAnchor (dataBand s.gra.chk).length (some k)) s
    if !ok then abandonCkpt 2 .verifyFailed (spoilAnchor s1)
    else
      let s2 := { s1 with
        chk := (k :: s1.chk).take 2, snap := none
        brk := { s1.brk with run := none, ckptMs := (s.elapsed - r.at_) / tickMs, ckptS := some k.startS
                             base := some { r.tables with dir := k.dir } } }
      let s3 := readyData (freeData s2) s2
      match r.cmd with
      | some w => replyLater w .ok (r.gen % 2 ^ 32) s3
      | none => s3
  | _, _ => s

def checkpointCmd (c : Ctx) (s : State) : CmdRes :=
  if s.brk.role ≠ .active then refuse .refusedState s
  else if s.gra.chk.st = .readOnly then refuse .mediaExhausted s
  else if s.gra.chk.st = .mounting then refuse .busy s
  else if s.gra.chk.st ≠ .ready then refuse .refusedState s
  else if s.brk.run.isSome then
    .fail .busy (raise 91 ((s.brk.lastGen + 1) % 2 ^ 32) 3 (bump 0xB001C 1 s))
  else if chkFull s then .fail .mediaExhausted (raise 91 ((s.brk.lastGen + 1) % 2 ^ 32) 0 (bump 0xB001C 1 (exhaust true s)))
  else .later (startCkpt (some (jobOf c s)) s)

/-- CKPT_PERIOD after the last start (R439). -/
def ckptPeriod (s : State) : State :=
  let p := paramN s .brake 2 0
  if p = 0 ∨ s.brk.role ≠ .active ∨ !passed s s.brk.lastCkpt (p * tickS) then s
  else if s.brk.run.isSome then
    raise 91 ((s.brk.lastGen + 1) % 2 ^ 32) 3 (bump 0xB001C 1 { s with brk := { s.brk with lastCkpt := s.elapsed } })
  else if s.gra.chk.st ≠ .ready then s
  else if chkFull s then
    raise 91 ((s.brk.lastGen + 1) % 2 ^ 32) 0 (bump 0xB001C 1 (exhaust true { s with brk := { s.brk with lastCkpt := s.elapsed } }))
  else startCkpt none s

/-! ### The end of a page program (R410, R416, R417) -/

/-- A page left partly programmed, whose status nobody reads. -/
def tornPage (ppn : Nat) (s : State) : State :=
  let c := s.gra.chk
  setChan true { c with pages := tset none c.pages ppn (some { body := .torn }) } s

/-- The program that a loss of the claim has caught ends inside the NAND (R410): the page of checkpoint data stands, or is left partly
programmed; the anchor of a generation that is not complete is left partly programmed, and no scan selects it. DEDUCED: log entry 86. -/
def cutDone (what : ProgWhat) (ok : Bool) (s : State) : State :=
  let c := s.gra.chk
  match s.cut, what with
  | some (r, k), .ckpt =>
    let t := { s with cut := none }
    (match r.open_, r.done with
      | some (b, p), false =>
        if pagesPer c ≤ p then t
        else if !ok then tornPage (b * pagesPer c + p) t
        else
          let u := ckptPage true { t with brk := { t.brk with run := some r }, snap := some k }
          { u with brk := { u.brk with run := none }, snap := none }
      | _, _ => t)
  | some (r, _), .system =>
    (if r.done then
      let n := c.bandAt % max 1 (c.band.length * pagesPer c)
      (match c.band[n / pagesPer c]? with
        | some b => tornPage (b * pagesPer c + n % pagesPer c) { s with cut := none }
        | none => { s with cut := none })
    else s)
  | _, _ => s

/-- DEDUCED: log entry 84. -/
def programDone (ch : Bool) (what : ProgWhat) (block : Nat) (ok : Bool) (s : State) : State :=
  let c := chan s ch
  if c.st = .gated then (if ch then cutDone what ok s else s)
  else if c.st ≠ .ready then s
  else match what with
  | .copy => if ch then chkCopy ok s else copyPage ok s
  | .unit => if ch then s else if ok then programUnit s else unitFails s
  | .system => if ok then setChan ch { c with notReady := targetOk c block } s else systemFails ch block s
  | .ckpt => if ch then ckptPage ok s else s

/-! ### Meanings -/

def execCheckpoint (c : Ctx) (s : State) : Res := .next (command (.checkpoint c) true (checkpointCmd c) s)
def execCheckpointComplete (ok : Bool) (s : State) : Res := .next (if halted s .gra 10 then s else ckptEnd ok s)
def execCkptPeriodTimer (s : State) : Res := .next (ckptPeriod s)
def execNandProgramDone (ch : Bool) (what : ProgWhat) (block : Nat) (ok : Bool) (s : State) : Res :=
  .next (if halted s .gra 10 then s else programDone ch what block ok s)

end Sys2Proof.Machine
end

