-- ==== Sys2Proof/Machine/ServicePort.lean ====
section
/-! DEFINITION. The Service Port's operations and the device's own firmware: staging, arming, confirming, reverting, the
configuration sets (R508–R526). -/

namespace Sys2Proof.Machine

/-! ### Registers the messages carry (R470, R524, R525) -/

def updCode : UpdSt → Nat
  | .idle => 0 | .receiving => 1 | .incomplete => 2 | .armed => 3 | .verify => 4 | .save => 5 | .copy => 6 | .trial => 7
  | .confirming => 8 | .revert => 9 | .rejected => 10 | .lcopy => 11

/-- MOVING stands (R516). -/
def moving (s : State) : Bool := s.svc.tilt || s.svc.hostMoving

def updStatus (s : State) : Nat :=
  let v := s.svc
  updCode v.upd + 16 * b2n v.lock.isSome + 32 * (v.lock.getD 0) + 64 * b2n (moving s) + 128 * b2n s.pwr.bkp
    + 256 * (v.tries % 16) + 4096 * v.last + 65536 * (v.cfgFormat % 256)

/-- SEC_LIFECYCLE (R470). -/
def secLifecycle (s : State) : Nat :=
  s.sec.lc + (s.sec.owners.map (fun e => 8 * 2 ^ e.1)).sum + 128 * s.sec.revoked.toNat + 2048 * s.sec.toggles

/-! ### Containers (R460, R508, R513) -/

def hdrType (h : List Byte) : Nat := byteAt h 4
def hdrVersion (h : List Byte) : Nat := ofLe (slice h 8 4)
def hdrSvn (h : List Byte) : Nat := byteAt h 12
def hdrLen (h : List Byte) : Nat := ofLe (slice h 16 4)
def hdrDigest (h : List Byte) : List Byte := slice h 0x30 48
/-- Bytes of a container: header, owner point, countersignature, payload. -/
def containerLen (h : List Byte) : Nat := 449 + hdrLen h

/-- What LOCK checks of a header (R513). -/
def headerOk (h : List Byte) : Bool :=
  decide (h.length = 256 ∧ ofLe (h.take 4) = 0x4D495A43 ∧ (hdrType h = 1 ∨ hdrType h = 2) ∧ hdrLen h ≤ 8 * 2 ^ 20) &&
  (decide (hdrType h ≠ 1) || decide (hdrLen h ≤ 1047552)) &&
  (slice h 6 2 ++ slice h 0x0D 3 ++ slice h 0xC0 64).all (fun b => decide (b = 0))

/-! ### The update journal (R519) -/

/-- The 32 bytes of a journal record of the state as it stands; `chunk`: a chunk record. -/
def journalRecord (chunk : Bool) (s : State) : List Byte :=
  let v := s.svc
  let b := leBytes 2 0x4A7C ++ leBytes 1 (if chunk then 0x0F else updCode v.upd) ++
    leBytes 1 (b2n v.revertReq.isSome + 2 * b2n v.loaderUse + 4 * b2n v.preferred) ++ leBytes 4 v.jseq ++
    leBytes 4 (updCode v.upd * 2 ^ 24 + (v.chunk - 1) % 65536) ++ leBytes 1 v.tries ++ zeros 3 ++ (hdrDigest v.header ++ zeros 12).take 12
  b ++ leBytes 4 (crc32 b)

/-- A journal record is written; when the half in use is full, the other half is erased and takes a copy of the record in force first. -/
def journalPut (chunk : Bool) (s0 : State) : State :=
  let s := { s0 with svc := { s0.svc with jseq := s0.svc.jseq + 1 } }
  let v := s.svc
  let r := journalRecord chunk s
  let cur := if v.jHalf then v.jnl1 else v.jnl0
  let half := if cur.length < 1024 then v.jHalf else !v.jHalf
  let recs := if cur.length < 1024 then cur ++ [r] else cur.getLast?.toList ++ [r]
  { s with svc := { v with jHalf := half, jnl0 := if half then v.jnl0 else recs, jnl1 := if half then recs else v.jnl1 } }

/-- The record in force: of the records of the two halves, the one written last has the highest SEQ. -/
def journalInForce (s : State) : Option (List Byte) := (if s.svc.jHalf then s.svc.jnl1 else s.svc.jnl0).getLast?

/-! ### Operations (R512–R517) -/

/-- What an operation answers. -/
structure SvcRes where
  status : Status
  arg : Nat := 0
  payload : List Byte := []
  st : State

/-- A record of a refused update (R526). -/
def refuseUpd (op : Nat) (st : Status) (arg : Nat) (s : State) : SvcRes :=
  { status := st, arg := arg, st := recordOnly 384 op (statusCode st) s }

/-- The owning entry was heard from (R515). -/
def heard (entry : Nat) (s : State) : State :=
  if s.svc.lock = some entry then { s with svc := { s.svc with lastMsg := s.elapsed } } else s

def svcIdentify (s : State) : SvcRes :=
  { status := .ok, arg := updStatus s, st := s
    payload := leBytes 4 0x7810 ++ leBytes 4 Config.deviceId ++ leBytes 4 (secLifecycle s) ++ leBytes 4 s.dev.loaderVer ++ leBytes 4 s.dev.fwVer }

/-- LOCK (R513, R514, R516). -/
def svcLock (entry : Nat) (h : List Byte) (s : State) : SvcRes :=
  let v := s.svc
  let same := decide (v.header ≠ [] ∧ hdrDigest v.header = hdrDigest h)
  let own := { s with svc := { v with lock := some entry, lastMsg := s.elapsed, upd := .receiving } }
  if !headerOk h then { status := .badParam, st := s }
  else if s.sec.lc = 3 then refuseUpd 2 .denied 0 s
  else if moving s ∨ s.pwr.bkp then refuseUpd 2 .refusedState 0 s
  else if v.upd = .trial then { status := .refusedState, st := s }
  else if v.upd = .armed then
    (if same then { status := .existing, arg := containerLen h, st := s } else { status := .busy, st := s })
  else match v.lock with
  | none =>
    if v.upd = .incomplete ∧ same then { status := .ok, arg := v.staging.length, st := own }
    else { status := .ok, st := { own with svc := { own.svc with header := h, staging := [] } } }
  | some e =>
    if e = entry then
      (if same then { status := .ok, arg := v.staging.length, st := s } else { status := .busy, st := s })
    else if same then { status := .existing, arg := v.staging.length, st := s }
    else { status := .busy, st := s }

/-- DATA (R512, R516). -/
def svcData (entry arg : Nat) (bytes : List Byte) (s : State) : SvcRes :=
  let v := s.svc
  let n := v.staging.length
  if v.lock ≠ some entry then { status := .busy, st := s }
  else if moving s ∨ s.pwr.bkp ∨ frozen s 5 then refuseUpd 3 .refusedState n s
  else if arg ≠ n ∨ containerLen v.header < arg + bytes.length then { status := .badParam, arg := n, st := s }
  else { status := .ok, arg := n + bytes.length, st := { s with svc := { v with staging := v.staging ++ bytes } } }

/-- DONE (R512, R516, R517); with REBOOT a SYSTEM reset follows the reply. -/
def svcDone (entry : Nat) (s : State) : SvcRes :=
  let v := s.svc
  if v.lock ≠ some entry then { status := .busy, st := s }
  else if moving s ∨ s.pwr.bkp then refuseUpd 4 .refusedState 0 s
  else if v.staging.length < containerLen v.header then { status := .badParam, st := s }
  else
    { status := .ok, arg := containerLen v.header
      st := recordOnly 385 (hdrVersion v.header) entry (journalPut false { s with svc := { v with upd := .armed, lock := none } }) }

def svcRelease (entry : Nat) (s : State) : SvcRes :=
  if s.svc.lock ≠ some entry then { status := .busy, st := s }
  else { status := .ok, arg := s.svc.staging.length, st := releaseLock s }

def svcDisarm (s : State) : SvcRes :=
  if s.svc.upd ≠ .armed then { status := .refusedState, st := s }
  else { status := .ok, st := journalPut false { s with svc := { s.svc with upd := .idle, header := [], staging := [] } } }

/-- The provisioning session's commit record (R451): only in BLANK, with owner slot 0, KTK and OIK supplied. -/
def svcProvision (p : Provision) (s : State) : SvcRes :=
  if s.sec.lc ≠ 0 then { status := .denied, st := s }
  else if !(p.owners.any (fun o => o.1.val == 0)) ∨ !p.owners.all (fun o => decide (o.2.length = 48)) ∨ p.ktk.length ≠ 32 ∨
      p.oik.length ≠ 32 ∨ (p.pair.any (fun k => decide (k.length ≠ 32))) then { status := .badParam, st := s }
  else
    let owners := p.owners.foldl (fun t o => tset [] t o.1.val o.2) s.sec.owners
    { status := .ok, st := lcStep 1 { s with sec := { s.sec with
        owners := owners, ktk := some p.ktk, oik := some p.oik, pairKey := p.pair
        subsysVendor := (p.subsys.map (·.1.toNat)).getD s.sec.subsysVendor, subsysId := (p.subsys.map (·.2.toNat)).getD s.sec.subsysId } } }

def svcChallenge (s : State) : SvcRes :=
  if s.sec.lc = 5 then { status := .denied, st := s }
  else { status := .ok, payload := (newChallenge s).1, st := (newChallenge s).2 }

def svcToken (entry level : Nat) (t : List Byte) (s : State) : SvcRes :=
  let r1_ := debugRequest entry level t s
  let st := r1_.1
  let s1 := r1_.2
  { status := st, st := s1 }

/-! ### Messages (R510, R511, R525) -/

def svcMessage (op : Nat) (tag : U16) (st : Status) (arg : Nat) (payload : List Byte) : List Byte :=
  leBytes 2 0x53C7 ++ leBytes 1 op ++ [0] ++ leBytes 2 tag.toNat ++ leBytes 2 (statusCode st) ++ leBytes 4 payload.length
    ++ leBytes 4 arg ++ payload

/-- A reply goes out on the USB entry, or waits for its turn in DEV_SVC_IN. -/
def svcReply (entry op : Nat) (tag : U16) (r : SvcRes) : State :=
  let m := svcMessage op tag r.status r.arg r.payload
  let s := heard entry r.st
  if entry = 0 then emit (.svc 0 m) s
  else { s with svc := { s.svc with replies := s.svc.replies ++ [m] } }

/-- The Service Port is there for an entry: the SVC domain runs, and USB is attached for its entry (R490, R494, R510). -/
def svcOpen (entry : Nat) (s : State) : Bool :=
  (s.pwr.st == .run || s.pwr.st == .trim) && !s.dev.unclocked.contains .svc && (decide (entry ≠ 0) || s.svc.usb)

/-- One operation by its entry: no message is served while the port is not there, and in RETIRED only IDENTIFY is (R449, R459). -/
def svcRun (entry op : Nat) (tag : U16) (f : State → SvcRes) (s : State) : State :=
  if !svcOpen entry s then s
  else if s.sec.lc = 5 ∧ op ≠ 1 then svcReply entry op tag { status := .denied, st := s }
  else svcReply entry op tag (f s)

/-- DONE, with the reset REBOOT asks for after the reply (R517). -/
def svcDoneRun (entry : Nat) (tag : U16) (reboot : Bool) (s : State) : State :=
  let ok := svcOpen entry s && s.sec.lc != 5 && (svcDone entry s).status == .ok
  let t := svcRun entry 4 tag (svcDone entry) s
  if reboot && ok then systemReset 4 t else t

/-! ### Configuration sets (R523) -/

def cfgGen (c : Option CfgSet) : Nat := (c.map (·.gen)).getD 0

/-- The running configuration as a set. -/
def cfgSetOf (s : State) (gen : Nat) (trial : Bool) : CfgSet :=
  { format := s.svc.cfgFormat, gen := gen, fwVer := s.dev.fwVer, trial := trial, weirEn := s.wei.en, cfg := s.cfg, gws := s.ing.gws
    headEnd := s.ing.headEnd, devKeys := s.sec.devKeys
    cal := s.flu.chans.filterMap (fun e => if e.2.user = {} then none else some (e.1, e.2.user)) }

/-- Store the running configuration (R523): in a trial the slot marked TRIAL, otherwise the one with the lower GEN. -/
def configSave (s : State) : Nat × State :=
  let v := s.svc
  let gen := max (cfgGen v.cfgA) (cfgGen v.cfgB) + 1
  let trial := v.upd == .trial
  let c := cfgSetOf s gen trial
  let toA := if trial then
      (if v.cfgA.any (·.trial) then true else if v.cfgB.any (·.trial) then false else decide (cfgGen v.cfgA ≤ cfgGen v.cfgB))
    else decide (cfgGen v.cfgA ≤ cfgGen v.cfgB)
  (gen, { s with svc := if toA then { v with cfgA := some c } else { v with cfgB := some c } })

def configSaveCmd (s : State) : CmdRes :=
  let v := s.svc
  let newest := if cfgGen v.cfgA < cfgGen v.cfgB then v.cfgB else v.cfgA
  let changed := match newest with | some c => decide (c.devKeys ≠ s.sec.devKeys) | none => false
  if s.sec.lc == 3 && changed then refuse .denied s
  else if [UpdSt.verify, .save, .copy, .confirming, .revert, .lcopy].contains v.upd then refuse .busy s
  else .ok (configSave s).2 (configSave s).1 []

/-! ### Confirmation and fallback (R520, R521) -/

/-- A health condition changed: the 300 s count anew (R520). -/
def healthTouch (s : State) : State := { s with svc := { s.svc with healthAt := s.elapsed } }

/-- The image on trial. -/
def trialImage (s : State) : Image :=
  if s.svc.trialLoader then (if s.svc.loaderUse then s.svc.loader0 else s.svc.loader1) else s.svc.running

/-- Confirmation (R520): CONFIRMING, the SVN counter burned up to the image's, CONFIRMED. -/
def confirm (s : State) : State :=
  let v := (journalPut false { s with svc := { s.svc with upd := .confirming } }).svc
  let img := trialImage s
  let clearT := fun (c : Option CfgSet) => c.map (fun x => { x with trial := false })
  let s1 := { s with
    sec := if v.trialLoader then { s.sec with svnLoader := max s.sec.svnLoader img.svn } else { s.sec with svnMain := max s.sec.svnMain img.svn }
    svc := { v with upd := .idle, last := 1, tries := 0, preferred := false, header := [], staging := [], revertReq := none
                    loaderUse := if v.trialLoader then !v.loaderUse else v.loaderUse, trialLoader := false
                    cfgA := clearT v.cfgA, cfgB := clearT v.cfgB } }
  recordOnly 389 img.version img.svn (journalPut false s1)

/-- The health conditions of R520 hold now. -/
def healthy (s : State) : Bool :=
  s.dev.ready && s.saf.latched == 0 && decide (3 ≤ ((List.range 4).filter (fun n => s.ing.run.getLsbD n)).length) &&
  s.saf.coresFrozen == 0 && !s.svc.holdConfirm

def healthConfirm (s : State) : State :=
  if s.svc.upd = .trial ∧ healthy s ∧ passed s s.svc.healthAt (300 * tickS) ∧ !passed s s.svc.readyAt (900 * tickS + 1) then confirm s
  else s

/-- A revert request is journalled and a SYSTEM reset follows (R521); `cause` is its LAST code. -/
def requestRevert (cause : Nat) (s : State) : State :=
  systemReset 4 (journalPut false { s with svc := { s.svc with revertReq := some cause } })

/-- 60 s without a message of the owner (R515). -/
def lockIdle (s : State) : State :=
  if s.svc.lock.isSome ∧ passed s s.svc.lastMsg (60 * tickS) then releaseLock s else s

/-- USB detach or bus reset (R467, R515). -/
def usbDetach (s : State) : State :=
  let s1 := { s with svc := { s.svc with usb := false } }
  let s2 := if s1.svc.lock = some 0 then releaseLock s1 else s1
  if s2.sec.session.any (fun d => d.entry == 0) then endDebug 1 s2 else s2

/-! ### Meanings -/

def execIdentify (entry : Fin 2) (tag : U16) (s : State) : Res := .next (svcRun entry.val 1 tag svcIdentify s)
def execLock (entry : Fin 2) (tag : U16) (header : List Byte) (s : State) : Res :=
  .next (svcRun entry.val 2 tag (svcLock entry.val header) s)
def execData (entry : Fin 2) (tag : U16) (arg : U32) (bytes : List Byte) (s : State) : Res :=
  .next (svcRun entry.val 3 tag (svcData entry.val arg.toNat bytes) s)
def execDone (entry : Fin 2) (tag : U16) (reboot : Bool) (s : State) : Res := .next (svcDoneRun entry.val tag reboot s)
def execRelease (entry : Fin 2) (tag : U16) (s : State) : Res := .next (svcRun entry.val 5 tag (svcRelease entry.val) s)
def execDisarm (entry : Fin 2) (tag : U16) (s : State) : Res := .next (svcRun entry.val 6 tag svcDisarm s)
/-- DESIGN CHOICE: log entry 19. -/
def execDebugChallenge (entry : Fin 2) (tag : U16) (s : State) : Res := .next (svcRun entry.val 0x20 tag svcChallenge s)
def execDebugToken (entry : Fin 2) (tag : U16) (level : Byte) (token : List Byte) (s : State) : Res :=
  .next (svcRun entry.val 0x21 tag (svcToken entry.val level.toNat token) s)
def execProvisioningSession (entry : Fin 2) (tag : U16) (what : Provision) (s : State) : Res :=
  .next (svcRun entry.val 0x22 tag (svcProvision what) s)
def execConfigSave (c : Ctx) (s : State) : Res := .next (command (.configSave c) true configSaveCmd s)
def execHealthConfirm (s : State) : Res := .next (healthConfirm s)
def execTrialWindowExpiry (s : State) : Res :=
  .next (if s.svc.upd = .trial ∧ passed s s.svc.readyAt (900 * tickS) then requestRevert 5 s else s)
def execTrialTimerReset (s : State) : Res :=
  .next (if s.svc.upd = .trial ∧ passed s s.svc.readyAt (960 * tickS) then systemReset 4 s else s)
def execStagingLockIdle (s : State) : Res := .next (lockIdle s)
def execUsbDetach (s : State) : Res := .next (usbDetach s)
/-- VBUS rises (R510); in DOZE and below the port is dark and its pull-up removed (R494). -/
def execUsbAttach (s : State) : Res :=
  .next (if s.pwr.st = .run ∨ s.pwr.st = .trim then { s with svc := { s.svc with usb := true } } else s)
/-- A write to DEV_UPD_REVERT (R521, R525). -/
def execDevUpdRevertWrite (value : U32) (s : State) : Res :=
  .next (regWrite .dev 0x214 (fun t => if value.toNat = 0xFA11BAC4 ∧ t.svc.upd = .trial then requestRevert 7 t else t) s)
/-- A write to DEV_UPD_HOLD (R516, R520, R525). -/
def execDevUpdHoldWrite (value : U32) (s : State) : Res :=
  .next (regWrite .dev 0x204 (fun t => healthTouch { t with svc := { t.svc with hostMoving := bit value.toNat 0, holdConfirm := bit value.toNat 1 } }) s)
/-- Any write to DEV_SVC_IN_ACK frees the window for the next reply (R525). -/
def execDevSvcInAckWrite (_value : U32) (s : State) : Res :=
  .next (regWrite .dev 0x228 (fun t => { t with svc := { t.svc with replies := t.svc.replies.tail } }) s)
/-- TILTn held low for 100 ms: MOVING stands (R516). -/
def execTiltMoving (s : State) : Res := .next { s with svc := { s.svc with tilt := true } }
def execTiltRelease (s : State) : Res := .next { s with svc := { s.svc with tilt := false } }

end Sys2Proof.Machine
end

