-- ==== Sys2Proof/Machine/Brake.lean ====
section
/-! DEFINITION. The claim bus and roles (R429–R436, R444–R448). -/

namespace Sys2Proof.Machine

/-! ### Roles (R435) -/

/-- STANDBY: the entry sequence's last steps into HUSH, Granary's flush first, the claim watcher to arm (R435, R491, R492); a trial firmware
confirms when nothing is latched (R520). -/
def toStandby (s : State) : State :=
  let s1 := setGroups 0 { s with brk := { s.brk with level := 0, next := none, hold := false, role := .standby, standbyAt := s.elapsed
                                                     current := false } }
  let f := graFlush s1
  let s2 := if f.svc.upd = .trial ∧ f.saf.latched = 0 then confirm f else f
  enterState .hush s2

/-- The groups a device in ACTIVE enables: all four, but not RAD and PLC in TRIM (R434, R491). -/
def activeGroups (s : State) : Nat := if s.pwr.st = .trim then 0xC else 0xF

/-- A level 2 or 3 debug session stands (R468). -/
def deepDebug (s : State) : Bool := s.sec.session.any (fun d => decide (2 ≤ d.level))

/-- A round is lost while restoring (R432): holding ends at the sample; R435 has no row for it, so the role stays. -/
def loseHold (winner : Nat) (s : State) : State :=
  let s1 := setGroups 0 { s with brk := { s.brk with hold := false } }
  if s.brk.hold then raise 89 winner 0 s1 else s1

/-- A round is won (R432, R435): the claim is held, and the role's groups are enabled. -/
def roundWon (s : State) : State :=
  let b := s.brk
  let role := if b.role = .contend then (if b.current then Role.active else .restoring) else b.role
  let s1 := { s with brk := { b with role := role, hold := true } }
  let s2 := setGroups (if role = .active then activeGroups s else 8) s1
  if b.hold then s2 else raise 88 (claimByte s) (if role = .active then 3 else 2) s2

/-- The role's own level from the next round on. -/
def takeLevel (s : State) : State :=
  match s.brk.next with
  | some l => { s with brk := { s.brk with level := l, next := none } }
  | none => s

/-- A claim round ends (R431, R432, R435). `peer` is the claim byte a second contender drove, 0 when there was none. -/
def roundEnd (peer : Nat) (presence : Bool) (s0 : State) : State :=
  let s := takeLevel s0
  let own := claimByte s
  let seen := { s with brk := { s.brk with roundAt := s.elapsed + 1, winner := max own peer, peer := presence, seen := s.brk.seen + 1
                                           peerAt := if presence ∧ s.brk.role = .active then s.elapsed + 1 else s.brk.peerAt
                                           peerRaised := s.brk.peerRaised && !(presence && s.brk.role == .active) } }
  let t := bump 0xB0008 1 seen
  if own ≠ 0 then
    if peer < own then roundWon t
    else
      let t1 := bump 0xB000C 1 t
      match t.brk.role with
      | .active => toStandby (dropClaim peer 0 t1)
      | .contend => toStandby t1
      | _ => loseHold peer t1
  else if peer = 0 then s0
  else match t.brk.role with
  | .listen => if deepDebug t then t else toStandby t
  | .proof =>
    if t.brk.seen < 16 then t
    else toStandby { t with brk := { t.brk with proofValid := true, proofPass := true, proofCode := 0, onProof := false } }
  | _ => t

/-- What the slots of a round do to a device with a claim byte, from bit 7 down (R431–R433): whether it loses, and the first slot it pulls
low and samples high. -/
def arbitrate (own seen : Nat) : List Nat → Bool × Option Nat
  | [] => (false, none)
  | b :: t =>
    if bit own b && !bit seen b then (false, some (8 - b))
    else if !bit own b && bit seen b then (true, none)
    else arbitrate own seen t

/-- The claim slots a contender pulls low, up to the sample at which it loses (R431, R432). -/
def drives (own seen : Nat) : List Nat → Nat
  | [] => 0
  | b :: t => if bit own b then 2 ^ (8 - b) + (if bit seen b then drives own seen t else 0)
              else if bit seen b then 0 else drives own seen t

/-- Claim bits in slot order. -/
def claimBits : List Nat := [7, 6, 5, 4, 3, 2, 1, 0]

/-- A round as the lines carry it (R431–R433): the device drives its slots, loses or wins, and a slot it pulls low but samples high is a line
fault. With equal claims on the two devices, which R430 leaves to the board, each sees its own byte and wins. DESIGN CHOICE: log entry 10. -/
def claimRound (seen : Nat) (presence : Bool) (s : State) : State :=
  let own := claimByte (takeLevel s)
  let a := arbitrate own seen claimBits
  let pulls := (decide (own ≠ 0) && a.1) || s.brk.role == .proof
  let low := (if own = 0 then 0 else 1 + drives own seen claimBits) + (if pulls then 2 ^ 9 else 0)
  let s1 := if low = 0 then s else emit (.claim low) s
  match (if own = 0 then none else a.2), pulls && !presence with
  | some k, _ => lineFault 1 k s1
  | none, true => lineFault 1 9 s1
  | none, false => roundEnd (if seen = own then 0 else seen) presence s1

/-- In DOZE and HUSH a round only feeds the claim watcher, which arms at the first (R436, R495). -/
def watchRound (peer : Nat) (s : State) : State :=
  if peer = 0 ∨ !s.pwr.wakeSrc.testBit 2 then s
  else { s with brk := { s.brk with armed := true, sawRound := true, roundAt := s.elapsed + 1 } }

/-- Both lines have been high for LISTEN_US (R431, R435). -/
def busIdle (s : State) : State :=
  let idle := s.brk.roundAt = 0 ∨ passed s (s.brk.roundAt - 1) (paramN s .brake 1 0 * tickUs)
  if !decide idle ∨ deepDebug s then s
  else match s.brk.role with
  | .listen | .proof =>
    if s.svc.boot = .none ∨ s.svc.boot = .rom ∨ s.svc.boot = .failed then s
    else
      let pr := s.brk.role == .proof
      { s with brk := { s.brk with role := .contend, level := 1, next := none, seen := 0, onProof := false, current := false
                                   proofValid := s.brk.proofValid || pr, proofPass := if pr then true else s.brk.proofPass
                                   proofCode := if pr then 0 else s.brk.proofCode } }
  | _ => s

/-- Rounds are running on the bus. -/
def roundsRun (s : State) : Bool :=
  decide (s.brk.roundAt ≠ 0) && !passed s (s.brk.roundAt - 1) (paramN s .brake 1 0 * tickUs)

/-- CLAIM_SET (R382, R429, R435). DEDUCED: log entry 85. -/
def claimSetCmd (op level : Nat) (s : State) : CmdRes :=
  if op = 0 then
    match s.brk.role with
    | .active => .ok (dropClaim 0 1 { s with brk := { s.brk with role := .idle } }) 0 []
    | .contend | .restoring => .ok (dropClaim 0 1 s) 0 []
    | _ => .ok s 0 []
  else if op = 1 then
    if s.saf.safe ∨ deepDebug s then refuse .refusedState s
    else if s.brk.role ≠ .active ∧ ((s.brk.role ≠ .idle ∧ s.brk.role ≠ .contend) ∨ roundsRun s) then refuse .refusedState s
    else if level < 2 ∨ 127 < level then refuse .badParam s
    else .ok { s with brk := { s.brk with role := if s.brk.role = .idle then .contend else s.brk.role, next := some level } } 0 []
  else refuse .badParam s

/-- ACTIVE_LEVEL applies from the next round (R446). -/
def brakeConfigAfter (ents : List CfgEntry) (_ : Tab Int) (s : State) : State :=
  if sets ents 0 ∧ s.brk.role = .active then { s with brk := { s.brk with next := some (paramN s .brake 0 0) } } else s

/-- PEER_SILENT is passed (R444). -/
def peerSilent (s : State) : State :=
  let h := paramN s .brake 4 0
  if s.brk.role = .active ∧ h ≠ 0 ∧ s.brk.peerAt ≠ 0 ∧ !s.brk.peerRaised ∧ passed s (s.brk.peerAt - 1) (h * 3600 * tickS + tickS) then
    raise 93 ((s.elapsed - (s.brk.peerAt - 1)) / tickS) 0 { s with brk := { s.brk with peerRaised := true } }
  else s

/-- Every RAD and PLC transmitter is idle. -/
def txIdle (s : State) : Bool :=
  s.van.ports.all (fun p => p.2.tx.isNone) && s.lea.ports.all (fun p => match p.2.exch with | some e => !e.open_ || decide (e.endAt ≤ s.elapsed) | none => true)

/-! ### Meanings -/

def execBrakeConfig (c : Ctx) (op : Byte) (ents : List CfgEntry) (s : State) : Res :=
  .next (command (.brakeConfig c op ents) true (configure .brake op ents (fun _ _ => none) (brakeConfigAfter ents)) s)
def execClaimSet (c : Ctx) (op level : Byte) (s : State) : Res :=
  .next (command (.claimSet c op level) true (claimSetCmd op.toNat level.toNat) s)
def execBusIdle (s : State) : Res := .next (if dark s .brk then s else busIdle s)
/-- CLAIM_ROUND_END: `seen` is the byte slots 1 to 8 carried as sampled, both lines alike, `presence` whether PRESENCE was low. -/
def execClaimRoundEnd (seen : Byte) (presence : Bool) (s : State) : Res :=
  .next (if s.pwr.st = .doze ∨ s.pwr.st = .hush then watchRound seen.toNat s
    else if dark s .brk then s
    else claimRound seen.toNat presence s)
def execClaimLineFault (cause : Fin 4) (slot : Fin 10) (s : State) : Res :=
  .next (if dark s .brk ∨ s.brk.role = .fault then s else lineFault cause.val slot.val s)
def execPeerSilent (s : State) : Res := .next (peerSilent s)
def execSafeStateClaimDrop (s : State) : Res :=
  .next (match s.saf.dropDue with
    | some (t0, _) => if txIdle s ∨ passed s t0 (8 * tickMs) then safeDrop s else s
    | none => s)

end Sys2Proof.Machine
end

