-- ==== Sys2Proof/Machine/Ledger.lean ====
section
/-! DEFINITION. The Ledger and topology groups' commands, the rebuild of entries and the sweep (R44–R83, R371–R373). -/

namespace Sys2Proof.Machine

/-! ### Binding (R45–R48, R59) -/

/-- The index an EUI-64 is mapped to (R47). -/
def revFind (s : State) (eui : Nat) : Option Nat := tget none s.led.rev eui

/-- The reverse map can place an EUI-64: it always can while the map holds fewer entries than one bucket; beyond that the
placement is the keyed hash's (log entry 5). DESIGN CHOICE: log entry 5. -/
def revFits (s : State) (eui : Nat) : Bool :=
  decide (s.led.rev.length < 4) || Config.revPlaces (s.led.rev.map (·.1)) eui

def coldSize (s : State) : Nat := if coldOn s then 64 * 2 ^ (param s .ledger 2 0).toNat else 0

/-- A LEG operand names no number beyond the level's count (R75). DEDUCED: log entry 30. -/
def legForm (leg : Nat) : Bool := decide (leg < levelCount 2 ∨ leg = noLeg)

def bindCmd (i eui kind leg : Nat) (s : State) : CmdRes :=
  let e := entry s i
  match slotOf s i with
  | none => refuse .refusedState s
  | some v =>
    if e.state ≠ .free then refuse .refusedState s
    else if (revFind s eui).any (fun j => !s.led.walking.contains j) then refuse .existing s
    else if 2 < kind ∨ (leg ≠ noLeg ∧ !legActive s leg) then refuse .badParam s
    else if s.led.walking.contains i ∨ (revFind s eui).isSome then refuse .busy s
    else if !revFits s eui then refuse .noSpace s
    else
      let gen := e.bindGen + 1
      let k256 := v.key.length == 32
      let e' : Entry := { e with state := .registered, kind := BitVec.ofNat 2 kind, key256 := k256, keyGen := 0, bindGen := gen, resync := true,
                                 baseline := true, lastSeq := 0, seqMap := 0, lastHeard := BitVec.ofNat 32 (nowS s),
                                 leg := BitVec.ofNat 18 leg, euiTag := BitVec.ofNat 16 (euiTag eui) }
      let c : Cold := { eui := eui, bindTime := nowS s % 2 ^ 48, bindGen := gen.toNat, kind := kind, key256 := k256, leg := leg }
      let s1 := putSlot i (some { v with eui := eui }) (setEntry i e' s)
      let s2 := { s1 with
        led := { s1.led with rev := tset none s1.led.rev eui (some i)
                             cold := if coldOn s then tset none s1.led.cold i (some c) else s1.led.cold }
        tai := { s1.tai with recs := tset s1.tai.blank s1.tai.recs i {} } }
      let s3 := if leg = noLeg then s2 else topoUp (joinLeg i leg s2)
      .ok s3 gen.toNat []

/-- The entry's fields an unbind clears (R59). -/
def unboundEntry (e : Entry) : Entry :=
  { e with state := .free, pend := 0, moveProp := false, phase := 0, anom := 0, leg := BitVec.ofNat 18 noLeg }

/-- Drop an index's suppression entries (R173). -/
def unsuppress (i : Nat) (s : State) : State :=
  { s with wei := { s.wei with suppress := s.wei.suppress.filter (fun x => x.1 != i) } }

/-- Everything an unbind takes away (R59, R161, R173, R277). -/
def unbindIndex (i : Nat) (s : State) : State :=
  let e := entry s i
  let eui := euiOf s i
  let s1 := if e.leg.toNat = noLeg then s else topoUp (leaveLeg i s)
  let s2 := unsuppress i (checkRemove i (withdrawIndex i s1))
  let s3 := putSlot i none (setEntry i (unboundEntry e) s2)
  { s3 with led := { s3.led with rev := tset none s3.led.rev eui none, cold := tset none s3.led.cold i none } }

def unbindCmd (i : Nat) (s : State) : CmdRes :=
  if (entry s i).state = .free then refuse .refusedState s else .ok (unbindIndex i s) 0 []

def blockCmd (i : Nat) (s : State) : CmdRes :=
  let e := entry s i
  if e.state = .free then refuse .refusedState s
  else .ok (modCold i (fun c => { c with blocked := true }) (setEntry i { e with state := .blocked } s)) 0 []

def unblockCmd (i : Nat) (s : State) : CmdRes :=
  let e := entry s i
  if e.state = .free then refuse .refusedState s
  else if e.state ≠ .blocked then .ok s 0 []
  else .ok (modCold i (fun c => { c with blocked := false })
    (setEntry i { e with state := .registered, lastHeard := BitVec.ofNat 32 (nowS s) } s)) 0 []

/-! ### Cold records (R65–R67) -/

/-- The device area (R66). -/
def coldDevice (c : Cold) : List Byte :=
  let regs := (c.lastReading.map (fun v => leBytes 4 v)).flatten.take 64
  leBytes 8 c.eui ++ leBytes 8 c.bindTime ++ leBytes 1 c.bindGen
    ++ leBytes 1 (c.kind % 4 + 4 * b2n c.key256 + 8 * (c.keyGen % 4) + 32 * b2n c.blocked) ++ zeros 2 ++ leBytes 4 c.leg ++ leBytes 4 c.seqFloor
    ++ leBytes 4 c.firstHeard ++ leBytes 4 c.nAccept ++ leBytes 4 c.nDup ++ leBytes 4 c.nReplay ++ leBytes 4 c.nAuth
    ++ leBytes 4 c.nBolter ++ leBytes 4 c.tariffVer ++ leBytes 4 c.setpointSeq ++ zeros 4 ++ regs ++ zeros (64 - regs.length)

def coldBytes (size : Nat) (c : Cold) : List Byte :=
  coldDevice c ++ (List.range (size - 128)).map (fun k => BitVec.ofNat 8 (tget 0 c.host (128 + k)))

def coldReadCmd (i : Nat) (s : State) : CmdRes :=
  if !coldOn s then refuse .refusedState s
  else match tget none s.led.cold i with
  | none => refuse .notFound s
  | some c => if (entry s i).state = .free then refuse .notFound s else .ok s 0 (coldBytes (coldSize s) c)

def coldWriteCmd (c : Ctx) (i ofs : Nat) (s : State) : CmdRes :=
  if !coldOn s then refuse .refusedState s
  else if (entry s i).state = .free then refuse .notFound s
  else if ofs < 0x80 ∨ coldSize s < ofs + c.xlen then refuse .badParam s
  else
    let host := fun (t : Tab Nat) => ((c.xin.take c.xlen).zipIdx).foldl (fun m b => tset 0 m (ofs + b.2) b.1.toNat) t
    .ok (modCold i (fun k => { k with host := host k.host }) s) 0 []

def hostPendCmd (i set : Nat) (s : State) : CmdRes :=
  let e := entry s i
  if e.state = .free then refuse .notFound s
  else if 1 < set then refuse .badParam s
  else .ok (setEntry i { e with pend := if set = 1 then setBit e.pend 3 else clrBit e.pend 3 } s) 0 []

/-- COLD_SIZE changes only while every entry is FREE (R65). -/
def ledgerRefusal (ents : List CfgEntry) (s : State) : Option Status :=
  if sets ents 2 ∧ s.led.entries.any (fun e => e.2.state != .free) then some .refusedState else none

/-! ### Topology commands (R73–R78, R373) -/

/-- A node operand names a level and a number of it (R75). DEDUCED: log entry 30. -/
def nodeForm (lvl num : Nat) : Bool := decide (num < levelCount lvl)

/-- The numbers of R75 a node command names beside its own: PARENT lies on the level above, where there is one. -/
def parentForm (lvl parent : Nat) : Bool := decide (lvl < 2 ∨ 4 < lvl ∨ parent < levelCount (lvl + 1))

def nodeActivateCmd (lvl num parent : Nat) (s : State) : CmdRes :=
  let k := nodeKey lvl num
  let p := nodeKey (lvl + 1) (if lvl = 2 then num / 3 else parent)
  if (node s k).active then refuse .existing s
  else if lvl = 2 ∧ !(node s p).active then refuse .refusedState s
  else if (lvl = 3 ∨ lvl = 4) ∧ !(node s p).active then refuse .notFound s
  else if (lvl = 5 ∧ parent ≠ 0) ∨ (lvl = 2 ∧ parent ≠ 0 ∧ parent ≠ num / 3) then refuse .badParam s
  else
    let up := if lvl = 2 then num / 3 else if lvl = 5 then 0 else parent
    let s1 := nodeChange k (fun n => { n with defined := true, active := true, parent := up }) s
    .ok (topoUp (if lvl = 5 then s1 else childUp p s1)) 0 []

/-- A metering point loses an anchor on the node, and a pending change that names it (R299). -/
def dropAnchor (lvl num : Nat) (s : State) : State :=
  let f := fun (p : FluPt) =>
    let q := if p.pendAnchor = some (some (lvl, num)) then { p with pendAnchor := none } else p
    if q.anchor = some (lvl, num) then { q with anchor := none, pendAnchor := if q.pendAnchor = some none then none else q.pendAnchor } else q
  { s with flu := { s.flu with pts := (List.range 8).foldl (fun t p => tmod {} t p f) s.flu.pts } }

def nodeDeactivateCmd (lvl num : Nat) (s : State) : CmdRes :=
  let k := nodeKey lvl num
  let n := node s k
  if !n.active then .ok s 0 []
  else if n.children ≠ 0 then refuse .refusedState s
  else
    let s1 := nodeChange k (fun n => { n with active := false, anchor := false }) s
    let s2 := match parentKey s k with | some p => childDown p s1 | none => s1
    let s3 := { s2 with led := { s2.led with moves := s2.led.moves.filter (fun m => !(m.lvl == lvl && m.num == num)) } }
    .ok (topoUp (dropAnchor lvl num s3)) 0 []

def nodeSetCmd (lvl field value num : Nat) (s : State) : CmdRes :=
  let k := nodeKey lvl num
  let most := if field = 0 then 3 else 1
  if !(node s k).active then refuse .refusedState s
  else if 2 < field ∨ (field < 2 ∧ lvl ≠ 2) ∨ most < value then refuse .badParam s
  else
    let f := fun (n : Node) => if field = 0 then { n with phaseRef := BitVec.ofNat 2 value }
      else if field = 1 then { n with invert := value == 1 } else { n with frozen := value == 1 }
    .ok (topoUp (nodeChange k f s)) 0 []

/-- Attach or move an endpoint (R76, R154). -/
def attachTo (i leg : Nat) (s : State) : State :=
  let e := entry s i
  let old := e.leg.toNat
  if old = leg then setEntry i { e with phase := 0, moveProp := false } s
  else
    let s1 := joinLeg i leg (leaveLeg i s)
    let s2 := if old = noLeg then s1 else markMoved old s1
    let s3 := if leg = noLeg then s2 else markMoved leg s2
    modCold i (fun c => { c with leg := leg })
      (topoUp (setEntry i { e with leg := BitVec.ofNat 18 leg, phase := 0, moveProp := false } s3))

def attachCmd (i leg : Nat) (s : State) : CmdRes :=
  if (entry s i).state = .free then refuse .notFound s
  else if checkHeld s i then refuse .refusedState s
  else if leg ≠ noLeg ∧ !legActive s leg then refuse .badParam s
  else .ok (attachTo i leg s) 0 []

def rejectCmd (i phase : Nat) (s : State) : CmdRes :=
  let e := entry s i
  if e.state = .free then refuse .notFound s
  else if !e.moveProp then refuse .refusedState s
  else if 3 < phase then refuse .badParam s
  else .ok (suppressAdd (i, e.leg.toNat, phase) (setEntry i { e with moveProp := false } s)) 0 []

def nodeMoveCmd (lvl num parent : Nat) (s : State) : CmdRes :=
  let k := nodeKey lvl num
  if !(node s k).active then refuse .refusedState s
  else if lvl < 5 ∧ !(node s (nodeKey (lvl + 1) parent)).active then refuse .notFound s
  else if lvl ≠ 3 ∧ lvl ≠ 4 then refuse .badParam s
  else if s.led.moves.any (fun m => m.lvl == lvl && m.num == num) then
    let l := s.led.moves.map (fun m => if m.lvl = lvl ∧ m.num = num then { m with newParent := parent } else m)
    .ok { s with led := { s.led with moves := l } } 0 []
  else if 4096 ≤ s.led.moves.length then refuse .busy s
  else
    let m : NodeMv := { lvl := lvl, num := num, newParent := parent, oldParent := (node s k).parent }
    .ok { s with led := { s.led with moves := s.led.moves ++ [m] } } 0 []

/-! ### Rebuild and sweep (R60, R62–R64, R170) -/

/-- The entry a rebuild gives from its cold record (R62). -/
def rebuiltFrom (c : Cold) (now : Nat) : Entry :=
  { state := if c.blocked then .blocked else .registered, kind := BitVec.ofNat 2 c.kind, key256 := c.key256,
    keyGen := BitVec.ofNat 2 c.keyGen, pend := 0xF, bindGen := BitVec.ofNat 8 c.bindGen, resync := true, baseline := true,
    lastSeq := BitVec.ofNat 32 c.seqFloor, lastHeard := BitVec.ofNat 32 now, leg := BitVec.ofNat 18 c.leg,
    euiTag := BitVec.ofNat 16 (euiTag c.eui) }

def rebuiltUp (s : State) : State := { s with led := { s.led with rebuilt := sat32 (s.led.rebuilt + 1) } }

/-- An uncorrectable error in an entry (R62, R64). -/
def rebuild (i : Nat) (s : State) : State :=
  let s0 := rebuiltUp { s with led := { s.led with poisoned := s.led.poisoned.filter (fun x => x != i) } }
  match tget none s.led.cold i with
  | some c =>
    raise 5 i 0 (setEntry i (rebuiltFrom c (nowS s)) s0)
  | none =>
    let s1 := unsuppress i (checkRemove i (withdrawIndex i s0))
    let s2 := putSlot i none (setEntry i {} (if (entry s i).leg.toNat = noLeg then s1 else topoUp s1))
    let walk := if s2.led.walking.contains i then s2.led.walking else i :: s2.led.walking
    raise 5 i 1 { s2 with led := { s2.led with walking := walk } }

/-- The walks of R64 end: reverse-map slots that name the index go, and Leat slots that name it are freed, each with a
RELEASE due. -/
def rebuildClean (i : Nat) (s : State) : State :=
  if !s.led.walking.contains i then s
  else
    let eui := (((s.led.rev.filter (fun e => e.2 == some i)).map (·.1)).head?).getD 0
    let free := fun (q : LPort) =>
      let mine := (q.slots.filter (fun e => e.2.idx == i && e.2.st != .free)).map (·.1)
      let slots := mine.foldl (fun t n => tset {} t n {}) q.slots
      { q with slots := slots, releases := q.releases ++ mine.map (fun n => (n, eui)) }
    { s with
      led := { s.led with walking := s.led.walking.filter (fun x => x != i)
                          rev := s.led.rev.filter (fun e => e.2 != some i) }
      lea := { s.lea with ports := s.lea.ports.map (fun q => (q.1, free q.2)) } }

/-- Seconds since LAST_HEARD, modulo 2³². -/
def sinceHeard (s : State) (e : Entry) : Nat := (nowS s + 2 ^ 32 - e.lastHeard.toNat) % 2 ^ 32

/-- The sweep reaches one entry: SEQ_FLOOR is written back, and a silent endpoint becomes ABSENT (R60, R63). -/
def sweepEntry (i : Nat) (s : State) : State :=
  let e := entry s i
  let s1 := modCold i (fun c => { c with seqFloor := e.lastSeq.toNat }) s
  if (e.state = .registered ∨ e.state = .present) ∧ paramN s .ledger 0 0 ≤ sinceHeard s e then
    raise 3 i 0 (setEntry i { e with state := .absent } s1)
  else s1

/-- Endpoints attached to a leg, and those of them at or above ANOM_THR. DEDUCED: log entry 33. -/
def legCount (s : State) (leg : Nat) (p : Entry → Bool) : Nat :=
  (s.led.entries.filter (fun e => e.2.state != .free && e.2.leg.toNat == leg && p e.2)).length

/-- The sweep's exact recount of an active leg's CHILDREN and SUSP (R64, R170). -/
def recountLeg (k : Nat) (s : State) : State :=
  let leg := keyNum k
  let n := legCount s leg (fun _ => true)
  let w := wnode s k
  let s1 := setWnode k { w with susp := min 7 (legCount s leg (fun e => decide (anomThr s ≤ anomScore e))) } s
  if (node s k).children = n then s1 else topoUp (nodeChange k (fun h => { h with children := n }) s1)

/-- The 10 s scrub and absence sweep (R60, R63, R64, R170). -/
def sweepAll (s : State) : State :=
  if !passed s s.led.sweepAt (10 * tickS) then s
  else
    let live := (s.led.entries.filter (fun e => e.2.state != .free)).map (·.1)
    let s1 := live.foldl (fun t i => sweepEntry i t) s
    let live2 := (s1.led.nodes.filter (fun e => keyLvl e.1 == 2 && e.2.active)).map (·.1)
    let left := (s1.wei.nodes.filter (fun e => keyLvl e.1 == 2 && e.2.susp != 0 && !live2.contains e.1)).map (·.1)
    let legs := live2 ++ left
    let s2 := legs.foldl (fun t k => recountLeg k t) s1
    { s2 with led := { s2.led with sweep := s2.led.sweep + 1, sweepAt := s.elapsed } }

/-! ### Meanings -/

def execBind (c : Ctx) (idx : Idx) (eui : Eui) (kind : Byte) (leg : U32) (s : State) : Res :=
  .next (command (.bind c idx eui kind leg) (legForm leg.toNat) (bindCmd idx.toNat eui.toNat kind.toNat leg.toNat) s)
def execUnbind (c : Ctx) (idx : Idx) (s : State) : Res := .next (command (.unbind c idx) true (unbindCmd idx.toNat) s)
def execBlock (c : Ctx) (idx : Idx) (s : State) : Res := .next (command (.block c idx) true (blockCmd idx.toNat) s)
def execUnblock (c : Ctx) (idx : Idx) (s : State) : Res := .next (command (.unblock c idx) true (unblockCmd idx.toNat) s)
def execColdRead (c : Ctx) (idx : Idx) (s : State) : Res :=
  .next (command (.coldRead c idx) (!coldOn s || decide (c.xlen = coldSize s)) (coldReadCmd idx.toNat) s)
def execColdWrite (c : Ctx) (idx : Idx) (ofs : U32) (s : State) : Res :=
  .next (command (.coldWrite c idx ofs) true (coldWriteCmd c idx.toNat ofs.toNat) s)
def execLedgerConfig (c : Ctx) (op : Byte) (ents : List CfgEntry) (s : State) : Res :=
  .next (command (.ledgerConfig c op ents) true (configure .ledger op ents ledgerRefusal (fun _ t => t)) s)
def execHostPend (c : Ctx) (idx : Idx) (set : Byte) (s : State) : Res :=
  .next (command (.hostPend c idx set) true (hostPendCmd idx.toNat set.toNat) s)
def execNodeActivate (c : Ctx) (lvl : Byte) (num parent : U32) (s : State) : Res :=
  .next (command (.nodeActivate c lvl num parent) (nodeForm lvl.toNat num.toNat && parentForm lvl.toNat parent.toNat)
    (nodeActivateCmd lvl.toNat num.toNat parent.toNat) s)
def execNodeDeactivate (c : Ctx) (lvl : Byte) (num : U32) (s : State) : Res :=
  .next (command (.nodeDeactivate c lvl num) (nodeForm lvl.toNat num.toNat) (nodeDeactivateCmd lvl.toNat num.toNat) s)
def execNodeSet (c : Ctx) (lvl field value : Byte) (num : U32) (s : State) : Res :=
  .next (command (.nodeSet c lvl field value num) (nodeForm lvl.toNat num.toNat) (nodeSetCmd lvl.toNat field.toNat value.toNat num.toNat) s)
def execAttach (c : Ctx) (idx : Idx) (leg : U32) (s : State) : Res :=
  .next (command (.attach c idx leg) (legForm leg.toNat) (attachCmd idx.toNat leg.toNat) s)
def execRejectProposal (c : Ctx) (idx : Idx) (phase : Byte) (s : State) : Res :=
  .next (command (.rejectProposal c idx phase) true (rejectCmd idx.toNat phase.toNat) s)
def execNodeMove (c : Ctx) (lvl : Byte) (num parent : U32) (s : State) : Res :=
  .next (command (.nodeMove c lvl num parent) (nodeForm lvl.toNat num.toNat && parentForm lvl.toNat parent.toNat)
    (nodeMoveCmd lvl.toNat num.toNat parent.toNat) s)
def execEntryRebuild (idx : Idx) (s : State) : Res := .next (if dark s .ldg then s else rebuild idx.toNat s)
def execRebuildFreeCleanup (idx : Idx) (s : State) : Res := .next (rebuildClean idx.toNat s)

end Sys2Proof.Machine
end

