-- ==== Sys2Proof/Machine/Weir.lean ====
section
/-! DEFINITION. The Weir: attribution, accumulation, the interval machine, the close, scoring, verdicts, voltage-correlation
tests (R139–R179, R374). -/

namespace Sys2Proof.Machine

/-! ### Attribution (R140–R143) -/

/-- The interval an endpoint last contributed to (R142): nearest to, not after, the interval of the receive time; where INT_TAG names none that
is not negative, it is unknown. DESIGN CHOICE: log entry 141. -/
def prevInterval (s : State) (e : Entry) (rxMs since : Nat) : Option Nat :=
  let r := intervalMs s rxMs
  let back := (r + 256 - e.intTag.toNat % 256) % 256
  if 128 * intLen s ≤ since ∨ r < back then none else some (r - back)

/-- The parts of a delta (R143), as interval and energy, oldest first. -/
def attributeDelta (s : State) (tMs : Nat) (t0Ms : Int) (p : Option Nat) (d : Int) : List (Nat × Int) :=
  let n := intervalMs s tMs
  let len : Int := intLen s * 1000
  let backwards := match p with | some q => decide (n ≤ q) | none => false
  if backwards then [(p.getD 0, d)]
  else
    let a : Int := max 0 (match p with | some q => max t0Ms (q * len) | none => t0Ms)
    if (tMs : Int) ≤ a then [(n, d)]
    else
      let first := (a / len).toNat
      let one := fun (k : Nat) => (d * (min ((k + 1) * len) tMs - max (k * len) a)).tdiv (tMs - a)
      let parts := ((List.range (n - first)).map (fun j => (first + j, one (first + j))))
      parts ++ [(n, d - (parts.map (·.2)).sum)]

/-- INT_TAG after a delta (R143). -/
def nextTag (s : State) (tMs : Nat) (p : Option Nat) : Nat := max (intervalMs s tMs) (p.getD 0) % 256

/-- ANOM after a delta-producing reading (R169): tamper flag, parts, whether it is a first contribution, whether its newest
part falls in the interval INT_TAG names. The increases come before the decrease, each with its stop. DESIGN CHOICE: log entry 107. -/
def anomReading (i : Nat) (tamper split first sameIv : Bool) (s : State) : State :=
  let e := entry s i
  let c := anomCause e
  let r1_ := if split then (min 31 (anomScore e + 1), 3) else (anomScore e, c)
  let s1 := r1_.1
  let c1 := r1_.2
  let r2_ := if tamper then (if c = 1 ∧ sameIv then s1 else min 31 (s1 + 8), 1) else (s1, c1)
  let s2 := r2_.1
  let c2 := r2_.2
  let s3 := if first ∧ !tamper then s2 - 1 else s2
  if s3 = anomScore e ∧ c2 = c then s else setAnom i s3 c2 s

/-- Leat evidence on a delta-producing reading (R172). -/
def phaseEvidence (i : Nat) (s : State) : State :=
  let e := entry s i
  let leg := e.leg.toNat
  let ph := classPhase e.phase.toNat
  let ref := (node s (nodeKey 2 leg)).phaseRef.toNat
  if leg = noLeg ∨ ph = 0 ∨ ref = 0 ∨ ph = ref ∨ e.moveProp ∨ suppressed s i ph then s
  else
    let dst := siblingWith s leg ph
    propose i dst (weirReport (reportBytes s i leg dst 0 0 e.phase.toNat 0 0 0) s)

/-! ### Voltage samples (R174, R175) -/

/-- A voltage sample of an endpoint, at a Fantail second. -/
def sampleVoltage (i sec : Nat) (mv : Int) (s : State) : State :=
  let f := fun (t : AffTest) =>
    let own := if t.idx = i then t.own ++ [(sec, mv)] else t.own
    let new := t.cands.zipIdx.filterMap (fun c => if !t.feeder && c.1.refs.contains i then some (c.2, i, sec, mv) else none)
    { t with own := own, refs := t.refs ++ new }
  { s with wei := { s.wei with tests := s.wei.tests.map f } }

/-- The anchor above an endpoint: that of its feeder, or of its station where the feeder has none. -/
def anchorAbove (s : State) (i : Nat) : Option Nat :=
  let leg := (entry s i).leg.toNat
  if leg = noLeg then none
  else
    let f := nodeKey 4 (parentNum s (nodeKey 3 (leg / 3)))
    let st := nodeKey 5 (parentNum s f)
    if (node s f).anchor then some f else if (node s st).anchor then some st else none

/-- Flume's one-second phase voltages at an anchored node reach the FEEDER tests that use it. -/
def sampleFeeder (k sec : Nat) (mv : List (Nat × Int)) (s : State) : State :=
  let f := fun (t : AffTest) =>
    if t.feeder ∧ anchorAbove s t.idx = some k then
      let new := t.cands.zipIdx.filterMap (fun c => (mv.find? (fun v => v.1 == c.1.key)).map (fun v => (c.2, 0, sec, v.2)))
      { t with refs := t.refs ++ new }
    else t
  { s with wei := { s.wei with tests := s.wei.tests.map f } }

/-- The reference value of a candidate at a second, times 12 so that a mean of up to four is whole; every sample of that second counts alike, an
endpoint's several samples too. DEDUCED: log entry 45. -/
def refAt (t : AffTest) (c sec : Nat) : Option Int :=
  let l := t.refs.filter (fun r => r.1 == c && r.2.2.1 == sec)
  if l = [] then none else some ((l.map (fun r => r.2.2.2)).sum * 12 / l.length)

/-- The pairs of a test (R175): d and each candidate's e; pairs that miss a reference value are skipped. DEDUCED: log entry 45. -/
def affPairs (t : AffTest) : List (Int × List Int) :=
  (t.own.zip (t.own.drop 1)).filterMap (fun p =>
    let r3_ := p
    let a := r3_.1
    let b := r3_.2
    if b.1 < a.1 ∨ a.1 + 4 < b.1 then none
    else
      let es := (List.range t.cands.length).map (fun c => match refAt t c a.1, refAt t c b.1 with
        | some x, some y => some (y - x) | _, _ => none)
      if es.all (·.isSome) then some (b.2 - a.2, es.map (·.getD 0)) else none)

/-- ρ in Q1.15, quantised toward zero (R175). -/
def rhoOf (ps : List (Int × List Int)) (c : Nat) : Int :=
  let e := fun (p : Int × List Int) => p.2.getD c 0
  let num := (ps.map (fun p => p.1 * e p)).sum
  let dd := (ps.map (fun p => p.1 * p.1)).sum
  let ee := (ps.map (fun p => e p * e p)).sum
  if dd = 0 ∨ ee = 0 then 0
  else
    let m : Int := min 32767 (Nat.sqrt ((num * num * 2 ^ 30) / (dd * ee)).toNat)
    if num < 0 then -m else m

/-- The best candidate, and the best value but one. -/
def bestTwo (l : List Int) : Nat × Int × Int :=
  let best := l.foldl max (-32768)
  let pos := (l.findIdx? (fun x => x == best)).getD 0
  (pos, best, (ldel l pos).foldl max (-32768))

/-- Free test slots. -/
def freeTests (s : State) : Nat := 256 - s.wei.tests.length

/-- The survey fills free slots (R174). DEDUCED: log entry 46. -/
def surveyFill (s : State) : State :=
  if frz s 10 0 = 0 ∨ dark s .wei then s
  else
    let ok := s.led.entries.filter (fun x => x.2.state == .present && x.2.leg.toNat != noLeg && !x.2.moveProp &&
      (x.2.path.toNat == 1 || x.2.path.toNat == 3) && !s.wei.tests.any (fun t => t.idx == x.1))
    let order := (ok.filter (fun x => decide (s.wei.survey ≤ x.1))) ++ (ok.filter (fun x => decide (x.1 < s.wei.survey)))
    let take := (order.take (freeTests s)).map (·.1)
    let mk := fun (i : Nat) => ({ idx := i, feeder := true, commanded := false, startS := nowS s,
                                  cands := [{ key := 1 }, { key := 2 }, { key := 3 }] } : AffTest)
    { s with wei := { s.wei with tests := s.wei.tests ++ take.map mk, survey := match take.getLast? with | some i => i + 1 | none => s.wei.survey } }

/-- Judge a test (R175): RESULT, the target, the phase or position, the pairs, ρ1 and ρ2. -/
def judge (t : AffTest) (s : State) : Nat × Nat × Nat × Nat × Int × Int :=
  let ps := affPairs t
  let n := ps.length
  let leg := (entry s t.idx).leg.toNat
  if t.feeder ∧ (anchorAbove s t.idx).isNone then (4, noLeg, 0, n, 0, 0)
  else if 2 * n < frz s 8 0 then (3, noLeg, 0, n, 0, 0)
  else
    let r4_ := bestTwo ((List.range t.cands.length).map (rhoOf ps))
    let pos := r4_.1
    let r1 := r4_.2.1
    let r2 := r4_.2.2
    let key := ((t.cands[pos]?).map (·.key)).getD 0
    let ph := if t.feeder then key else pos
    if r1 < frz s 9 0 ∨ r1 - r2 < frz s 9 1 then (2, noLeg, ph, n, r1, r2)
    else if t.feeder then
      if key = (node s (nodeKey 2 leg)).phaseRef.toNat then (1, noLeg, ph, n, r1, r2) else (0, siblingWith s leg key, ph, n, r1, r2)
    else if key = leg then (1, noLeg, ph, n, r1, r2) else (0, key, ph, n, r1, r2)

def q15 (v : Int) : Nat := (v % 65536).toNat

/-- A test ends: its report, its proposal, its event; the survey fills the slot (R174–R176). What PHASE, RHO1 and RHO2 hold in a
result that was not judged is open. A commanded test that proposes queues one record, result and proposal in one.
DESIGN CHOICE: log entry 109. -/
def testEnd (t : AffTest) (s0 : State) : State :=
  let s := { s0 with wei := { s0.wei with tests := s0.wei.tests.erase t } }
  let r5_ := judge t s
  let res := r5_.1
  let dst := r5_.2.1
  let ph := r5_.2.2.1
  let n := r5_.2.2.2.1
  let r1 := r5_.2.2.2.2.1
  let r2 := r5_.2.2.2.2.2
  let i := t.idx
  let leg := (entry s i).leg.toNat
  let ev := if t.feeder then ph else (node s (nodeKey 2 dst)).phaseRef.toNat
  let prop := decide (res = 0) && !(entry s i).moveProp && !suppressed s i ev
  let r6_ := if 3 ≤ res then drawFree 40 s else (0, s)
  let f := r6_.1
  let s1 := r6_.2
  let b := reportBytes s1 i leg (if res = 0 then dst else noLeg) (if t.feeder then 1 else 2) res (ph + f % 256) n
    (q15 r1 + f / 256 % 65536) (q15 r2 + f / 2 ^ 24 % 65536)
  let s2 := if t.commanded || prop then weirReport b s1 else s1
  let s3 := if prop then propose i dst s2 else s2
  surveyFill (raise 22 i res s3)

/-- The test is complete: AFF_N pairs, or 2 × AFF_N seconds (R175). -/
def testDue (s : State) (t : AffTest) : Bool :=
  decide (frz s 8 0 ≤ (affPairs t).length) || decide (t.startS + 2 * frz s 8 0 ≤ nowS s)

def affinityEnd (i : Nat) (s : State) : State :=
  match s.wei.tests.find? (fun t => t.idx == i && testDue s t) with
  | some t => testEnd t s
  | none => s

def wordsAt (b : List Byte) (ofs n : Nat) : List Nat := (List.range n).map (fun k => ofLe (slice b (ofs + 4 * k) 4))

def affinityTestCmd (c : Ctx) (mode n ncand : Nat) (s : State) : CmdRes :=
  let l := wordsAt c.xin 0 n
  let cands : List Cand := if mode = 0 then [{ key := 1 }, { key := 2 }, { key := 3 }]
    else (List.range ncand).map (fun k =>
      let refs := (wordsAt c.xin (4 * n + 20 * k + 4) 4).filter (fun r => r != 0xFFFFFFFF)
      { key := ofLe (slice c.xin (4 * n + 20 * k) 4), refs := refs })
  if l.any (fun i => decide (i < 2 ^ 20) && (entry s i).state == .free) then refuse .notFound s
  else if n = 0 ∨ 256 < n ∨ 1 < mode ∨ !l.all (fun i => decide (i < 2 ^ 20)) ∨ (mode = 0 ∧ ncand ≠ 0) ∨
      (mode = 1 ∧ (ncand < 2 ∨ 6 < ncand ∨ !cands.all (fun k => legActive s k.key))) then refuse .badParam s
  else if freeTests s < n then refuse .busy s
  else
    let mk := fun (i : Nat) => ({ idx := i, feeder := mode == 0, commanded := true, cands := cands, startS := nowS s } : AffTest)
    .ok { s with wei := { s.wei with tests := s.wei.tests ++ l.map mk } } n []

/-- A commanded test that is emptied reports RESULT 5 (R374); its PHASE, PAIRS and ρ are open. -/
def abortReport (t : AffTest) (s : State) : State :=
  if !t.commanded then s
  else
    let r7_ := drawFree 56 s
    let f := r7_.1
    let s1 := r7_.2
    weirReport (reportBytes s1 t.idx (entry s1 t.idx).leg.toNat noLeg (if t.feeder then 1 else 2) 5 (f % 256) (f / 2 ^ 8 % 65536)
      (f / 2 ^ 24 % 65536) (f / 2 ^ 40 % 65536)) s1

/-- DEDUCED: log entry 46. -/
def affinityAbortCmd (c : Ctx) (all n : Nat) (s : State) : CmdRes :=
  let l := wordsAt c.xin 0 n
  if 1 < all ∨ (all = 0 ∧ !l.all (fun w => decide (w < 2 ^ 20))) then refuse .badParam s
  else
    let hit := fun (t : AffTest) => all == 1 || l.contains t.idx
    let s1 := (s.wei.tests.filter hit).foldl (fun u t => abortReport t u) s
    .ok (surveyFill { s1 with wei := { s1.wei with tests := s1.wei.tests.filter (fun t => !hit t) } }) 0 []

/-! ### Accumulation (R145–R154) -/

def evenBank (n : Nat) : Bool := n % 2 == 0
def bankOf (n : Nat) (w : WNode) : WBank := if evenBank n then w.bankA else w.bankB
def setBank (n : Nat) (b : WBank) (w : WNode) : WNode := if evenBank n then { w with bankA := b } else { w with bankB := b }

/-- A 32-bit NET addition (R150): the sum, and whether it stopped. -/
def satAdd (a d : Int) : Int × Bool :=
  let v := a + d
  if 0x7FFFFFFF < v then (0x7FFFFFFF, true) else if v < -0x80000000 then (-0x80000000, true) else (v, false)

/-- Add a part at one node of its path; a 32-bit field that stops marks the leg's bank, counts and raises (R150). -/
def addAt (n leg k : Nat) (p : Part) (s : State) : State :=
  let w := wnode s k
  let b := bankOf n w
  let lvl := keyLvl k
  let r8_ := if lvl ≤ 3 then satAdd b.net p.net else (b.net + p.net, false)
  let v := r8_.1
  let sat := r8_.2
  let b' := if lvl = 2 then { b with net := v, rep := b.rep + b2n p.reporter, est := b.est || p.est, outage := b.outage || p.outage }
    else { b with net := v }
  let s1 := setWnode k (setBank n b' w) s
  if sat then
    let lw := wnode s1 (nodeKey 2 leg)
    raise 24 k 0 (bump 0x5004C 1 (setWnode (nodeKey 2 leg) (setBank n { bankOf n lw with sat := true } lw) s1))
  else s1

/-- The four nodes of a part's path, under a parent function. -/
def pathOf (leg : Nat) (par : Nat → Nat) : List Nat :=
  let t := nodeKey 3 (leg / 3)
  let f := nodeKey 4 (par t)
  [nodeKey 2 leg, t, f, nodeKey 5 (par f)]

/-- Add a check meter's part to its bank (R161). -/
def addCheck (n i : Nat) (p : Part) (s : State) : State :=
  let add := fun (b : WBank) => { b with got := true, net := b.net + p.net, rep := b.rep + b2n p.reporter, est := b.est || p.est, outage := b.outage || p.outage }
  let f := fun (c : CheckM) => if c.idx ≠ i then c else if evenBank n then { c with bankA := add c.bankA } else { c with bankB := add c.bankB }
  { s with wei := { s.wei with checks := s.wei.checks.map f } }

def addBank (n : Nat) (par : Nat → Nat) (p : Part) (s : State) : State :=
  if p.leg = noLeg then addCheck n p.idx p s
  else (pathOf p.leg par).foldl (fun t k => addAt n p.leg k p t) s

/-- The PARENT column of a slot (R158). -/
def slotParent (sl : Slot) (k : Nat) : Nat := if keyLvl k = 2 then keyNum k / 3 else if keyLvl k = 5 then 0 else tget 0 sl.parents k

def slotOfIv (s : State) (n : Nat) : Option Slot := s.wei.slots.find? (fun x => x.interval == n)
def putSlotIv (sl : Slot) (s : State) : State :=
  { s with wei := { s.wei with slots := s.wei.slots.map (fun x => if x.interval = sl.interval then sl else x) } }

/-- A node and the nodes above it, under a parent function. -/
def upFrom (k : Nat) (par : Nat → Nat) : List Nat :=
  if keyLvl k = 2 then pathOf (keyNum k) par else (pathOf (3 * keyNum k) par).drop (keyLvl k - 2)

/-- A late part applied to a closed slot (R153): NET, REP and flags up the slot's PARENT column, or the measurement of a check
meter's node and its flags upward; a late measurement clears the record's MEAS_BAD. The records of nodes that were not active at the close stay
zero (R158). DESIGN CHOICE: log entry 141. -/
def applyLate (p : Part) (sl : Slot) (checks : List CheckM) : Slot :=
  let put := fun (f : SRec → SRec) (t : Tab SRec) (k : Nat) => tmod {} t k (fun r => if r.active then f r else r)
  let flags := fun (r : SRec) => { r with est := r.est || p.est, outage := r.outage || p.outage }
  let up := fun (r : SRec) => { flags r with net := r.net + p.net, rep := r.rep + b2n p.reporter }
  let recs := if p.leg = noLeg then
      (match checks.find? (fun c => c.idx == p.idx && checkIn sl.interval c) with
       | none => sl.recs
       | some c =>
         let k := nodeKey c.lvl c.num
         put (fun r => { r with meas := r.meas + p.net, measBad := false }) ((upFrom k (slotParent sl)).foldl (put flags) sl.recs) k)
    else (pathOf p.leg (slotParent sl)).foldl (put up) sl.recs
  { sl with recs := recs, parts := sat32 (sl.parts + 1), lateParts := sat32 (sl.lateParts + 1), dirty := true, lateEnergy := sl.lateEnergy + p.net.natAbs }

/-- A part that no interval takes any more (R153). -/
def stalePart (p : Part) (s : State) : State :=
  let s1 := bump 0x50028 p.net.natAbs (bump 0x50024 1 s)
  raise 25 (p.interval % 2 ^ 32) (toU32 p.net) { s1 with wei := { s1.wei with openStale := s1.wei.openStale + p.net } }

/-- One part reaches exactly one place (R146, R152, R153). WEI_UNATT counts each part discarded. DESIGN CHOICE: log entry 105. -/
def accumulate (p : Part) (s : State) : State :=
  match s.wei.openIv with
  | none => bump 0x50050 1 s
  | some n =>
    if p.leg = noLeg ∧ (checkAt s p.idx (min p.interval n)).isNone then bump 0x50050 1 s
    else if n ≤ p.interval then
      let s1 := if n < p.interval then bump 0x5002C 1 s else s
      addBank n (fun k => parentNum s k) p { s1 with wei := { s1.wei with openParts := sat32 (s1.wei.openParts + 1) } }
    else if s.wei.late = some p.interval then
      match slotOfIv s p.interval with
      | some sl => addBank p.interval (slotParent sl) p
          (bump 0x5001C 1 (putSlotIv { sl with parts := sat32 (sl.parts + 1), lateParts := sat32 (sl.lateParts + 1) } s))
      | none => stalePart p s
    else if s.wei.closing = some p.interval then
      let r9_ := pushKeep 6 (.part p) s
      let ok := r9_.1
      let t := r9_.2
      if ok then t else stalePart p t
    else match slotOfIv s p.interval with
      | some sl => if sl.closed then bump 0x50020 1 (putSlotIv (applyLate p sl s.wei.checks) s) else stalePart p s
      | none => stalePart p s

def accumulateNext (s : State) : State :=
  match s.wei.parts with
  | [] => s
  | p :: rest => accumulate p { s with wei := { s.wei with parts := rest } }

/-! ### The interval machine (R152, R155, R160, R161) -/

/-- Listed node moves and pending anchor changes take effect together at a boundary (R77, R299). DEDUCED: log entry 32. -/
def applyBoundary (s : State) : State :=
  let ms := s.led.moves.filter (fun m => (node s (nodeKey (m.lvl + 1) m.newParent)).active && (node s (nodeKey m.lvl m.num)).active &&
    (node s (nodeKey m.lvl m.num)).parent != m.newParent)
  let mv := fun (t : State) (m : NodeMv) =>
    let k := nodeKey m.lvl m.num
    let old := nodeKey (m.lvl + 1) (node t k).parent
    childUp (nodeKey (m.lvl + 1) m.newParent) (childDown old (nodeChange k (fun n => { n with parent := m.newParent }) t))
  let s1 := ms.foldl mv { s with led := { s.led with moves := [] } }
  let pend := s.flu.pts.filter (fun e => e.2.pendAnchor.isSome)
  let an := fun (t : State) (e : Nat × FluPt) =>
    let new := e.2.pendAnchor.getD none
    let off := match e.2.anchor with
      | some (l, n) => nodeChange (nodeKey l n) (fun h => { h with anchor := false }) t
      | none => t
    let on := match new with
      | some (l, n) => nodeChange (nodeKey l n) (fun h => { h with anchor := true }) off
      | none => off
    { on with flu := { on.flu with pts := tset {} on.flu.pts e.1 { e.2 with anchor := new, anchorPrev := e.2.anchor, pendAnchor := none } } }
  let keep := { s1 with flu := { s1.flu with pts := s1.flu.pts.map (fun e => (e.1, { e.2 with anchorPrev := e.2.anchor })) } }
  let s2 := pend.foldl an keep
  if ms = [] ∧ pend = [] then s2 else topoUp s2

/-- Open an interval, marked START or not. DEDUCED: log entry 32. -/
def openInterval (n : Nat) (start : Bool) (s : State) : State :=
  { s with wei := { s.wei with openIv := some n, openStart := start, openStep := false, openParts := 0, openStale := 0 } }

/-- Open the interval holding the present time, where the Weir is enabled and Fantail is not UNSET (R152). -/
def openNow (s : State) : State :=
  if s.wei.en ∧ s.wei.openIv.isNone ∧ s.fan.st ≠ .unset then openInterval (intervalNow s) true s else s

/-- PARENT of every node other than legs and stations, as its header stands. -/
def parentColumn (s : State) : Tab Nat :=
  (s.led.nodes.filter (fun e => (keyLvl e.1 == 3 || keyLvl e.1 == 4) && e.2.parent != 0)).map (fun e => (e.1, e.2.parent))

/-- Fantail reaches E_N (R152): N enters LATE and N + 1 opens. -/
def intervalTurn (n : Nat) (s : State) : State :=
  let w := s.wei
  let anch := (s.led.nodes.filter (fun e => e.2.anchor && e.2.active)).map (·.1)
  let s1 := applyBoundary s
  let sl : Slot := { interval := n, intLen := intLen s, start := w.openStart, timeStep := w.openStep, parts := w.openParts,
                     staleWh := w.openStale, topoGen := s1.led.topoGen.toNat, parents := parentColumn s, anchored := anch }
  let hist := paramN s .weir 2 0
  let kept := s1.wei.slots.filter (fun x => decide (n < x.interval + hist + 1))
  let gone := s1.wei.checks.filter (fun c => c.last == some n)
  let nodes := gone.foldl (fun t c => tmod {} t (nodeKey c.lvl c.num) (fun x => { x with measured := false })) s1.wei.nodes
  openInterval (n + 1) false { s1 with wei := { s1.wei with slots := kept ++ [sl], late := some n, nodes := nodes } }

/-- An interval boundary: the grid's, whether or not the Weir is enabled (R77), and the interval machine's (R152). -/
def intervalEnd (s : State) : State :=
  if halted s .wei 8 then s
  else match s.wei.openIv with
  | some n =>
    if endOf s n ≤ nowS s ∧ s.wei.late.isNone ∧ s.wei.closing.isNone then
      let t := intervalTurn n s
      { t with wei := { t.wei with grid := gridNow s } }
    else s
  | none =>
    if s.fan.st = .unset ∨ s.wei.grid = gridNow s then s
    else
      let t := applyBoundary s
      { t with wei := { t.wei with grid := gridNow s } }

/-- E_N + LATE_WIN (R152): bank N freezes, and the close reads its class table and parameters. DEDUCED: log entry 48. -/
def lateEnd (s : State) : State :=
  match s.wei.late with
  | some n =>
    if endOf s n + paramN s .weir 1 0 ≤ nowS s ∧ !halted s .wei 8 then
      { s with wei := { s.wei with late := none, closing := some n, frzClasses := s.wei.classes
                                   frzCfg := weirCfg s } }
    else s
  | none => s

/-- A forced Fantail step (R155): the intervals under way carry TIME_STEP. While no interval is open no event is raised.
DESIGN CHOICE: log entry 141. -/
def weirStep (ms : Int) (s : State) : State :=
  match s.wei.openIv with
  | none => s
  | some n =>
    let mark := fun (x : Slot) => if some x.interval = s.wei.late ∨ some x.interval = s.wei.closing then { x with timeStep := true } else x
    raise 27 (toU32 ms) (n % 2 ^ 32) { s with wei := { s.wei with openStep := true, slots := s.wei.slots.map mark } }

/-! ### The close (R162–R171) -/

def classOf (t : Tab LossClass) (s : State) (k : Nat) : LossClass := tget {} t (keyLvl k * 256 + (wnode s k).lclass)

/-- loss_own (R163). DEDUCED: log entry 49. -/
def lossOwn (c : LossClass) (net : Int) (t : Nat) : Nat :=
  let e := net.natAbs
  c.p0 * t / 3600000 + c.k1 * e / 1000000 + c.k2 * e * e * 3600 / (t * 2 ^ 48)

/-- TOL (R166). DEDUCED: log entry 49. -/
def tolOf (c : LossClass) (meas : Int) : Nat := max 1 (c.tolFix + c.tolPpm * meas.natAbs / 1000000)

/-- A check meter measures a node in an interval. -/
def checkFor (s : State) (n k : Nat) : Option CheckM :=
  s.wei.checks.find? (fun c => nodeKey c.lvl c.num == k && checkIn n c)

/-- The children of a node in a slot, among given records. -/
def kids (sl : Slot) (recs : Tab SRec) (k : Nat) : Tab SRec :=
  recs.filter (fun e => keyLvl e.1 + 1 == keyLvl k && nodeKey (keyLvl k) (slotParent sl e.1) == k)

/-- Sum of a bank's NET over a node's children, active or not (R171). -/
def childNet (s : State) (sl : Slot) (k : Nat) : Int :=
  ((s.wei.nodes.filter (fun e => keyLvl e.1 + 1 == keyLvl k && nodeKey (keyLvl k) (slotParent sl e.1) == k)).map
    (fun e => (bankOf sl.interval e.2).net)).sum

/-- The measurement of a node for the interval (R160, R161): measured, MEAS, the cause of a bad one, EST and OUTAGE. -/
def measure (s : State) (sl : Slot) (k : Nat) : Bool × Int × Option Nat × Bool × Bool :=
  let n := sl.interval
  if keyLvl k ≤ 3 then
    match checkFor s n k with
    | none => (false, 0, none, false, false)
    | some c =>
      let b := if evenBank n then c.bankA else c.bankB
      (true, b.net, if b.got then none else some 2, b.est, b.outage)
  else if !sl.anchored.contains k then (false, 0, none, false, false)
  else match s.wei.anchors.find? (fun a => a.interval == n && nodeKey a.lvl a.num == k) with
  | none => (true, 0, some 0, false, false)
  | some a => (true, a.wh, if a.plaus = 0 then none else some (a.plaus - 1), false, false)

/-- What a table holds of the legs beneath a node, or of the node itself where it is a leg, active or not (R158, R165). -/
def legsUnder {α : Type} (sl : Slot) (k : Nat) (t : Tab α) : List α :=
  (t.filter (fun e => keyLvl e.1 == 2 && (pathOf (keyNum e.1) (slotParent sl)).contains k)).map (·.2)

/-- The banks of the check-meter entries that measure a node, or one beneath it, in the slot's interval (R158, R161). -/
def checksUnder (s : State) (sl : Slot) (k : Nat) : List WBank :=
  (s.wei.checks.filter (fun c => checkIn sl.interval c && (upFrom (nodeKey c.lvl c.num) (slotParent sl)).contains k)).map
    (fun c => if evenBank sl.interval then c.bankA else c.bankB)

/-- A node's first record of the close: what the banks of the legs beneath and the measurement give (R158, R165, R171). -/
def firstRec (s : State) (sl : Slot) (k : Nat) : SRec × Option Nat × Bool :=
  let b := bankOf sl.interval (wnode s k)
  let h := node s k
  let legs := (legsUnder sl k s.wei.nodes).map (bankOf sl.interval)
  let meters := checksUnder s sl k
  let r10_ := measure s sl k
  let m := r10_.1
  let wh := r10_.2.1
  let bad := r10_.2.2.1
  let est := r10_.2.2.2.1
  let out := r10_.2.2.2.2
  let leg := keyLvl k == 2
  let sumBad := !leg && decide (childNet s sl k ≠ b.net)
  ({ active := true, measured := m, measBad := bad.isSome, meas := if m then wh else 0
     est := est || legs.any (·.est) || meters.any (·.est)
     outage := out || legs.any (·.outage) || meters.any (·.outage)
     moved := legs.any (·.moved)
     sat := sumBad || legs.any (·.sat)
     doubt := if leg then b.sat else sumBad
     frozen := h.frozen, start := sl.start, timeStep := sl.timeStep, net := b.net
     rep := (legs.map (·.rep)).sum
     eps := ((legsUnder sl k s.led.nodes).map (·.children)).sum }, bad, sumBad)

/-- Active nodes of a level. -/
def activeAt (s : State) (lvl : Nat) : List Nat := (s.led.nodes.filter (fun e => e.2.active && keyLvl e.1 == lvl)).map (·.1)

/-- Steps 2 to 5: the records of all active nodes, level by level, with the events of missing measurements and bad sums. -/
def gather (sl : Slot) (s : State) : Tab SRec × State :=
  let one := fun (acc : Tab SRec × State) (k : Nat) =>
    let r11_ := firstRec s sl k
    let r := r11_.1
    let bad := r11_.2.1
    let sumBad := r11_.2.2
    let t1 := match bad with | some c => raise 23 k c acc.2 | none => acc.2
    (tset {} acc.1 k r, if sumBad then raise 24 k 1 t1 else t1)
  [2, 3, 4, 5].foldl (fun acc lvl => (activeAt s lvl).foldl one acc) ([], s)

/-- A record with what R163–R166 compute from its NET, REP, EPS and MEAS; LOSS of the records beneath at hand. -/
def residual (s : State) (cls : Tab LossClass) (sl : Slot) (done : Tab SRec) (k : Nat) (r : SRec) : SRec :=
  let c := classOf cls s k
  let loss := lossOwn c r.net sl.intLen + ((kids sl done k).map (fun e => e.2.loss)).sum
  let resid := if r.measured then r.meas - r.net - loss else 0
  let cov := if r.eps = 0 then 200 else 200 * r.rep / r.eps
  let scored := r.measured && !r.measBad && !r.start && !r.timeStep && !r.frozen && !r.doubt && decide (frz s 5 0 ≤ cov)
  let q := clampI (8 * resid / (tolOf c r.meas : Int)) (-32) 32
  { r with loss := loss, resid := resid, cov := cov, scored := scored, pair := false, q := if scored then some q else none }

def residuals (s : State) (cls : Tab LossClass) (sl : Slot) : Tab SRec :=
  [2, 3, 4, 5].foldl (fun acc lvl => (sl.recs.filter (fun e => keyLvl e.1 == lvl)).foldl
    (fun t e => tset {} t e.1 (residual s cls sl t e.1 e.2)) acc) []

/-- Two scoreable siblings form a pair (R167). -/
def pairs2 (s : State) (cls : Tab LossClass) (sl : Slot) (a b : Nat × SRec) : Bool :=
  let ta := tolOf (classOf cls s a.1) a.2.meas
  let tb := tolOf (classOf cls s b.1) b.2.meas
  keyLvl a.1 == keyLvl b.1 && a.1 != b.1 && slotParent sl a.1 == slotParent sl b.1 && a.2.scored && b.2.scored &&
  ((decide ((ta : Int) < a.2.resid) && decide (b.2.resid < -(tb : Int))) || (decide ((tb : Int) < b.2.resid) && decide (a.2.resid < -(ta : Int)))) &&
  decide ((a.2.resid + b.2.resid).natAbs ≤ max ta tb)

/-- Insert a record in descending order of |RESID|; of equal ones the lower identity stands first. DESIGN CHOICE: log entry 106. -/
def insertResid (e : Nat × SRec) : List (Nat × SRec) → List (Nat × SRec)
  | [] => [e]
  | x :: t => if x.2.resid.natAbs < e.2.resid.natAbs then e :: x :: t else x :: insertResid e t

/-- Greedy pairing over records in descending order of |RESID|: each takes the first fitting partner after it, and is identity a of the
event. DESIGN CHOICE: log entry 106. -/
def pairUp (s : State) (cls : Tab LossClass) (sl : Slot) : List (Nat × SRec) → List Nat → List (Nat × Nat)
  | [], _ => []
  | a :: t, used =>
    if used.contains a.1 then pairUp s cls sl t used
    else match t.find? (fun b => !used.contains b.1 && pairs2 s cls sl a b) with
    | some b => (a.1, b.1) :: pairUp s cls sl t (b.1 :: used)
    | none => pairUp s cls sl t used

/-- DEDUCED: log entry 47. -/
def pairing (s : State) (cls : Tab LossClass) (sl : Slot) (recs : Tab SRec) : List (Nat × Nat) :=
  let l := (recs.filter (fun e => e.2.scored && decide (keyLvl e.1 ≤ 4))).foldl (fun acc e => insertResid e acc) []
  pairUp s cls sl l []

/-- A leg beneath a node, or the node itself, has SUSP > 0 (R168). -/
def suspBeneath (s : State) (sl : Slot) (k : Nat) : Bool :=
  s.wei.nodes.any (fun e => keyLvl e.1 == 2 && decide (0 < e.2.susp) && (pathOf (keyNum e.1) (slotParent sl)).contains k)

/-- The verdict rule (R168): new verdict and governing score. -/
def verdictOf (on off pos neg : Nat) (old : Verdict) (susp : Bool) : Verdict × Nat :=
  let label := if susp then Verdict.theftSuspect else .nodeLoss
  if on ≤ pos ∧ neg ≤ pos then (label, pos)
  else if on ≤ neg then (.nodeSurplus, neg)
  else match old with
  | .nodeLoss | .theftSuspect => if off < pos then (label, pos) else (.none, pos)
  | .nodeSurplus => if off < neg then (.nodeSurplus, neg) else (.none, neg)
  | .none => (.none, 0)

/-- Score a measured node and set its verdict (R159, R166, R168): `dp` and `dn` are what the interval adds to its scores. -/
def scoreNode (sl : Slot) (k : Nat) (dp dn : Int) (s : State) : State :=
  let w := wnode s k
  let pos := (clampI (w.scorePos + dp) 0 255).toNat
  let neg := (clampI (w.scoreNeg + dn) 0 255).toNat
  let r12_ := verdictOf (frz s 6 0) (frz s 6 1) pos neg w.verdict (suspBeneath s sl k)
  let v := r12_.1
  let g := r12_.2
  let s1 := setWnode k { w with scorePos := pos, scoreNeg := neg, verdict := v } s
  if v = w.verdict then s1 else raise 19 k (verdictCode v + 16 * verdictCode w.verdict + 256 * g) s1

/-- c of an issue for each score: q − 8 and −q − 8 for a scored interval that is not paired, else 0 (R159). -/
def cPos (r : SRec) : Int := match r.q with | some q => if r.pair then 0 else q - 8 | none => 0
def cNeg (r : SRec) : Int := match r.q with | some q => if r.pair then 0 else -q - 8 | none => 0

/-- The results a close finds in a node area and replaces: a node without a record in it carries zeros (R147–R149). -/
def emptyArea (w : WNode) : WNode := { w with resid := 0, meas := 0, loss := 0, rep := 0, eps := 0 }

/-- Results reach the node areas (R147–R149): the residual always, a feeder's or station's measures at the close. -/
def nodeArea (k : Nat) (r : SRec) (w : WNode) : WNode :=
  if keyLvl k ≤ 3 then { w with resid := sat32i r.resid }
  else { w with resid := r.resid, meas := r.meas, loss := r.loss, rep := r.rep, eps := r.eps }

/-- Issue a slot (R159, R166–R168): residuals, pairs, scores, verdicts. -/
def issue (cls : Tab LossClass) (sl : Slot) (newest : Bool) (us : Nat) (s : State) : Slot × State :=
  let recs := residuals s cls sl
  let ps := pairing s cls sl recs
  let inPair := fun (k : Nat) => ps.any (fun p => p.1 == k || p.2 == k)
  let recs1 := recs.map (fun e => if inPair e.1 then (e.1, { e.2 with pair := true }) else e)
  let new := ps.filter (fun p => !sl.pairs.any (fun o => o == p || o == (p.2, p.1)))
  let s1 := new.foldl (fun t p => raise 20 p.1 p.2 t) s
  let score := fun (t : State) (e : Nat × SRec) =>
    let old := tget {} sl.recs e.1
    let t1 := if newest then setWnode e.1 (nodeArea e.1 e.2 (wnode t e.1)) t else t
    if e.2.measured then scoreNode sl e.1 (cPos e.2 - cPos old) (cNeg e.2 - cNeg old) t1 else t1
  let s2 := recs1.foldl score s1
  let rev := if sl.closed then min 15 (sl.rev + 1) else 0
  let recs2 := recs1.map (fun e =>
    let w := wnode s2 e.1
    (e.1, { e.2 with scorePos := w.scorePos, scoreNeg := w.scoreNeg, verdict := w.verdict, rev := rev }))
  ({ sl with recs := recs2, pairs := ps, rev := rev, closed := true, closeS := nowS s, closeUs := us, dirty := false, lateEnergy := 0 }, s2)

/-- Re-issue every dirty closed slot whose late energy reaches REISSUE_MIN, in ascending interval order (R152, R159). -/
def reissueAll (us : Nat) (but : Nat) (s : State) : State :=
  let due := s.wei.slots.filter (fun x => x.closed && x.dirty && x.interval != but && decide (frz s 4 0 ≤ x.lateEnergy))
  due.foldl (fun t x =>
    let r13_ := issue t.wei.classes x false us t
    let sl := r13_.1
    let t1 := r13_.2
    let t2 := bump 0x50030 1 (putSlotIv sl t1)
    raise 18 (sl.interval % 2 ^ 32) sl.rev { t2 with wei := { t2.wei with closeMax := max t2.wei.closeMax us } }) s

/-- The parts of the close FIFO whose poison tag is set, or clear. -/
def fifoParts (poison : Bool) (s : State) : List Part :=
  (queue s 6).filterMap (fun i => match i.body with | .part p => if i.poison = poison then some p else none | _ => none)

/-- The close completes (R152, R171); a poisoned part of the close FIFO is stale (R391). DEDUCED: log entry 47. -/
def closeEnd (us again : Nat) (bad : List Nat) (s0 : State) : State :=
  match s0.wei.closing with
  | none => s0
  | some n =>
    let s := fabricBad 6 bad s0
    match slotOfIv s n with
    | none => { s with wei := { s.wei with closing := none } }
    | some sl0 =>
      let r14_ := gather sl0 s
      let recs := r14_.1
      let s1 := r14_.2
      let r15_ := issue s.wei.frzClasses { sl0 with recs := recs } true us
        { s1 with wei := { s1.wei with nodes := tmap {} emptyArea s1.wei.nodes } }
      let sl := r15_.1
      let s2 := r15_.2
      let clear := fun (w : WNode) => setBank n {} w
      let fifo := fifoParts false s2
      let sl' := fifo.foldl (fun x p => applyLate p x s2.wei.checks) sl
      let s3 := (fifoParts true s2).foldl (fun t p => stalePart p t)
        (bump 0x50020 fifo.length (queueDepthSeen 6 (setQueue 6 [] (putSlotIv sl' s2))))
      let w := s3.wei
      let clearC := fun (c : CheckM) => if evenBank n then { c with bankA := {} } else { c with bankB := {} }
      let s4 := { s3 with wei := { w with
        nodes := tmap {} clear w.nodes
        checks := (w.checks.filter (fun c => match c.last with | some l => decide (n < l) | none => true)).map clearC
        anchors := w.anchors.filter (fun a => decide (n < a.interval))
        closing := none, lastClosed := some n, closeUs := us, closeMax := max w.closeMax us, overrun := decide (40000 < us) } }
      let s5 := raise 16 (n % 2 ^ 32) us s4
      surveyFill (reissueAll again n (if 40000 < us then raise 17 (n % 2 ^ 32) us s5 else s5))

/-! ### Commands (R374) -/

/-- INT_LEN and HIST change only while the Weir is disabled (R177). -/
def weirRefusal (ents : List CfgEntry) (s : State) : Option Status :=
  if s.wei.en ∧ (sets ents 0 ∨ sets ents 2) then some .refusedState else none

/-- Flume's intervals on a changed grid: the one under way starts again, the time before counting as missing.
DESIGN CHOICE: log entry 119. -/
def fluRegrid (len : Nat) (s0 : State) : State :=
  let s := { s0 with flu := { s0.flu with interval := gridNow s0 } }
  let due := fun (n : Nat) => if (n * len) * 1000000000 < nowNs s then gridNow s else gridNow s + 1
  { s with flu := { s.flu with
    chans := s.flu.chans.map (fun e => (e.1, { e.2 with staged := e.2.staged.map (fun r => (due r.1, r.2)) }))
    pts := s.flu.pts.map (fun e => (e.1, { e.2 with
      invalid := 0, fillN := 0, apparent := 0, intP := 0, clips := 0, badFreq := false, fMin := none, fMax := 0, vMin := none, vMax := 0
      startAt := s.elapsed, startNs := nowNs s, before := samplesSoFar s })) } }

/-- A changed INT_LEN moves the grid; every other value waits for the next close (R177). -/
def weirAfter (old : Tab Int) (s : State) : State :=
  let s1 := if intLen { s with cfg := old } = intLen s then s else fluRegrid (intLen { s with cfg := old }) s
  { s1 with wei := { s1.wei with grid := if s1.wei.en then s1.wei.grid else gridNow s1 } }

def weirEnableCmd (en : Nat) (s : State) : CmdRes :=
  if 1 < en then refuse .badParam s
  else if (en = 1) = s.wei.en then .ok s 0 []
  else if en = 1 then
    if !dramFits s.cfg s then refuse .noSpace s
    else .ok (openNow { s with wei := { s.wei with en := true, grid := gridNow s } }) 0 []
  else
    let w := s.wei
    let clear := fun (x : WNode) => { x with bankA := {}, bankB := {} }
    let live := w.checks.filter (fun c => c.last.isNone)
    let gone := w.checks.filter (fun c => c.last.isSome)
    let nodes := tmap {} clear w.nodes
    let nodes' := gone.foldl (fun t c => tmod {} t (nodeKey c.lvl c.num) (fun x => { x with measured := false })) nodes
    .ok (queueDepthSeen 6 (setQueue 6 [] { s with wei := { w with
      en := false, grid := gridNow s, openIv := none, late := none, closing := none, slots := [], anchors := [], nodes := nodes'
      checks := live.map (fun c => { c with bankA := {}, bankB := {}, first := 0 }) } })) 0 []

def lossClassCmd (lvl cls : Nat) (v : LossClass) (s : State) : CmdRes :=
  if lvl < 2 ∨ 5 < lvl then refuse .badParam s
  else .ok { s with wei := { s.wei with classes := tset {} s.wei.classes (lvl * 256 + cls) v } } 0 []

def nodeClassCmd (lvl cls num : Nat) (s : State) : CmdRes :=
  let k := nodeKey lvl num
  if !(node s k).active then refuse .refusedState s else .ok (setWnode k { wnode s k with lclass := cls } s) 0 []

def checkBindCmd (i lvl num : Nat) (s : State) : CmdRes :=
  let k := nodeKey lvl num
  let e := entry s i
  if e.state = .free then refuse .notFound s
  else if e.leg.toNat ≠ noLeg ∨ !(node s k).active then refuse .refusedState s
  else if s.wei.checks.any (fun c => c.idx == i || nodeKey c.lvl c.num == k) ∨ (3 < lvl ∧ (node s k).anchor) then refuse .existing s
  else if 3 < lvl then refuse .badParam s
  else if 16384 ≤ s.wei.checks.length then refuse .noSpace s
  else
    let c : CheckM := { idx := i, lvl := lvl, num := num, first := s.wei.openIv.getD 0 }
    .ok (setWnode k { wnode s k with measured := true } { s with wei := { s.wei with checks := s.wei.checks ++ [c] } }) 0 []

def checkUnbindCmd (i : Nat) (s : State) : CmdRes :=
  if isCheck s i then .ok (checkRemove i s) 0 [] else refuse .notFound s

/-- The identity of record `r` in R72 order. -/
def recKey (r : Nat) : Nat :=
  if r < 196608 then nodeKey 2 r else if r < 262144 then nodeKey 3 (r - 196608) else if r < 266240 then nodeKey 4 (r - 262144)
  else nodeKey 5 (r - 266240)

/-- A slot's header (R157). -/
def slotHeader (x : Slot) : List Byte :=
  leBytes 8 x.interval ++ leBytes 4 x.intLen ++ leBytes 1 x.rev ++ leBytes 1 (b2n x.start + 2 * b2n x.timeStep + 4 * b2n x.closed) ++ zeros 2
    ++ leBytes 4 x.closeS ++ leBytes 4 x.closeUs ++ leBytes 4 x.parts ++ leBytes 4 x.lateParts ++ leBytes 8 (x.staleWh % 2 ^ 64).toNat
    ++ leBytes 4 x.topoGen ++ zeros 20

def le64 (v : Int) : List Byte := leBytes 8 (v % 2 ^ 64).toNat

/-- A node record of a slot (R158); of a COV beyond its eight bits the low ones. DESIGN CHOICE: log entry 108. -/
def slotRec (x : Slot) (k : Nat) : List Byte :=
  let r := tget {} x.recs k
  let id := k + 2 ^ 21 * (b2n r.measured + 2 * b2n r.scored + 4 * b2n r.est + 8 * b2n r.outage + 16 * b2n r.moved + 32 * b2n r.pair
    + 64 * b2n r.sat + 128 * b2n r.start + 256 * b2n r.timeStep + 512 * b2n r.measBad + 1024 * b2n r.frozen)
  leBytes 4 id ++ leBytes 1 r.scorePos ++ leBytes 1 r.scoreNeg ++ leBytes 1 r.cov ++ leBytes 1 (verdictCode r.verdict + 16 * r.rev)
    ++ le64 r.net ++ le64 r.meas ++ leBytes 4 (toU32 (sat32i r.resid)) ++ leBytes 4 (sat32 r.loss) ++ leBytes 4 r.rep ++ leBytes 4 r.eps
    ++ leBytes 4 (slotParent x k) ++ zeros 4

def intervalResultsCmd (n first count : Nat) (s : State) : CmdRes :=
  match slotOfIv s n with
  | none => refuse .notFound s
  | some x =>
    if !x.closed then refuse .notFound s
    else if 266496 < first + count then refuse .badParam s
    else if count = 0 then .ok s x.rev (slotHeader x ++ ((List.range 266496).map (fun r => slotRec x (recKey r))).flatten)
    else .ok s x.rev (((List.range count).map (fun r => slotRec x (recKey (first + r)))).flatten)

/-! ### Meanings -/

def execWeirConfig (c : Ctx) (op : Byte) (ents : List CfgEntry) (s : State) : Res :=
  .next (command (.weirConfig c op ents) true (configure .weir op ents weirRefusal weirAfter) s)
def execWeirEnable (c : Ctx) (en : Byte) (s : State) : Res := .next (command (.weirEnable c en) true (weirEnableCmd en.toNat) s)
def execLossClass (c : Ctx) (lvl cls : Byte) (p0 k1 k2 tolFix tolPpm : U32) (s : State) : Res :=
  .next (command (.lossClass c lvl cls p0 k1 k2 tolFix tolPpm) true (lossClassCmd lvl.toNat cls.toNat
    { p0 := p0.toNat, k1 := k1.toNat, k2 := k2.toNat, tolFix := tolFix.toNat, tolPpm := tolPpm.toNat }) s)
def execNodeClass (c : Ctx) (lvl cls : Byte) (num : U32) (s : State) : Res :=
  .next (command (.nodeClass c lvl cls num) (nodeForm lvl.toNat num.toNat) (nodeClassCmd lvl.toNat cls.toNat num.toNat) s)
def execCheckBind (c : Ctx) (idx : Idx) (lvl : Byte) (num : U32) (s : State) : Res :=
  .next (command (.checkBind c idx lvl num) (nodeForm lvl.toNat num.toNat) (checkBindCmd idx.toNat lvl.toNat num.toNat) s)
def execCheckUnbind (c : Ctx) (idx : Idx) (s : State) : Res := .next (command (.checkUnbind c idx) true (checkUnbindCmd idx.toNat) s)
def execIntervalResults (c : Ctx) (interval : U64) (first count : U32) (s : State) : Res :=
  .next (command (.intervalResults c interval first count) (decide (c.xlen = if count.toNat = 0 then 12791872 else 48 * count.toNat))
    (intervalResultsCmd interval.toNat first.toNat count.toNat) s)
def execAffinityTest (c : Ctx) (mode : Byte) (n ncand : U16) (s : State) : Res :=
  .next (command (.affinityTest c mode n ncand) (decide (c.xlen = 4 * n.toNat + 20 * ncand.toNat)) (affinityTestCmd c mode.toNat n.toNat ncand.toNat) s)
def execAffinityAbort (c : Ctx) (all : Byte) (n : U16) (s : State) : Res :=
  .next (command (.affinityAbort c all n) (decide (c.xlen = if all.toNat = 1 then 0 else 4 * n.toNat)) (affinityAbortCmd c all.toNat n.toNat) s)
def execWeirPartAccumulate (s : State) : Res := .next (if halted s .wei 8 then s else accumulateNext s)
def execIntervalEnd (s : State) : Res := .next (intervalEnd s)
def execLateWindowEnd (s : State) : Res := .next (lateEnd s)
def execCloseComplete (us again : U32) (bad : List (Fin 65536)) (s : State) : Res :=
  .next (if halted s .wei 8 then s else closeEnd us.toNat again.toNat (bad.map (·.val)) s)
def execAffinityTestEnd (idx : Idx) (s : State) : Res := .next (if halted s .wei 8 then s else affinityEnd idx.toNat s)
def execAbsenceSweep (s : State) : Res := .next (if dark s .ldg then s else surveyFill (sweepAll s))

end Sys2Proof.Machine
end

