-- ==== Sys2Proof/Machine/Flume.lean ====
section
/-! DEFINITION. Flume: channels, the decimation chain, calibration, metering points, metrology, intervals and crossings
(R282–R310, R379). -/

namespace Sys2Proof.Machine

/-! ### Channels (R284, R285, R290) -/

def roleOff (s : State) (c : Nat) : Bool := (fluCh s c).role == 0
/-- A channel's samples can count: configured, fault-free, not SETTLING (R309 CH_OK). -/
def chanOk (s : State) (c : Nat) : Bool :=
  let k := fluCh s c
  k.role != 0 && k.fault == 0 && k.settling.isNone && s.flu.settling.isNone

/-- MOD_CLK runs: the claim's FLUME group is enabled and AFE_CLK is present (R283, R31). -/
def modClk (s : State) : Bool := grp s 2 && !s.dev.unclocked.contains .afe

/-- 256 equal bits put a configured channel in fault with cause 1 (R284). -/
def modStuck (c : Nat) (bits : BitVec 256) (s : State) : State :=
  if dark s .flu ∨ !modClk s ∨ (bits ≠ 0 ∧ bits ≠ BitVec.allOnes 256) then s else chanFault c 1 s

/-- No 256 equal bits in a row (R284): the length of the run that ends at each bit, oldest first. -/
def runsShort (bits : BitVec 4096) : Bool :=
  ((List.range 4096).foldl (fun (a : Nat × Bool × Bool) n =>
    let b := bits.getLsbD n
    let run := if 0 < n ∧ b = a.2.1 then a.1 + 1 else 1
    (run, b, a.2.2 && decide (run < 256))) (0, false, true)).2.2

/-- A cause of a channel's fault is gone (R284): cause 1 by the last 4,096 bits, 1 ms of them, no 256 of which in a row are equal.
Another cause that stands is shown next; else the fault ends, and the channel settles before its samples count.
DESIGN CHOICE: log entry 116. -/
def chanRestore (c : Nat) (bits : BitVec 4096) (s0 : State) : State :=
  let k := fluCh s0 c
  let gone := match k.fault with
    | 1 => modClk s0 && passed s0 k.faultAt tickMs && runsShort bits
    | 2 => modClk s0
    | 3 => !k.calBad
    | _ => false
  if dark s0 .flu ∨ k.role = 0 ∨ !gone then s0
  else
    let s := noteFlu s0
    let k1 := if k.fault = 1 then { k with stuck := false } else k
    if k1.stuck then raise 64 c 1 (setFluCh c { k1 with fault := 1 } s)
    else if k1.calBad then raise 64 c 3 (setFluCh c { k1 with fault := 3 } s)
    else raise 65 c ((s.elapsed - k.faultAt) / tickMs) (setFluCh c { k1 with fault := 0, settling := some s.elapsed } s)

def tickP32 : Nat := 12500
/-- The settling times of W8, 3.5 ms, and of P32, 1.1 ms (R288). -/
def settleTicks : Nat := 1400000
def settleP32 : Nat := 440000

def settlingEnd (s0 : State) : State :=
  let s := noteFlu s0
  let spent := fun (t : Option Nat) => match t with | some a => passed s a settleTicks | none => false
  let s1 := if spent s.flu.settling then { s with flu := { s.flu with settling := none } } else s
  (List.range 12).foldl (fun t c => if spent (fluCh t c).settling then setFluCh c { fluCh t c with settling := none } t else t) s1

/-- The chain's registers cleared (R289); estimates, calibration and banks stay (R290). -/
def clearChain (k : FluCh) : FluCh := { k with cic := [], fir := [], c0 := none, c1 := none, ok1 := false, hb1 := [], hb2 := [] }

/-- Every defined point changed by a function that keeps its elements; a deleted one has none and stays. -/
def onPts (f : Nat → FluPt → FluPt) (l : Tab FluPt) : Tab FluPt := l.map (fun e => (e.1, if e.2.elems = [] then e.2 else f e.1 e.2))

def modPts (f : FluPt → FluPt) (s : State) : State := { s with flu := { s.flu with pts := onPts (fun _ => f) s.flu.pts } }

/-- A decimator reset at its edge, which a command's pending one joins (R289, R290, R294). The chains are clear for the first sample
after it. -/
def decReset (cause : Nat) (s0 : State) : State :=
  let s := noteFlu s0
  let why := if s.flu.resetDue.isSome then cause ||| 2 else cause
  let s1 := raise 66 why (nowStamp s) (bump 0x90018 1 s)
  let f := s1.flu
  let s2 := { s1 with flu := { f with
    settling := some s.elapsed, resetDue := none, resetIvs := intervalNow s :: f.resetIvs, live := true
    edges := f.edges ++ [{ kind := .reset, tick := s.elapsed, ns := stampNow s, toNs := 0 }] } }
  match f.fade with
  | none => s2
  | some _ => raise 67 (b2n f.bank) 0 { s2 with flu := { s2.flu with fade := none, fadeIvs := intervalNow s :: f.fadeIvs } }

def msyncRise (s : State) : State :=
  if dark s .flu ∨ !modClk s ∨ param s .flume 0 0 = 0 then s else decReset 1 s

/-- The first rising edge of MOD_CLK after the command: one of the 98 TB periods that follow; the phase of MOD_CLK is open.
DESIGN CHOICE: log entry 117. -/
def decimResetCmd (s : State) : CmdRes :=
  let r_ := drawFree 8 s
  let t := r_.2
  .ok { t with flu := { t.flu with resetDue := some (t.flu.resetDue.getD (s.elapsed + 1 + r_.1 % 98)) } } 0 []

/-- The reset edge a command asked for has come; a MOD_CLK that stands still has none. -/
def resetEdge (s : State) : State :=
  match s.flu.resetDue with
  | some t => if t ≤ s.elapsed ∧ modClk s ∧ !dark s .flu then decReset 2 s else s
  | none => s

/-! ### Metering points: start and energies (R298, R301) -/

/-- A point's accumulators start now; the time before counts as missing (R298). -/
def startPt (s : State) (p : FluPt) : FluPt :=
  { elems := p.elems, ref := p.ref, anchor := p.anchor, anchorPrev := p.anchorPrev, pendAnchor := p.pendAnchor, before := samplesSoFar s
    startAt := s.elapsed, startNs := nowNs s, plaus := p.plaus, recs := p.recs }

def usesCh (p : FluPt) (c : Nat) : Bool := p.elems.any (fun e => e.vch == c || e.ich == c)

/-- Whole Wh of an exact energy: Σ of p × 31.25 µs in units of 2⁻⁴⁶ mV·mA (R301). -/
def whUnit : Nat := 2 ^ 46 * 3600 * 10 ^ 14
def wh (x : Int) : Int := x * 3125 / (whUnit : Int)

/-! ### The chain (R286–R297) -/

/-- A 31-bit CIC word. -/
def wrap31 (v : Int) : Int := (v + 2 ^ 30) % 2 ^ 31 - 2 ^ 30

/-- One modulator bit through the integrators. -/
def integrate (x : Int) : List Int → List Int
  | [] => []
  | a :: t => let v := wrap31 (a + x); v :: integrate v t

/-- The combs: the output, and the delays. -/
def comb (x : Int) : List Int → Int × List Int
  | [] => (x, [])
  | d :: t => let r1_ := comb (wrap31 (x - d)) t; let y := r1_.1; let r := r1_.2; (y, x :: r)

/-- 64 bits through the CIC: its state and its 24-bit output, truncated (R282, R286). DEDUCED: log entry 72. -/
def cic64 (bits : List Bool) (st : List Int) : List Int × Int :=
  let st0 := if st = [] then List.replicate 10 0 else st
  let ints := bits.foldl (fun i b => integrate (if b then 1 else -1) i) (st0.take 5)
  let r2_ := comb (ints.getD 4 0) (st0.drop 5)
  let y := r2_.1
  let ds := r2_.2
  (ints ++ ds, y / 128)

/-- A bank's coefficient k of 63: symmetric about h31 (R292). -/
def coefs (b : Option (List Int)) : List Int :=
  let h := match b with | some l => l | none => (List.range 32).map Config.defaultCoef
  h ++ (h.take 31).reverse

/-- A sum of products in units of 2⁻²² LSB as a 24-bit sample: an adjacent whole number, open where it is neither nearer by the spec's
words; beyond 24 bits the sample is open (R286). DEDUCED: log entry 72. -/
def round24 (x : Int) : Int :=
  let v := x.fdiv (2 ^ 22) + (if x % 2 ^ 22 ≠ 0 ∧ Config.roundsUp x (2 ^ 22) then 1 else 0)
  if -(2 ^ 23) ≤ v ∧ v < 2 ^ 23 then v else (Config.firOver x + 2 ^ 23) % 2 ^ 24 - 2 ^ 23

def firOut (h : List Int) (x : List Int) : Int := round24 ((List.zipWith (· * ·) h x).sum)

/-- One output of a half-band from its inputs, newest first, its coefficients in units of 2⁻²² (R286). -/
def halfOut (h : Nat → Int) (x : List Int) : Int := round24 ((x.zipIdx.map (fun e => h e.2 * e.1)).sum)

/-- Nearest integer to a quotient, halves upward. DEDUCED: log entry 73. -/
def rnd (a b : Int) : Int := (2 * a + b).fdiv (2 * b)

/-- The FIR's output at a tick: the active bank's, or the mixture of a running fade (R293). -/
def firAt (g : FluSet) (tick : Nat) (x : List Int) : Int :=
  let of := fun (b : Bool) => firOut (coefs (if b then g.bankB else g.bankA)) x
  match g.fade with
  | none => of g.bank
  | some (f, t0) =>
    let n := (tick - t0 - 1) / tickP32 + 1
    if f < n then of g.bank else rnd (of (!g.bank) * ((f : Int) - n) + of g.bank * n) f

/-- The calibrated value before interpolation, and the DC estimate after it (R291, R297); estimates are kept in 2⁻²² LSB. -/
def calibrate (set k : Nat) (f u : CalRec) (dc x : Int) : Int × Int :=
  let a := rnd ((x - f.ofs) * f.gain) (2 ^ 30)
  let dc' := if set = 0 then dc + (a * 2 ^ 22 - dc).fdiv (2 ^ k) else dc
  let b := if set = 2 then a else a - rnd dc' (2 ^ 22)
  (rnd ((b - u.ofs) * u.gain) (2 ^ 30), dc')

/-- Linear interpolation at a delay in 2⁻¹⁵ sample, from the sample before, the sample and the sample after (R297). -/
def interpolate (tau : Int) (before at_ after : Option Int) : Option Int :=
  at_.map (fun c => if 0 ≤ tau then c + rnd ((before.getD c - c) * tau) (2 ^ 15) else c + rnd ((after.getD c - c) * -tau) (2 ^ 15))

def satY (y : Int) : Int := clampI y (-(2 ^ 23 - 1)) (2 ^ 23 - 1)
def clipped (y : Int) : Bool := decide (2 ^ 23 - 1 < y.natAbs)

/-! ### The grid of samples (R286, R288, R289, R307) -/

/-- A sample of the grid, at the tick it emerges; or time with none, by stamps. `after`: where the grid stands behind it; `left`: the
edges behind it. -/
structure FluItem where
  tick : Nat
  gap : Option (Nat × Nat × Bool) := none
  phase : Nat := 0
  fresh : Bool := false
  after : FluGrid
  left : Nat
  deriving DecidableEq, Repr

/-- The samples from the grid's place up to a tick. -/
def gridTo (g : FluGrid) (stop left : Nat) : List FluItem :=
  if !g.live then []
  else (List.range ((stop - g.at_) / tickP32)).map (fun n =>
    let t := g.at_ + tickP32 * (n + 1)
    { tick := t, phase := (g.phase + n) % 4, fresh := g.fresh && n == 0, left := left
      after := { at_ := t, phase := (g.phase + n + 1) % 4, fresh := false, live := true } })

/-- The samples and the times without any since the last sample formed, oldest first. -/
def timeline (now : Nat) : FluGrid → List FluEdge → List FluItem
  | g, [] => gridTo g now 0
  | g, e :: t =>
    let l := gridTo g e.tick (t.length + 1)
    let g1 := match l.getLast? with | some i => i.after | none => g
    let hole := fun (n : FluGrid) => if g.live then [] else [({ tick := e.tick, gap := some (g.ns, e.ns, true), after := n, left := t.length } : FluItem)]
    match e.kind with
    | .reset => let n : FluGrid := { at_ := e.tick, phase := 0, fresh := true, live := true }; l ++ hole n ++ timeline now n t
    | .on => let n : FluGrid := if g.live then g1 else { g1 with at_ := e.tick, live := true }; l ++ hole n ++ timeline now n t
    | .off => l ++ timeline now (if g.live then { g1 with live := false, ns := e.ns } else g1) t
    | .jump => l ++ (if g.live then [({ tick := e.tick, gap := some (e.ns, e.toNs, false), after := g1, left := t.length } : FluItem)] else [])
        ++ timeline now g1 t

/-- The settings for a sample that emerges at a tick. -/
def setAt (s : State) (t : Nat) : FluSet :=
  match s.flu.past.find? (fun p => decide (t ≤ p.until_)) with | some p => p.set | none => fluSet s

/-- The time value at a tick, ns, by the rate that held then. -/
def edgeNs (s : State) (t : Nat) : Nat :=
  let back := fun (fix at_ : Nat) (rate : Int) => (fix - (at_ - t) * 5 * ((2 : Int) ^ 40 + rate).toNat) / 2 ^ 41
  match s.flu.past.find? (fun p => decide (t ≤ p.until_)) with
  | some p => back p.fix p.until_ p.set.rate
  | none => back (nowFix s) s.elapsed s.fan.rate

/-- A P32 period, ns. -/
def p32Ns : Nat := 31250

/-- The stamp of the P32 value formed at a tick, that of the sample before (R288). -/
def stampAt (s : State) (t : Nat) : Nat := edgeNs s t - p32Ns - gdP32

/-- The stamp of the W8 sample that is formed at a tick (R288). -/
def w8At (s : State) (t : Nat) : Nat := edgeNs s t - p32Ns - gdW8

/-- The user calibration of a value by its stamp: a staged record applies to what is stamped after its boundary (R296). -/
def userAt (s : State) (k : FluCh) (q : ChSet) (stamp : Nat) : CalRec :=
  ((k.staged.filter (fun e => decide (startOf s e.1 * 1000000000 < stamp))).getLast?.map (·.2)).getD q.user

/-- Whether a sample at a tick lies beyond the settling times of a tap (R288). -/
def settled (g : FluSet) (c len t : Nat) : Bool :=
  [g.settling, (g.chans.getD c {}).settling].all (fun x => match x with | some a => decide (a + len ≤ t) | none => true)

/-! ### One channel's pass (R286, R291, R293, R297) -/

/-- What a channel gives over a run of samples: its values in SCALE × LSB at P32 (none where not valid; `raw`: valid or not), the W8
samples with tick and stamp, peak, and the ticks of the clipped values; newest first. -/
structure ChanOut where
  ch : FluCh
  prev : Nat := 0
  ys : List (Option Int) := []
  raw : List (Option Int) := []
  w8 : List (Nat × Nat × Option Int) := []
  peak : Nat := 0
  clips : List Nat := []

/-- A value enters the half-bands; the fourth of a W8 period gives a W8 sample (R286). -/
def halfBands (phase : Nat) (y : Int) (k : FluCh) : FluCh × Option Int :=
  let h1 := (y :: k.hb1).take 11
  let k1 := { k with hb1 := h1 }
  if phase % 2 = 0 then (k1, none)
  else
    let h2 := (halfOut Config.half1Coef h1 :: k.hb2).take 31
    ({ k1 with hb2 := h2 }, if phase = 3 then some (halfOut Config.half2Coef h2) else none)

/-- The DC estimate a sample starts from: one loaded since the sample before takes the tracker's place (R291). -/
def dcFrom (s : State) (c since t : Nat) (dc : Int) : Int :=
  ((s.flu.loads.filter (fun l => decide (l.2.1 = c ∧ since ≤ l.1 ∧ l.1 < t))).getLast?.map (·.2.2)).getD dc

/-- One P32 period of a channel: its 128 modulator bits, or none. It forms the value of the sample before, with the settings of that
sample. -/
def chanStep (s : State) (c : Nat) (it : FluItem) (b : Option (BitVec 128)) (o : ChanOut) : ChanOut :=
  let g := setAt s it.tick
  let q := g.chans.getD c {}
  let q1 := (setAt s (it.tick - tickP32)).chans.getD c {}
  let k0 := if it.fresh then clearChain o.ch else if it.tick = o.prev + tickP32 then o.ch else { o.ch with c0 := none, c1 := none, ok1 := false }
  let k := { k0 with dc := dcFrom s c o.prev it.tick k0.dc }
  let w8With := fun (v : Option Int) => if it.phase = 3 then (it.tick, w8At s it.tick, v) :: o.w8 else o.w8
  if q.role = 0 then { o with ch := k, prev := it.tick, ys := none :: o.ys, raw := none :: o.raw, w8 := w8With none }
  else
    let stamp := edgeNs s it.tick - gdP32
    let u := userAt s k q stamp
    let r1_ : FluCh × Option Int := match b with
      | none => (k, none)
      | some w =>
        let bs := (List.range 128).map (fun n => w.getLsbD n)
        let a := cic64 (bs.take 64) k.cic
        let z := cic64 (bs.drop 64) a.1
        let x := (z.2 :: a.2 :: k.fir).take 63
        let v := calibrate q.dcb q.dcbK q.otp u k.dc (firAt g it.tick x)
        ({ k with cic := z.1, fir := x, dc := v.2 }, some v.1)
    let ok := b.isSome && q.fault == 0 && settled g c settleP32 it.tick
    let k2 := { r1_.1 with c0 := k.c1, c1 := r1_.2, ok1 := ok }
    match interpolate (q1.otp.tau + (userAt s k q1 (stamp - p32Ns)).tau) k.c0 k.c1 r1_.2 with
    | none => { o with ch := { k2 with hist := (none :: k.hist).take 256 }, prev := it.tick, ys := none :: o.ys, raw := none :: o.raw
                       w8 := w8With none }
    | some y =>
      let v := satY y
      let sv := if q1.invert then -v else v
      let r2_ := halfBands it.phase sv k2
      let val : Int := sv * q1.scale
      let w := r2_.2.map (fun z => z * (q1.scale : Int))
      { ch := { r2_.1 with hist := (some val :: k.hist).take 256 }, prev := it.tick
        ys := (if k.ok1 then some val else none) :: o.ys, raw := some val :: o.raw
        w8 := w8With (if k.ok1 && settled g c settleTicks it.tick then w else none)
        peak := max o.peak v.natAbs, clips := if clipped y then it.tick :: o.clips else o.clips }

/-- A channel over a run of samples and their bits; its last second and more of W8 samples stay with it. -/
def chanPass (s : State) (c : Nat) (items : List FluItem) (bs : List (Option (BitVec 128))) : ChanOut :=
  let go := (items.zip (bs ++ List.replicate (items.length - bs.length) none)).foldl (fun o e => chanStep s c e.1 e.2 o)
    ({ ch := fluCh s c, prev := s.flu.grid.at_ } : ChanOut)
  { go with ch := { go.ch with w8 := (go.w8 ++ go.ch.w8).take 8448 }, ys := go.ys.reverse, raw := go.raw.reverse }

/-! ### Metrology (R300–R302) -/

/-- The voltage a quarter of a mains period before its newest value, between the two P32 samples that straddle the instant.
DESIGN CHOICE: log entry 118. -/
def quarterAgo (t : Nat) (h : List (Option Int)) : Option Int :=
  if t = 0 then none
  else match (h[t / 4 / 31250]?).join, (h[t / 4 / 31250 + 1]?).join with
    | some a, some b => some (a + rnd ((b - a) * (t / 4 % 31250 : Nat)) 31250)
    | _, _ => none

/-- p and q of an element, sample by sample (R300); `raw` and `h`: the voltage's values, valid or not, and those before, newest first. -/
def elemPower (m : Int) (t : Nat) (free : Int) :
    List (Option Int) → List (Option Int) → List (Option Int) → List (Option Int) → List (Option (Int × Int))
  | v :: vt, i :: it, r :: rt, h =>
    let h1 := (r :: h).take 256
    (match v, i with
      | some a, some b => some (m * a * b, m * b * (quarterAgo t h1).getD free)
      | _, _ => none) :: elemPower m t free vt it rt h1
  | _, _, _, _ => []

/-- Sums over the elements of a point; a sample is valid when every element's is. -/
def addPower : List (List (Option (Int × Int))) → List (Option (Int × Int))
  | [] => []
  | [l] => l
  | l :: t => List.zipWith (fun (a b : Option (Int × Int)) => match a, b with | some x, some y => some (x.1 + y.1, x.2 + y.2) | _, _ => none) l (addPower t)

/-- The mean over the last mains cycle of valid samples; open where none is known. -/
def cycleMean (t : Nat) (l : List Int) (free : Int) : Int :=
  let n := min l.length (max 1 (t / 31250))
  if t = 0 ∨ l = [] then free else (l.take n).sum / n

/-- Group delay of tap P32 and the P32 period its values wait, in whole TB periods (R287). -/
def gdTicks : Nat := 221826

/-- The like for tap W8. -/
def gdW8Ticks : Nat := 659326

/-- The value formed at a tick is stamped after a point's start (R298). -/
def afterStart (x : FluPt) (t : Nat) : Bool := decide (x.startAt + gdTicks < t)

/-- One valid sample into the energies (R301). -/
def integrateP (p q : Int) (x : FluPt) : FluPt :=
  { x with imp := x.imp + p.toNat, exp := x.exp + (-p).toNat, varh := x.varh + q, intP := x.intP + p }

/-- A run of samples that do not count (R301): the first FILL_MAX of an interval's are filled with the last cycle's mean. -/
def ptGap (t fill : Nat) (free : Int) (n : Nat) (x : FluPt) : FluPt :=
  let k := min n (fill - min fill x.fillN)
  let p := cycleMean t x.recent free
  let q := cycleMean t x.recentQ free
  { x with invalid := x.invalid + n, fillN := x.fillN + k
           imp := x.imp + p.toNat * k, exp := x.exp + (-p).toNat * k, varh := x.varh + q * k, intP := x.intP + p * k }

/-- One sample of a point (R301). -/
def ptSample (t fill : Nat) (free : Int) (b : Option (Int × Int)) (x : FluPt) : FluPt :=
  match b with
  | some (p, q) =>
    let y := integrateP p q x
    { y with recent := (p :: y.recent).take 1024, recentQ := (q :: y.recentQ).take 1024 }
  | none => ptGap t fill free 1 x

/-- Samples that would lie in a time with none, up to a limit, after a point's start, in the interval being measured, and not counted
before. -/
def gapSamples (s : State) (x : FluPt) (hi : Nat) (g : Nat × Nat × Bool) : Nat :=
  (min g.2.1 hi - max g.1 (max s.flu.doneNs (max x.startNs (startOf s s.flu.interval * 1000000000)))) / 31250

/-- A value formed at a tick is stamped after a point's start (R298) and in the interval being measured (R303). -/
def ptMine (s : State) (x : FluPt) (t : Nat) : Bool := afterStart x t && decide (startOf s s.flu.interval * 1000000000 < stampAt s t)

/-- A point over a run of samples and times with none: what is stamped after its start (R288, R298) in the interval being measured
(R303) counts. Time a forced step passed over is not filled. DESIGN CHOICE: log entry 119. -/
def ptPass (s : State) (hi : Nat) (free : Int) : List FluItem → List (Option (Int × Int)) → FluPt → FluPt
  | [], _, x => x
  | i :: t, ps, x =>
    let fill := paramN s .flume 5 0 * 32
    match i.gap with
    | some g =>
      let n := if x.startAt < i.tick then gapSamples s x hi g else 0
      ptPass s hi free t ps (if g.2.2 then ptGap s.flu.period fill free n x else { x with invalid := x.invalid + n })
    | none =>
      ptPass s hi free t (ps.drop 1) (if ptMine s x i.tick then ptSample s.flu.period fill free (ps.headD none) x else x)

/-- RMS of the valid samples of a W8 series in mV or mA (R300). DEDUCED: log entry 73. -/
def rms (w : List (Nat × Option Int)) : Nat :=
  let l := w.filterMap (·.2)
  if l = [] then 0 else Nat.sqrt ((l.map (fun y => (y * y).toNat)).sum / (l.length * 2 ^ 46))

/-- A search for zero crossings (R305): the side last left beyond the hysteresis, the last sample and its stamp, the last zero between
two samples on the way to the other side, and the crossings found, newest first: rising or falling, and the instant. -/
structure Zc where
  side : Int := 0
  last : Option (Nat × Int) := none
  zero : Nat := 0
  found : List (Bool × Nat) := []

/-- One W8 sample, with its stamp. -/
def zcStep (hyst : Int) (z : Zc) (e : Nat × Option Int) : Zc :=
  match e.2 with
  | none => { z with side := 0, last := none }
  | some y =>
    let at0 := match z.last with
      | some (t, a) => if (a < 0 ∧ 0 ≤ y) ∨ (0 ≤ a ∧ y < 0) then t + (e.1 - t) * a.natAbs / (y - a).natAbs else z.zero
      | none => z.zero
    if hyst < y then { side := 1, last := some (e.1, y), zero := at0, found := if z.side = -1 then (true, at0) :: z.found else z.found }
    else if y < -hyst then { side := -1, last := some (e.1, y), zero := at0, found := if z.side = 1 then (false, at0) :: z.found else z.found }
    else { z with last := some (e.1, y), zero := at0 }

/-- The crossings of a W8 series, newest first. -/
def crossings (hyst : Int) (w : List (Nat × Option Int)) : List (Bool × Nat) := (w.foldl (zcStep hyst) {}).found

/-- ZC_HYST for values of a given full scale (R305, R308). -/
def hystOf (s : State) (scale : Nat) : Int := scale * 2 ^ 23 * paramN s .flume 3 0 / 1000

/-- Whole cycles over the time from the first rising crossing to the last, mHz (R305); newest first. -/
def freqOf (l : List Nat) : Nat :=
  match l.head?, l.getLast? with
  | some a, some b => if b < a then (l.length - 1) * 1000000000000 / (a - b) else 0
  | _, _ => 0

/-- The frequency of a W8 series of a channel by R305's method. DEDUCED: log entry 135. -/
def freqW8 (s : State) (scale : Nat) (w : List (Nat × Option Int)) : Nat :=
  freqOf (((crossings (hystOf s scale) w).filter (fun x => x.1)).map (·.2))

/-- One step of a power series in fixed point: the sum so far, and the next term from the last. -/
def seriesStep (x2 : Int) (a : Int × Int) (d : Int) : Int × Int := (a.1 + a.2, -(a.2 * x2 / 2 ^ 60) / d)

/-- Cosine and sine of an angle of at most an eighth of a turn, in units of 2⁻⁶⁰. -/
def circle8 (x : Int) : Int × Int :=
  let x2 := x * x / 2 ^ 60
  let go := fun (t0 : Int) (k : Int) => ((List.range 12).foldl (fun a (j : Nat) => seriesStep x2 a ((2 * j + k) * (2 * j + k + 1))) (0, t0)).1
  (go (2 ^ 60) 1, go x 2)

/-- Cosine and sine, in units of 2⁻⁶⁰, of an angle in units of 10⁻¹² turn. -/
def circle (u : Nat) : Int × Int :=
  let r := u % 250000000000
  let rad := fun (v : Nat) => (v * 7244019458077122842 / 1000000000000 : Nat)
  let a := if r ≤ 125000000000 then circle8 (rad r) else (let b := circle8 (rad (250000000000 - r)); (b.2, b.1))
  match u / 250000000000 % 4 with
  | 0 => a | 1 => (-a.2, a.1) | 2 => (-a.1, -a.2) | _ => (a.2, -a.1)

/-- tan of half an angle from its tan, in units of 2⁻⁶⁰. -/
def halfTan (t : Nat) : Nat := t * 2 ^ 60 / (2 ^ 60 + Nat.sqrt (2 ^ 120 + t * t))

/-- The angle of a point of the plane to the nearest 0.01° (R300); that of the origin is open. -/
def angleOf (y x free : Int) : Int :=
  let a := x.natAbs
  let b := y.natAbs
  if a = 0 ∧ b = 0 then free % 36000 - 17999
  else
    let t := halfTan (halfTan (min a b * 2 ^ 60 / max a b))
    let t2 : Int := (t * t / 2 ^ 60 : Nat)
    let s := ((List.range 16).foldl (fun (r : Int × Int) (j : Nat) => (r.1 + r.2 / (2 * j + 1), -(r.2 * t2 / 2 ^ 60))) (0, (t : Int))).1
    let o := rnd (4 * s * 18000) 3622009729038561421
    let q := if a < b then 9000 - o else o
    let h := if x < 0 then 18000 - q else q
    if y < 0 then -h else h

/-- The angle of a W8 series' fundamental at a frequency in mHz: one bin of a DFT at the samples' stamps, 0.01° (R300); that of a
series without any is open. DEDUCED: log entry 135. -/
def tone (f : Nat) (free : Int) (w : List (Nat × Option Int)) : Int :=
  let dot := fun (g : Int × Int → Int) => (w.map (fun e => e.2.getD 0 * g (circle (f * e.1)))).sum
  angleOf (-dot (·.2)) (dot (·.1)) free

/-- An angle in (−180°, 180°]. -/
def wrapAngle (a : Int) : Int := 18000 - (18000 - a) % 36000

/-- The values of a second of one element (R300), from the sums of its powers and its W8 samples. -/
def elemLive (w8 : Nat → List (Nat × Option Int)) (f : Nat) (free : Int) (ref : List (Nat × Option Int)) (e : FluElem)
    (a : Int × Int × Nat) : FluLive :=
  let n : Int := max 1 a.2.2
  let v := w8 e.vch
  { vrms := rms v, irms := rms (w8 e.ich), p := a.1.fdiv (n * (2 ^ 46 * 10 ^ 6)), q := a.2.1.fdiv (n * (2 ^ 46 * 10 ^ 6))
    iang := wrapAngle (tone f free (w8 e.ich) - tone f free v), vang := wrapAngle (tone f free v - tone f free ref) }

def minOf (a : Option Nat) (b : Nat) : Option Nat := some (a.elim b (min b))

/-- A voltage lies at or above ZC_MIN of its channel's SCALE (R302, R306, R308). -/
def zcMin (s : State) (ch mv : Nat) : Bool := decide ((fluCh s ch).scale * paramN s .flume 4 0 ≤ mv * 1000)

/-- The powers of each element of a point over a run of samples. -/
def ptPower (s : State) (out : Nat → ChanOut) (free : Int) (x : FluPt) : List (List (Option (Int × Int))) :=
  x.elems.map (fun e => elemPower (if e.dir then -1 else 1) s.flu.period free (out e.vch).ys (out e.ich).ys (out e.vch).raw (fluCh s e.vch).hist)

/-- The element whose voltage gives a point's frequency: L1, or the first. -/
def freqElem (x : FluPt) : Option FluElem := (x.elems.find? (fun e => e.phase == 1)).or x.elems.head?

/-- A point's values of a second (R300, R302): `w8` gives a channel's W8 samples of the second, with tick and stamp. Only what is stamped
after the point's start counts. -/
def ptLive (s : State) (freq : Nat) (w8 : Nat → List (Nat × Nat × Option Int)) (free : Int) (x : FluPt) : FluPt :=
  let mine := fun (c : Nat) => ((w8 c).filter (fun e => decide (x.startAt + gdW8Ticks < e.1))).map (·.2)
  let span := match x.elems with
    | e :: _ => if (mine e.vch).length = (w8 e.vch).length then 1000000000 else (mine e.vch).length * 125000
    | [] => 0
  let ref := match x.elems with | e :: _ => mine e.vch | [] => []
  let own := fun (e : FluElem) => freqW8 s (fluCh s e.vch).scale (mine e.vch)
  let f := if x.ref then freq else (freqElem x).elim 0 own
  let live := (x.elems.zipIdx).map (fun e => elemLive mine f free ref e.1 (x.sec.getD e.2 (0, 0, 0)))
  let vs := live.map (·.vrms)
  let bad := (x.elems.zip live).any (fun e => zcMin s e.1.vch e.2.vrms && (decide (own e.1 < 45000) || decide (65000 < own e.1)))
  { x with live := live, sec := []
           apparent := x.apparent + (live.map (fun l => l.vrms * l.irms)).sum * span
           badFreq := x.badFreq || bad
           fMin := minOf x.fMin f, fMax := max x.fMax f
           vMin := vs.foldl minOf x.vMin, vMax := vs.foldl max x.vMax }

/-! ### The reference (R305, R306) -/

def refPts (s : State) : List FluPt := (s.flu.pts.filter (fun e => e.2.ref && e.2.elems != [])).map (·.2)

/-- T: the mean of the last 8 L1 rising-to-rising intervals, ns (R305). -/
def meanPeriod (l : List Nat) : Nat :=
  match l[0]?, l[8]? with
  | some a, some b => (a - b) / 8
  | _, _ => 0

/-- The frequency of a Fantail second (s − 1, s], mHz: whole L1 cycles over the time from first to last crossing (R305). -/
def secondFreq (sec : Nat) (s : State) : Nat :=
  freqOf ((tget [] s.flu.rises 1).filter (fun t => decide (sec * 1000000000 < t + 1000000000 ∧ t ≤ sec * 1000000000)))

/-- The phase reference is valid (R306). -/
def refValid (s : State) : Bool :=
  match refPts s with
  | [p] =>
    p.elems.length == 3 && [1, 2, 3].all (fun ph => p.elems.any (fun e => e.phase == ph)) &&
    p.elems.all (fun e => chanOk s e.vch && chanOk s e.ich) &&
    p.live.length == 3 && (p.elems.zip p.live).all (fun e => zcMin s e.1.vch e.2.vrms) &&
    decide (45000 ≤ s.flu.freq ∧ s.flu.freq ≤ 65000) &&
    [1, 2, 3].all (fun ph => match (tget [] s.flu.rises ph).head? with
      | some t => decide (2 * (nowNs s - t) ≤ 3 * s.flu.period) | none => false)
  | _ => false

/-- Validity is judged again, a change told of by Flume and by Leat, which mirrors it (R242, R306). -/
def refCheck (s : State) : State :=
  let v := refValid s
  if v = s.flu.refOk then s
  else raise 53 (b2n v) 0 <| raise 69 (b2n v) 0 { s with flu := { s.flu with refOk := v }, lea := { s.lea with refOk := v } }

/-- The voltage channel of a phase of the reference point (R305). -/
def refChan (s : State) (phase : Nat) : Option Nat :=
  (((refPts s).map (·.elems)).flatten.find? (fun e => e.phase == phase)).map (·.vch)

/-- The samples whose values are not formed yet, up to now. -/
def emerged (s : State) : List FluItem := (timeline s.elapsed s.flu.grid s.flu.edges).filter (fun i => i.gap.isNone)

/-- The modulators' bits of the newest samples of each channel; a sample whose bits never come has none, and no value. -/
def feed (bits : List (List (Option (BitVec 128)))) (s : State) : State :=
  let m := (emerged s).length
  let more := fun (c : Nat) =>
    let a := s.flu.ahead.getD c []
    let b := bits.getD c []
    (a ++ List.replicate (m - a.length - b.length) none ++ b).take m
  { s with flu := { s.flu with ahead := (List.range 12).map more } }

/-- A channel's W8 samples up to now, with their stamps, oldest first. -/
def w8Now (s : State) (c : Nat) : List (Nat × Option Int) :=
  ((chanPass s c (emerged s) (s.flu.ahead.getD c [])).ch.w8.map (·.2)).reverse

/-- The newest crossing of a phase on tap W8 of its reference channel, where it is none that was found before (R305). -/
def newCrossing (s : State) (phase : Nat) : Option (Bool × Nat) :=
  (refChan s phase).bind (fun c =>
    ((crossings (hystOf s (fluCh s c).scale) (w8Now s c)).head?).filter (fun x =>
      (tget [] (if x.1 then s.flu.rises else s.flu.falls) phase).head?.all (fun t => decide (t < x.2))))

/-- The reference's voltage has crossed zero: the crossing joins its phase's, and T follows (R305). -/
def crossing (phase : Nat) (bits : List (List (Option (BitVec 128)))) (s0 : State) : State :=
  if dark s0 .flu ∨ !modClk s0 then s0
  else
    let s := feed bits s0
    match newCrossing s phase with
    | none => s
    | some (rising, t) =>
      let push := fun (l : List Nat) => (t :: l).take 80
      let f := s.flu
      let s1 := if rising then { s with flu := { f with rises := tmod [] f.rises phase push } } else { s with flu := { f with falls := tmod [] f.falls phase push } }
      refCheck { s1 with flu := { s1.flu with period := meanPeriod (tget [] s1.flu.rises 1) } }

/-- What a pass does to one channel's registers and events (R297, R309). -/
def putChan (c : Nat) (o : ChanOut) (s : State) : State :=
  let s1 := setFluCh c o.ch s
  let s2 := { s1 with rc := tmod 0 s1.rc (0x90108 + 16 * c) (max o.peak) }
  if o.clips = [] then s2 else raise 71 c o.clips.length (bump (0x9010C + 16 * c) o.clips.length s2)

/-- The samples and the times with none whose values lie at or before a stamp. -/
def itemsTo (hi : Nat) (s : State) : List FluItem :=
  let l := timeline s.elapsed s.flu.grid s.flu.edges
  let late := fun (i : FluItem) => match i.gap with | some g => decide (hi < g.2.1) | none => decide (hi < stampAt s i.tick)
  l.take (l.length - (l.reverse.takeWhile late).length)

/-- The part of a time with no samples that begins before a stamp and ends after it. -/
def itemCut (hi : Nat) (s : State) : List FluItem :=
  ((timeline s.elapsed s.flu.grid s.flu.edges)[(itemsTo hi s).length]?).toList.filter (fun i => i.gap.isSome)

/-- What each channel gives up to a stamp. -/
def chanOuts (hi : Nat) (s : State) (c : Nat) : ChanOut :=
  chanPass s c ((itemsTo hi s).filter (fun i => i.gap.isNone)) (s.flu.ahead.getD c [])

/-- The sums over a second of an element's powers, and the samples in them: those of a pass join those before (R300). -/
def secSums (old : List (Int × Int × Nat)) (mine : List Bool) (pw : List (List (Option (Int × Int)))) : List (Int × Int × Nat) :=
  pw.zipIdx.map (fun e =>
    let l := ((e.1.zip mine).filter (·.2)).filterMap (·.1)
    let o := old.getD e.2 (0, 0, 0)
    (o.1 + (l.map (·.1)).sum, o.2.1 + (l.map (·.2)).sum, o.2.2 + l.length))

/-- The clipped values of a point's channels that count (R302). -/
def ptClips (s : State) (out : Nat → ChanOut) (x : FluPt) : Nat :=
  (((x.elems.map (fun e => [e.vch, e.ich])).flatten.eraseDups).map (fun c => ((out c).clips.filter (ptMine s x)).length)).sum

/-- A point over what is stamped up to a second's end. -/
def ptRun (s : State) (hi : Nat) (free : Int) (x : FluPt) : FluPt :=
  let l := itemsTo hi s
  let pw := ptPower s (chanOuts hi s) free x
  let mine := (l.filter (fun i => i.gap.isNone)).map (fun i => afterStart x i.tick && decide (hi < stampAt s i.tick + 1000000000))
  let y := ptPass s hi free (l ++ itemCut hi s) (addPower pw) x
  { y with sec := secSums (if s.flu.doneNs = hi then x.sec else []) mine pw, clips := x.clips + ptClips s (chanOuts hi s) x }

/-- Every value stamped at or before `hi` is formed and enters the points' energies (R286–R301). -/
def fluPass (hi : Nat) (free : Int) (s : State) : State :=
  let l := itemsTo hi s
  let n := (l.filter (fun i => i.gap.isNone)).length
  let s1 := (List.range 12).foldl (fun t c => putChan c (chanOuts hi s c) t) s
  let f := { s1.flu with pts := onPts (fun _ x => ptRun s hi free x) s.flu.pts, doneNs := max s.flu.doneNs hi
                         ahead := s.flu.ahead.map (fun b => b.drop n) }
  match l.getLast? with
  | none => { s1 with flu := f }
  | some i => { s1 with flu := { f with
      grid := i.after, edges := s.flu.edges.drop (s.flu.edges.length - i.left)
      past := s.flu.past.filter (fun p => decide (i.tick ≤ p.until_)), loads := s.flu.loads.filter (fun x => decide (i.tick ≤ x.1)) } }

/-- A channel's W8 samples stamped in a Fantail second (s − 1, s], oldest first (R300). -/
def w8Second (sec : Nat) (s : State) (c : Nat) : List (Nat × Nat × Option Int) :=
  (fluCh s c).w8.reverse.filter (fun e => decide (sec * 1000000000 < e.2.1 + 1000000000 ∧ e.2.1 ≤ sec * 1000000000))

/-- The last Fantail second all of whose W8 samples have been formed, 1.648 ms after it ends (R287, R300). -/
def secDone (s : State) : Nat := (nowNs s - gdW8 - p32Ns) / 1000000000

/-- A Fantail second ends (R300, R305, R309): the values stamped in it are formed, and the per-second registers follow together. The
close of an interval that ends before it comes first. -/
def secondEnd (bits : List (List (Option (BitVec 128)))) (s0 : State) : State :=
  if dark s0 .flu ∨ s0.flu.secAt = secDone s0 ∨ (s0.fan.st ≠ .unset ∧ endOf s0 s0.flu.interval < secDone s0) then s0
  else
    let r7_ := drawFree 48 s0
    let free : Int := r7_.1 - 2 ^ 47
    let s := feed bits r7_.2
    let sec := secDone s
    let freq := secondFreq sec s
    let s1 := fluPass (sec * 1000000000) free s
    let pts := onPts (fun _ => ptLive s1 freq (w8Second sec s1) free) s1.flu.pts
    let s2 := { s1 with flu := { s1.flu with freq := freq, secAt := sec, pts := pts, liveSeq := (s1.flu.liveSeq + 1) % 2 ^ 32
                                             shown := pts.map (fun e => (e.1, e.2.live)) } }
    let volts := fun (p : FluPt) => (p.elems.zip p.live).map (fun e => (e.1.phase, (e.2.vrms : Int)))
    let s3 := pts.foldl (fun t e => match e.2.anchor with
      | some (l, n) => if e.2.elems = [] then t else sampleFeeder (nodeKey l n) sec (volts e.2) t
      | none => t) s2
    let s4 := refCheck s3
    { s4 with flu := { s4.flu with shownFreq := if s4.flu.refOk then freq else 0 } }

/-! ### Interval close (R301–R303, R296) -/

/-- Close the interval of one point: its record, and what its next interval starts from (R301–R303). -/
def closePt (s : State) (n : Nat) (badCal : List Nat) (badBank : Bool) (x : FluPt) : FluPt × FluRec :=
  let late := min x.before (intLen s * 32000)
  let miss := late + x.invalid - x.fillN
  let cause := if badBank || badCal.any (usesCh x) then 1
    else if 1001 * x.apparent * (10 ^ 8 * 2 ^ 46) < x.intP.natAbs * 3125 * 1000 * 10 ^ 9 then 2
    else if paramN s .flume 7 0 < x.clips then 3
    else if x.badFreq then 4 else 0
  let plaus := if paramN s .flume 6 0 * 32 < miss then 1 else if cause ≠ 0 then 2 else 0
  let net := wh ((x.imp : Int) - x.exp)
  let imp := (wh x.imp).toNat
  let exp := (wh x.exp).toNat
  let varh := wh x.varh
  let r : FluRec := { interval := n, filled := decide (0 < x.fillN), reset := s.flu.resetIvs.contains n, fade := s.flu.fadeIvs.contains n
                      timeStep := s.flu.stepIvs.contains n, anchored := x.anchorPrev.isSome, plaus := plaus
                      cause := if plaus = 2 then cause else 0, missingMs := miss / 32
                      net := net - x.netD, imp := imp - x.impD, exp := exp - x.expD, varh := varh - x.varD
                      fMin := x.fMin.getD 0, fMax := x.fMax, vMin := x.vMin.getD 0, vMax := x.vMax }
  ({ x with netD := net, impD := imp, expD := exp, varD := varh, invalid := 0, fillN := 0, apparent := 0, intP := 0, clips := 0
            badFreq := false, before := x.before - late
            fMin := none, fMax := 0, vMin := none, vMax := 0, plaus := plaus, anchorPrev := x.anchor, recs := (r :: x.recs).take 16 }, r)

/-- A point's record is delivered and told of (R302, R303). -/
def deliver (p : Nat) (r : FluRec) (anchor : Option (Nat × Nat)) (s : State) : State :=
  let s1 := if r.plaus = 0 then s else raise 68 p (r.plaus * 16 + r.cause) (bump 0x9001C 1 s)
  match anchor with
  | some (l, n) =>
    if s1.wei.en then
      { s1 with wei := { s1.wei with anchors := s1.wei.anchors ++ [{ interval := r.interval, lvl := l, num := n, wh := r.net, plaus := r.plaus }] } }
    else s1
  | none => s1

/-- Staged user calibrations that are due apply on all channels together (R296); one that fails its CRC-32 at the close does not and is
dropped, its channel's fault standing until another is staged (R284). -/
def applyCal (n : Nat) (bad : List Nat) (s : State) : State :=
  let due := fun (c : Nat) => (fluCh s c).staged.filter (fun e => decide (e.1 ≤ n + 1))
  let left := fun (c : Nat) => (fluCh s c).staged.filter (fun e => !decide (e.1 ≤ n + 1))
  let hit := (List.range 12).filter (fun c => due c != [])
  let good := hit.filter (fun c => !bad.contains c)
  let s0 := (hit.filter (fun c => bad.contains c)).foldl (fun t c => setFluCh c { fluCh t c with staged := left c } t) s
  if good = [] then s0
  else
    let mask := (good.map (fun c => 2 ^ c)).sum
    let s1 := good.foldl (fun t c =>
      let k := fluCh t c
      setFluCh c { k with user := ((due c).getLast?.map (·.2)).getD k.user, staged := left c, calBad := false } t) s0
    let newly := fun (e : ChSet × Nat) => if good.contains e.2 then { e.1 with user := (fluCh s1 e.2).user } else e.1
    let redo := fun (p : FluPast) => { p with set := { p.set with chans := p.set.chans.zipIdx.map newly } }
    raise 70 mask ((n + 1) % 2 ^ 32) { s1 with flu := { s1.flu with past := s1.flu.past.map redo } }

/-- A bank's contents still match the CRC-32 its load wrote (R292, R302). -/
def bankSound (b : Option (List Int)) (crc : Option Nat) : Bool :=
  match b, crc with
  | some h, some v => crc32 ((h.map (fun x => leBytes 4 (toU32 x))).flatten) == v
  | _, _ => true

/-- Interval `n` closes, every value stamped in it having been formed. -/
def closeOne (badCal : List Nat) (badBank : Bool) (n : Nat) (s0 : State) : State :=
  let r8_ := drawFree 48 s0
  let s := fluPass (endOf s0 n * 1000000000) (r8_.1 - 2 ^ 47) r8_.2
  let bad := badBank || !(if s.flu.bank then bankSound s.flu.bankB s.flu.bankCrcB else bankSound s.flu.bankA s.flu.bankCrcA)
  let one := fun (t : State) (e : Nat × FluPt) =>
    if e.2.elems = [] then t
    else
      let r9_ := closePt s n badCal bad e.2
      deliver e.1 r9_.2 e.2.anchorPrev { t with flu := { t.flu with pts := tset {} t.flu.pts e.1 r9_.1 } }
  let s2 := s.flu.pts.foldl one s
  let gone := fun (l : List Nat) => l.filter (fun k => decide (n < k))
  applyCal n badCal { s2 with flu := { s2.flu with
    lastInt := n % 2 ^ 32, interval := n + 1, resetIvs := gone s2.flu.resetIvs, fadeIvs := gone s2.flu.fadeIvs, stepIvs := gone s2.flu.stepIvs } }

/-- The intervals whose last value has been formed, 0.555 ms after E_N (R303), and that have not closed. -/
def closable (s : State) : Nat := (nowNs s - gdP32 - p32Ns) / (intLen s * 1000000000) - s.flu.interval

/-- Each interval passed closes in its turn, one slept through or stepped over whole as well; the CRC checks of the close come with
the command, and the modulators' bits since the last that came (R302, R303, R307). -/
def fluClose (badCal : List Nat) (badBank : Bool) (bits : List (List (Option (BitVec 128)))) (s0 : State) : State :=
  let k := closable s0
  if dark s0 .flu ∨ s0.fan.st = .unset ∨ k = 0 then s0
  else
    let s := feed bits (badCal.foldl (fun t c => chanFault c 3 t) s0)
    (List.range k).foldl (fun t d => closeOne badCal badBank (s0.flu.interval + d) t) s

/-- Fantail leaves UNSET: intervals are those of the new scale, and what came before counts as missing. -/
def fluTimeSet (s : State) : State :=
  let t := { s with flu := { s.flu with interval := gridNow s } }
  modPts (startPt t) t

/-- A forced Fantail step (R303), from a state before it: the intervals it leaves and enters are marked, and a step forward leaves time
without samples. DESIGN CHOICE: log entry 119. -/
def fluStep (old s : State) : State :=
  let f := s.flu
  let es := if old.fan.st = .unset ∨ nowNs s ≤ nowNs old then f.edges
    else f.edges ++ [({ kind := .jump, tick := s.elapsed, ns := stampNow old, toNs := stampNow s } : FluEdge)]
  { s with flu := { f with
    edges := es, stepIvs := intervalNow old :: intervalNow s :: f.stepIvs, doneNs := min f.doneNs (stampNow s) } }

/-! ### Commands (R379) -/

/-- Samples formed before the change keep the settings before it (R308). -/
def flumeAfter (old : Tab Int) (s : State) : State := { s with flu := (noteFlu { s with cfg := old }).flu }

def restartPts (c : Nat) (s : State) : State := modPts (fun p => if usesCh p c then startPt s p else p) s

def channelCmd (c role invert scale : Nat) (s0 : State) : CmdRes :=
  if 11 < c ∨ 2 < role ∨ 1 < invert ∨ scale = 0 then refuse .badParam s0
  else
    let s := noteFlu s0
    let k := fluCh s c
    let k' := if role = 0 then { k with role := 0, invert := invert == 1, scale := scale, fault := 0, stuck := false, settling := none }
      else { k with role := role, invert := invert == 1, scale := scale }
    let s1 := restartPts c (setFluCh c k' s)
    .ok (if !modClk s1 then chanFault c 2 s1 else if k.calBad then chanFault c 3 s1 else s1) 0 []

def dcBlockerCmd (c set load : Nat) (dc : Int) (s0 : State) : CmdRes :=
  if 11 < c ∨ 2 < set ∨ 1 < load ∨ (load = 1 ∧ (dc < -(2 ^ 23) ∨ 2 ^ 23 ≤ dc)) then refuse .badParam s0
  else
    let s := noteFlu s0
    let s1 := { s with cfg := cfgPut s.cfg .flume 2 (c * 256) set }
    .ok (if load = 1 then { s1 with flu := { s1.flu with loads := s1.flu.loads ++ [(s1.elapsed, c, dc * 2 ^ 22)] } } else s1) 0 []

/-- DEDUCED: log entry 74. -/
def coefLoadCmd (c : Ctx) (bank crc : Nat) (s : State) : CmdRes :=
  let b := c.xin.take 128
  let h := (List.range 32).map (fun k => sgn32 (ofLe (slice b (4 * k) 4)))
  let gain := 2 * (h.take 31).sum + h.getD 31 0
  if bank ≤ 1 ∧ (bank = 1) = s.flu.bank ∧ s.flu.fade.isNone then refuse .refusedState s
  else if 1 < bank ∨ crc32 b ≠ crc ∨ h.any (fun v => decide (v < -(2 ^ 23) ∨ 2 ^ 23 ≤ v)) ∨ 2 ^ 14 < (gain - 2 ^ 22).natAbs then refuse .badParam s
  else if s.flu.fade.isSome then refuse .busy s
  else
    let t := noteFlu s
    let f := if bank = 0 then { t.flu with bankA := some h, bankCrcA := some crc } else { t.flu with bankB := some h, bankCrcB := some crc }
    .ok { t with flu := f } 0 []

def bankSwapCmd (f : Nat) (s : State) : CmdRes :=
  if f = 0 ∨ 4096 < f then refuse .badParam s
  else if s.flu.fade.isSome then refuse .busy s
  else
    let t := noteFlu s
    .ok { t with flu := { t.flu with bank := !s.flu.bank, fade := some (f, s.elapsed), fadeIvs := intervalNow s :: t.flu.fadeIvs } } 0 []

def fadeEnd (s0 : State) : State :=
  match s0.flu.fade with
  | some (f, t) =>
    if passed s0 t (f * tickP32) ∧ !dark s0 .flu then
      let s := noteFlu s0
      raise 67 (b2n s.flu.bank) f { s with flu := { s.flu with fade := none, fadeIvs := intervalNow s :: s.flu.fadeIvs } }
    else s0
  | none => s0

/-- A calibration record's 16 bytes (R295). -/
def calOf (b : List Byte) : CalRec :=
  let t : Int := ofLe (slice b 8 2)
  { gain := ofLe (slice b 0 4), ofs := sgn32 (ofLe (slice b 4 4)), tau := if t < 32768 then t else t - 65536 }

/-- DEDUCED: log entry 74. -/
def calForm (b : List Byte) : Bool :=
  decide (b.length = 16 ∧ ofLe (slice b 10 2) = 0 ∧ ofLe (slice b 12 4) = crc32 (b.take 12))

def factoryCalCmd (c : Nat) (b : List Byte) (s : State) : CmdRes :=
  if !lcIn s [0, 1] then refuse .refusedState s
  else if c ≤ 11 ∧ (fluCh s c).otp.isSome then refuse .existing s
  else if 11 < c ∨ !calForm b then refuse .badParam s
  else .ok (setFluCh c { fluCh s c with otp := some (calOf b) } (noteFlu s)) 0 []

def userCalCmd (c : Nat) (b : List Byte) (s : State) : CmdRes :=
  let r := calOf b
  let k := fluCh s c
  let n := gridNow s + 1
  if 11 < c ∨ !calForm b ∨ 4 * r.gain < 3 * 2 ^ 30 ∨ 5 * 2 ^ 30 < 4 * r.gain ∨ 32767 < ((k.otp.getD {}).tau + r.tau).natAbs then refuse .badParam s
  else .ok (setFluCh c { k with staged := k.staged.filter (fun e => decide (e.1 < n)) ++ [(n, r)] } s) (n % 2 ^ 32) []

/-- The elements of a METERING_POINT command (R298, R379). -/
def elemOf (v : Nat) : FluElem := { phase := v % 256, vch := v / 256 % 256, ich := v / 65536 % 256, dir := v / 2 ^ 24 == 1 }

def elemsOk (s : State) (n : Nat) (l : List Nat) : Bool :=
  let es := (l.take n).map elemOf
  decide (l.length = 3) && (l.drop n).all (fun v => v == 0) && (l.take n).all (fun v => decide (v / 2 ^ 24 < 2)) &&
  es.all (fun e => decide (1 ≤ e.phase ∧ e.phase ≤ 3 ∧ e.vch < 12 ∧ e.ich < 12) && (fluCh s e.vch).role == 1 && (fluCh s e.ich).role == 2) &&
  decide ((es.map (·.phase)).Nodup)

/-- Another point anchors a node, or a change to it is pending (R299). -/
def anchorTaken (s : State) (p lvl num : Nat) : Bool :=
  s.flu.pts.any (fun e => (e.1 != p && e.2.anchor == some (lvl, num)) || e.2.pendAnchor == some (some (lvl, num)) ||
    (e.2.pendAnchor.isSome && e.2.anchor == some (lvl, num)))

def meteringCmd (p nelem ref lvl num : Nat) (elems : List Nat) (s : State) : CmdRes :=
  let named := decide (lvl ≠ 0)
  let tree := decide (lvl = 4 ∨ lvl = 5) && decide (num < levelCount lvl)
  if named ∧ tree ∧ !(node s (nodeKey lvl num)).active then refuse .refusedState s
  else if named ∧ tree ∧ anchorTaken s p lvl num then refuse .existing s
  else if 7 < p ∨ 3 < nelem ∨ 1 < ref ∨ (named ∧ !tree) ∨ !elemsOk s nelem elems then refuse .badParam s
  else
    let x := tget {} s.flu.pts p
    let want := if nelem = 0 ∨ !named then none else some (lvl, num)
    let y := { startPt s x with
      elems := (elems.take nelem).map elemOf, ref := decide (ref = 1 ∧ nelem ≠ 0)
      pendAnchor := if want = x.anchor then none else some want
      recs := if nelem = 0 then [] else x.recs, plaus := if nelem = 0 then 0 else x.plaus, before := if nelem = 0 then 0 else samplesSoFar s }
    .ok { s with flu := { s.flu with pts := tset {} s.flu.pts p y } } 0 []

/-- An interval record's 64 bytes (R303). -/
def fluRecBytes (p : Nat) (r : FluRec) : List Byte :=
  leBytes 8 r.interval ++ leBytes 1 p
    ++ leBytes 1 (b2n r.filled + 2 * b2n r.reset + 4 * b2n r.fade + 8 * b2n r.timeStep + 16 * b2n r.anchored)
    ++ leBytes 1 r.plaus ++ leBytes 1 r.cause ++ leBytes 4 r.missingMs ++ le64 r.net ++ leBytes 8 r.imp ++ leBytes 8 r.exp ++ le64 r.varh
    ++ leBytes 4 r.fMin ++ leBytes 4 r.fMax ++ leBytes 4 r.vMin ++ leBytes 4 r.vMax

def flumeIntervalsCmd (p first count : Nat) (s : State) : CmdRes :=
  if 7 < p ∨ 16 < first + count then refuse .badParam s
  else
    let l := (tget {} s.flu.pts p).recs
    .ok s 0 (((List.range count).map (fun k => match l[first + k]? with | some r => fluRecBytes p r | none => zeros 64)).flatten)

/-! ### Meanings -/

def execFlumeConfig (c : Ctx) (op : Byte) (ents : List CfgEntry) (s : State) : Res :=
  .next (command (.flumeConfig c op ents) true (configure .flume op ents (fun _ _ => none) flumeAfter) s)
def execChannelConfig (c : Ctx) (ch role invert : Byte) (scale : U32) (s : State) : Res :=
  .next (command (.channelConfig c ch role invert scale) true (channelCmd ch.toNat role.toNat invert.toNat scale.toNat) s)
def execDcBlocker (c : Ctx) (ch set load : Byte) (dc : U32) (s : State) : Res :=
  .next (command (.dcBlocker c ch set load dc) true (dcBlockerCmd ch.toNat set.toNat load.toNat (sgn32 dc.toNat)) s)
def execCoefLoad (c : Ctx) (bank : Byte) (crc : U32) (s : State) : Res :=
  .next (command (.coefLoad c bank crc) (decide (c.xlen = 128)) (coefLoadCmd c bank.toNat crc.toNat) s)
def execBankSwap (c : Ctx) (f : U16) (s : State) : Res := .next (command (.bankSwap c f) true (bankSwapCmd f.toNat) s)
def execDecimReset (c : Ctx) (s : State) : Res := .next (command (.decimReset c) true decimResetCmd s)
def execFactoryCal (c : Ctx) (ch : Byte) (rcd : List Byte) (s : State) : Res :=
  .next (command (.factoryCal c ch rcd) true (factoryCalCmd ch.toNat rcd) s)
def execUserCal (c : Ctx) (ch : Byte) (rcd : List Byte) (s : State) : Res := .next (command (.userCal c ch rcd) true (userCalCmd ch.toNat rcd) s)
def execMeteringPoint (c : Ctx) (point nelem ref alvl : Byte) (anum : U32) (elems : List U32) (s : State) : Res :=
  .next (command (.meteringPoint c point nelem ref alvl anum elems) true (meteringCmd point.toNat nelem.toNat ref.toNat alvl.toNat anum.toNat (elems.map (·.toNat))) s)
def execFlumeIntervals (c : Ctx) (point first count : Byte) (s : State) : Res :=
  .next (command (.flumeIntervals c point first count) (decide (c.xlen = 64 * count.toNat)) (flumeIntervalsCmd point.toNat first.toNat count.toNat) s)
def execModulatorStuck (ch : Fin 12) (bits : BitVec 256) (s : State) : Res := .next (modStuck ch.val bits s)
def execChannelRestore (ch : Fin 12) (bits : BitVec 4096) (s : State) : Res := .next (chanRestore ch.val bits s)
def execMsyncRise (s : State) : Res := .next (msyncRise s)
def execSettlingEnd (s : State) : Res := .next (settlingEnd s)
def execFadeComplete (s : State) : Res := .next (fadeEnd s)
def execFlumeSecondEnd (bits : List (List (Option (BitVec 128)))) (s : State) : Res := .next (secondEnd bits s)
def execZeroCrossing (phase : Fin 3) (bits : List (List (Option (BitVec 128)))) (s : State) : Res := .next (crossing (phase.val + 1) bits s)
def execFlumeIntervalClose (badCal : List (Fin 12)) (badBank : Bool) (bits : List (List (Option (BitVec 128)))) (s : State) : Res :=
  .next (fluClose (badCal.map (·.val)) badBank bits s)

end Sys2Proof.Machine
end

