-- ==== Sys2Proof/Machine/Fantail.lean ====
section
/-! DEFINITION. Fantail: the counter, the time value and its corrections, sources, PTP, pulse per second (R311–R335). -/

namespace Sys2Proof.Machine

/-! ### Rate and anchor (R312, R322) -/

/-- 500 ppm in units of 2⁻⁴⁰ (R312). -/
def rateMax : Int := 549755813

/-- A quotient in whole units; how one that is not whole is rounded, R322 does not say. -/
def quotOpen (n d : Int) : Int := n.fdiv d + (if n % d ≠ 0 ∧ Config.roundsUp n d then 1 else 0)

/-- Re-anchor: the reading does not change (R312). -/
def reanchor (s : State) : State := { s with fan := { s.fan with baseFix := nowFix s, baseRaw := rawCount s } }

/-- The time value at a stamp `frac` thirty-seconds of a tick into the present TB period (R311, R312). DEDUCED: log entry 79. -/
def stampFix (s : State) (frac : Nat) : Nat :=
  s.fan.baseFix + (((rawCount s + 2 ^ 48 - s.fan.baseRaw) % 2 ^ 48) * 32 + frac) * 5 * ((2 : Int) ^ 40 + s.fan.rate).toNat / 32

/-- Such a stamp in whole ns. -/
def stampNs (s : State) (frac : Nat) : Nat := stampFix s frac / 2 ^ 41

/-- Replace RATE on this edge (R39), keeping its integral over the time value. -/
def setRate (r : Int) (s0 : State) : State :=
  let s := noteFlu s0
  let now := nowFix s
  let s1 := reanchor s
  { s1 with fan := { s1.fan with rate := r, rateAt := now, rateSum := s.fan.rateSum + s.fan.rate * ((now : Int) - s.fan.rateAt) } }

/-- A PPS_IN edge is missing: half a second has passed since it was due, one, two or three seconds after the last one (R331, R334).
DEDUCED: log entry 79. -/
def ppsDue (s : State) : State :=
  match s.fan.ppsLast with
  | some t =>
    let gap := s.elapsed - t
    if !dark s .fan ∧ gap % tickS = tickS / 2 ∧ tickS < gap ∧ gap < 4 * tickS then bump 0x30048 1 s else s
  | none => s

/-- One TB period with no command: time passes, and the anchor follows once a second (R311, R312). DESIGN CHOICE: log entry 1. -/
def tick (s : State) : State :=
  let t := { s with elapsed := s.elapsed + 1 }
  ppsDue (resetEdge (if tickS ≤ (rawCount t + 2 ^ 48 - t.fan.baseRaw) % 2 ^ 48 then reanchor t else t))

/-! ### Selection (R320, R321, R323) -/

def srcEnabled (s : State) (k : Nat) : Bool := decide (param s .fantail 0 k ≠ 0)

/-- Usable and not disagreeing, as USABLE of FAN_STATUS shows it (R320, R334). -/
def srcUsable (s : State) (k : Nat) : Bool :=
  let f := s.fan
  if k = 3 then f.st != .unset
  else srcEnabled s k && !f.disagree.contains k &&
    (if k = 0 then f.ptpUsable else if k = 1 then f.ppsUsable && f.st != .unset else s.van.up == .track)

/-- The highest-priority usable source. -/
def bestSrc (s : State) : Nat := if srcUsable s 0 then 0 else if srcUsable s 1 then 1 else if srcUsable s 2 then 2 else 3

/-- Select a source: RATE is F until its first accepted sample (R322). Only PTP keeps the values it announced (R319).
DEDUCED: log entry 77. -/
def selectSrc (k : Nat) (s : State) : State :=
  let s1 := setRate s.fan.freq s
  { s1 with fan := { s1.fan with sel := k, fromPtp := s.fan.fromPtp && k == 0 } }

/-- A source has become usable (R321). -/
def sourceUp (k : Nat) (s : State) : State := { s with fan := { s.fan with upAt := tset 0 s.fan.upAt k (s.elapsed + 1) } }

/-- The selected source is lost or dropped (R321–R323): HOLDOVER at F, and the next usable source is selected. -/
def loseSelected (s : State) : State :=
  let f := s.fan
  if f.st = .unset then s
  else
    let s1 := { s with fan := { s.fan with upAt := tset 0 f.upAt f.sel 0 } }
    let s2 := selectSrc (bestSrc s1) s1
    let s3 := { s2 with fan := { s2.fan with st := .holdover, rep := 3, lockRun := 0, unlockRun := 0 } }
    if f.st = .holdover then s3 else raise 73 f.sel (toU32 f.lastErr) s3

/-- A source is no longer usable, whose flag already says so. -/
def sourceDown (k : Nat) (s : State) : State :=
  if s.fan.sel = k then loseSelected s else { s with fan := { s.fan with upAt := tset 0 s.fan.upAt k 0 } }

/-- R321: the highest-priority source that outranks the selected one and has stayed usable for SWITCH_HOLD. -/
def switchHold (s : State) : State :=
  let f := s.fan
  let held := fun k => decide (k < f.sel) && srcUsable s k &&
    (let t := tget 0 f.upAt k; decide (t ≠ 0) && passed s (t - 1) (paramN s .fantail 6 0 * tickS))
  if f.st = .unset then s
  else match [0, 1, 2].find? held with
  | none => s
  | some k =>
    let s1 := selectSrc k s
    { s1 with fan := { s1.fan with st := if f.st = .holdover then .holdover else .acquire, rep := if f.st = .holdover ∨ f.rep = 3 then 3 else k
                                   lockRun := 0, unlockRun := 0 } }

/-! ### Steps (R325) -/

/-- The end of the present UTC day. -/
def dayEnd (s : State) : Nat := (utcNow s / 86400 + 1) * 86400

/-- A forced step by `d` ns: BASE_NS changes, RATE is F; the counter is untouched. -/
def fanStep (d : Int) (cause : Nat) (s : State) : State :=
  let unset := s.fan.st == .unset
  let s1 := setRate s.fan.freq s
  let base := ((s1.fan.baseFix : Int) + d * 2 ^ 41).toNat
  let f := { s1.fan with
    baseFix := base, rateAt := base, lastAcc := none, refStanding := s1.fan.refStanding.filter (fun k => k != 4)
    st := .acquire, lockRun := 0, unlockRun := 0, initStep := false, syncSeq := none, t1 := none, t2 := none, dreq := none }
  let s2 := bump 0x30040 1 { s1 with fan := f, log := { s1.log with stepMark := true } }
  let s3 := { s2 with fan := { s2.fan with leapAt := if f.leap61 ∨ f.leap59 then dayEnd s2 else f.leapAt } }
  let ms := d.tdiv 1000000
  let s4 := weirStep ms (raise 75 (toU32 ms) cause s3)
  let s5 := fluStep s (if unset then fluTimeSet s4 else s4)
  if unset then openNow s5 else s5

/-! ### Samples (R322–R324) -/

/-- `lo ≤ v ≤ hi` kept within 32 signed bits. -/
def errSat (e : Int) : Int := clampI e (-0x80000000) 0x7FFFFFFF

/-- Slew by an accepted sample's error (R322). A TIME_SET (`k` = 4) is no sample of the selected source: it leaves F alone. -/
def slew (k : Nat) (e : Int) (s : State) : State :=
  let f := s.fan
  let now := nowFix s
  let freq := match f.lastAcc with
    | some (k', e', t') =>
      if k' = k ∧ k < 3 ∧ t' < now then
        let dt : Int := now - t'
        let sum := f.rateSum + f.rate * ((now : Int) - f.rateAt)
        let fn := quotOpen (sum + (e - e') * 2 ^ 81) dt
        clampI (f.freq + quotOpen (fn - f.freq) 8) (-rateMax) rateMax
      else f.freq
    | none => f.freq
  let most := min rateMax ((param s .fantail 5 0) * 2 ^ 40 / 1000000)
  let term := clampI (quotOpen (e * 2 ^ 40) (param s .fantail 4 0 * 1000000000)) (-most) most
  let s1 := setRate (clampI (freq + term) (-rateMax) rateMax) s
  { s1 with fan := { s1.fan with freq := freq, lastAcc := some (k, e, now), rateSum := 0 } }

/-- LOCK_THR's runs (R323). DEDUCED: log entry 77. -/
def lockCount (e : Int) (s : State) : State :=
  let f := s.fan
  let f1 := if e.natAbs ≤ paramN s .fantail 3 0 then { f with lockRun := f.lockRun + 1, unlockRun := 0 }
    else { f with lockRun := 0, unlockRun := f.unlockRun + 1 }
  let s1 := { s with fan := f1 }
  if f.st = .acquire ∧ 4 ≤ f1.lockRun then
    let s2 := { s1 with fan := { f1 with st := .sync, unlockRun := 0, syncSrc := f1.rep } }
    if f1.rep ≠ f.syncSrc then raise 72 (f1.rep * 16 + f.syncSrc) (toU32 f1.lastErr) s2 else s2
  else if f.st = .sync ∧ 4 ≤ f1.unlockRun then { s1 with fan := { f1 with st := .acquire, lockRun := 0 } }
  else s1

/-- What acceptance of a sample of an origin settles (R324). DEDUCED: log entry 76. -/
def accepted (k : Nat) (e : Int) (s : State) : State :=
  let f := s.fan
  { s with fan := { f with lastErr := errSat e, initStep := false, refused := tset 0 f.refused k 0
                           refStanding := f.refStanding.filter (fun x => x != k), refRaised := f.refRaised.filter (fun x => x != k)
                           rep := if k = 4 then 3 else k } }

/-- A refusal (R324): counted, standing, and raised once per source until it next has a sample accepted. -/
def refuseJump (k : Nat) (e : Int) (s : State) : State :=
  let f := s.fan
  let told := k != 4 && f.refRaised.contains k
  let s1 := bump 0x3003C 1 { s with fan := { f with
    refStanding := if f.refStanding.contains k then f.refStanding else k :: f.refStanding
    refRaised := if k = 4 ∨ told then f.refRaised else k :: f.refRaised } }
  if told then s1 else raise 74 k (toU32 (e.tdiv 1000000)) s1

/-- A sample of the selected source is judged (R322–R325). DEDUCED: log entry 75. -/
def judgeSample (k : Nat) (e : Int) (s : State) : State :=
  let f := s.fan
  if e.natAbs ≤ paramN s .fantail 1 0 * 1000 then
    let s1 := accepted k e (slew k e s)
    if f.st = .holdover then { s1 with fan := { s1.fan with st := .acquire, lockRun := 0, unlockRun := 0 } } else lockCount e s1
  else if f.initStep ∧ e.natAbs ≤ paramN s .fantail 2 0 * 1000000000 then accepted k e (fanStep e 2 s)
  else
    let s1 := refuseJump k e { s with fan := { f with lastErr := errSat e } }
    let n := tget 0 f.refused k + 1
    let s2 := { s1 with fan := { s1.fan with refused := tset 0 s1.fan.refused k (if n = 3 then 0 else n) } }
    let s3 := if f.st = .holdover then s2 else lockCount e s2
    if n = 3 then loseSelected { s3 with fan := { s3.fan with disagree := k :: s3.fan.disagree } } else s3

/-- A sample of a source, its error in ns (R320, R323): from UNSET the initial step; PPS_IN there is ignored. A source not selected
is not judged; a disagreeing one is tried against JUMP_THR. DEDUCED: log entry 75. -/
def onSample (k : Nat) (e : Int) (s0 : State) : State :=
  if !srcEnabled s0 k then s0
  else
    let s := { s0 with fan := { s0.fan with srcErr := tset none s0.fan.srcErr k (some e) } }
    if s.fan.st = .unset then
      if k = 1 then s0
      else
        let s1 := fanStep e 1 s
        accepted k e { s1 with fan := { s1.fan with sel := k } }
    else if s.fan.sel = k then judgeSample k e s
    else if s.fan.disagree.contains k ∧ e.natAbs ≤ paramN s .fantail 1 0 * 1000 then
      sourceUp k { s with fan := { s.fan with disagree := s.fan.disagree.filter (fun x => x != k) } }
    else s

/-! ### Time commands (R380) -/

/-- DEDUCED: log entry 76. -/
def timeSetCmd (sec nsec : Nat) (s : State) : CmdRes :=
  if 999999999 < nsec ∨ 2 ^ 48 ≤ sec then refuse .badParam s
  else
    let e : Int := (sec * 1000000000 + nsec : Nat) - (nowNs s : Int)
    if s.fan.st = .unset then
      let s1 := accepted 4 e (fanStep e 1 s)
      .ok { s1 with fan := { s1.fan with sel := bestSrc s1 } } 0 []
    else if e.natAbs ≤ paramN s .fantail 1 0 * 1000 then
      let s1 := accepted 4 e (slew 4 e s)
      .ok (if s.fan.st = .holdover then { s1 with fan := { s1.fan with st := .acquire, lockRun := 0, unlockRun := 0 } }
        else lockCount e s1) 0 []
    else .fail .timeJumpRefused (refuseJump 4 e s)

def timeForceCmd (mode src sec nsec : Nat) (s : State) : CmdRes :=
  if mode = 1 ∧ src ≤ 3 ∧ tget none s.fan.srcErr src = none then refuse .notFound s
  else if 1 < mode ∨ 999999999 < nsec ∨ 2 ^ 48 ≤ sec ∨ (mode = 1 ∧ (sec ≠ 0 ∨ nsec ≠ 0 ∨ 3 < src)) then refuse .badParam s
  else if mode = 0 then
    let unset := s.fan.st == .unset
    let s1 := fanStep ((sec * 1000000000 + nsec : Nat) - (nowNs s : Int)) 0 s
    .ok { s1 with fan := { s1.fan with rep := 3, sel := if unset then bestSrc s1 else s1.fan.sel } } 0 []
  else match tget none s.fan.srcErr src with
  | none => refuse .notFound s
  | some e =>
    let s1 := fanStep e 0 s
    let s2 := selectSrc src s1
    .ok { s2 with fan := { s2.fan with rep := src, disagree := s2.fan.disagree.filter (fun x => x != src) } } 0 []

/-- UTC_OFS and the leap flags change (R319, R335). -/
def setUtc (ofs : Nat) (l61 l59 : Bool) (s : State) : State :=
  let s1 := { s with fan := { s.fan with utcOfs := ofs, leap61 := l61, leap59 := l59 } }
  let fresh := (l61 && !s.fan.leap61) || (l59 && !s.fan.leap59)
  raise 79 ofs (b2n l61 + 2 * b2n l59)
    { s1 with fan := { s1.fan with leapAt := if fresh ∨ ofs ≠ s.fan.utcOfs then dayEnd s1 else s1.fan.leapAt } }

def utcOffsetCmd (ofs leap : Nat) (s : State) : CmdRes :=
  if s.fan.fromPtp then refuse .refusedState s
  else if 3 ≤ leap then refuse .badParam s
  else .ok (setUtc ofs (bit leap 0) (bit leap 1) s) 0 []

/-- The flagged day ends (R319): after 23:59:60 UTC_OFS rises by one; 23:59:59 is left out, and UTC_OFS falls by one. -/
def leapEnd (s : State) : State :=
  let f := s.fan
  if f.st = .unset then s
  else if f.leap61 ∧ f.leapAt + 1 ≤ utcNow s then setUtc ((f.utcOfs + 1) % 65536) false false s
  else if f.leap59 ∧ f.leapAt ≤ utcNow s + 1 then setUtc ((f.utcOfs + 65535) % 65536) false false s
  else s

/-! ### Configuration (R333) -/

/-- Drop a source: what it stood on goes, and if it was selected Fantail proceeds as after a loss. -/
def dropSource (k : Nat) (s : State) : State :=
  let f := s.fan
  let f1 := if k = 0 then { f with ptpUsable := false, masters := [], master := none, gm := 0, syncSeq := none, t1 := none, t2 := none,
                                   dreq := none, exchAt := none, fromPtp := false }
    else if k = 1 then { f with ppsUsable := false, ppsRun := 0, ppsLast := none } else f
  let s1 := sourceDown k { s with fan := { f1 with srcErr := tset none f1.srcErr k none, refused := tset 0 f1.refused k 0
                                                   disagree := f1.disagree.filter (fun x => x != k) } }
  if srcUsable s1 k then sourceUp k s1 else s1

/-- Whether a configuration command changed a value. -/
def changed (old : Tab Int) (g : Grp) (pid scope : Nat) (s : State) : Bool := cfgGet old g pid scope != param s g pid scope

/-- Source enables and PTP settings take effect by dropping and re-selecting the affected source. -/
def fantailAfter (old : Tab Int) (s : State) : State :=
  let ptp := changed old .fantail 0 0 s || changed old .fantail 7 0 s || changed old .fantail 7 1 s || changed old .fantail 8 0 s ||
    changed old .fantail 9 0 s || changed old .fantail 10 0 s
  let s1 := if ptp then dropSource 0 s else s
  let s2 := if changed old .fantail 0 1 s then dropSource 1 s1 else s1
  if changed old .fantail 0 2 s then dropSource 2 s2 else s2

/-! ### PTP (R327) -/

/-- A message interval of 2^`l` s in TB periods. -/
def logTicks (l : Int) : Nat := if 0 ≤ l then tickS * 2 ^ l.toNat else tickS / 2 ^ (-l).toNat

/-- BMCA's order on the compared values, lower first. PRESUMED: log entry 78. -/
def rankLt : List Nat → List Nat → Bool
  | [], _ => false
  | _ :: _, [] => false
  | a :: t, b :: u => decide (a < b) || (decide (a = b) && rankLt t u)

/-- A master's Announce messages have stopped (R320). -/
def annGone (s : State) (m : Master) : Bool := passed s m.lastAt (paramN s .fantail 9 0 * m.period + 1)

def bestMaster : List Master → Option Master
  | [] => none
  | m :: t => match bestMaster t with
    | none => some m
    | some b => if rankLt b.rank m.rank then some b else some m

/-- Two Announce messages of a master within four of their intervals make it one to be chosen. PRESUMED: log entry 78. -/
def masterFit (m : Master) : Bool := m.before.any (fun t => decide (m.lastAt ≤ t + 4 * m.period))

/-- BMCA over the masters still heard; a change of grandmaster raises the PTP-master event. -/
def electMaster (s : State) : State :=
  let live := s.fan.masters.filter (fun m => !annGone s m)
  match bestMaster (live.filter (fun m => masterFit m || s.fan.master == some m.port)) with
  | none => { s with fan := { s.fan with masters := live, master := none } }
  | some b =>
    let fresh := s.fan.master ≠ some b.port
    let f := { s.fan with masters := live, master := some b.port, gm := b.gm }
    let f1 := if fresh then { f with syncSeq := none, t1 := none, t2 := none, dreq := none } else f
    let s1 := { s with fan := f1 }
    if s.fan.gm = b.gm ∧ s.fan.master.isSome then s1 else raise 78 (b.gm % 2 ^ 32) (b.gm / 2 ^ 32) s1

/-- An Announce message from the selected master sets UTC_OFS and the flags while PTP is selected (R319). -/
def announceUtc (utc : Option (U16 × Bool × Bool)) (s : State) : State :=
  if s.fan.sel ≠ 0 then s
  else match utc with
  | none => { s with fan := { s.fan with fromPtp := false } }
  | some (ofs, l61, l59) =>
    let s1 := { s with fan := { s.fan with fromPtp := true } }
    if ofs.toNat = s.fan.utcOfs ∧ l61 = s.fan.leap61 ∧ l59 = s.fan.leap59 then s1 else setUtc ofs.toNat l61 l59 s1

/-- A PTP time in ns on the Fantail scale (R315). -/
def ptpNs (t : Int) : Int := t - 37000000000

/-- Delay_Resp completes the exchange: the sample's error is the master's time less the time value (R320). -/
def ptpExchange (t4 : Int) (s : State) : State :=
  match s.fan.t1, s.fan.t2, s.fan.dreq with
  | some t1, some t2, some (_, t3) =>
    let e := ((t1 - t2) + (t4 - t3)).fdiv 2
    let was := s.fan.ptpUsable
    let s1 := { s with fan := { s.fan with t1 := none, t2 := none, dreq := none, exchAt := some s.elapsed, ptpUsable := true } }
    onSample 0 e (if was then s1 else sourceUp 0 s1)
  | _, _, _ => s

/-- A PTP message that arrives `frac` thirty-seconds of a tick into the present TB period. PRESUMED: log entry 78. -/
def ptpMessage (frac : Nat) (m : PtpMsg) (s : State) : State :=
  let f := s.fan
  match m with
  | .announce src rank gm l utc =>
    if l < -3 ∨ 4 < l then s
    else
      let k : Master := { port := src, rank := rank, gm := gm.toNat, lastAt := s.elapsed, period := logTicks l
                          before := (f.masters.find? (fun x => x.port == src)).map (·.lastAt) }
      let s1 := electMaster { s with fan := { f with masters := f.masters.filter (fun x => x.port != src) ++ [k] } }
      if s1.fan.master = some src then announceUtc utc s1 else s1
  | .sync src seq l origin =>
    if f.master ≠ some src ∨ l < -7 ∨ 4 < l then s
    else
      let f1 := { f with syncPeriod := logTicks l, t2 := some (stampNs s frac) }
      match origin with
      | some t => { s with fan := { f1 with t1 := some (ptpNs t), syncSeq := none } }
      | none => { s with fan := { f1 with t1 := none, syncSeq := some seq.toNat } }
  | .followUp src seq t =>
    if f.master ≠ some src ∨ f.syncSeq ≠ some seq.toNat then s
    else { s with fan := { f with t1 := some (ptpNs t), syncSeq := none } }
  | .delayResp src seq t =>
    if f.master ≠ some src ∨ f.dreq.map (·.1) ≠ some seq.toNat then s else ptpExchange (ptpNs t) s

/-- The message is of the configured port, domain and transport, with PTP enabled. -/
def ptpHeard (s : State) (port domain transport : Nat) : Bool :=
  !dark s .fan && ethUp s && srcEnabled s 0 && decide (param s .fantail 7 0 = port ∧ param s .fantail 8 0 = domain ∧ param s .fantail 7 1 = transport)

/-- A frame with its FCS. -/
def withFcs (l : List Byte) : List Byte := l ++ leBytes 4 (crc32 l)

/-- A Delay_Req as its PTP message. -/
def delayReqBytes (domain seq : Nat) : List Byte :=
  [0x01, 0x02] ++ beBytes 2 44 ++ leBytes 1 domain ++ zeros 15 ++ Config.ptpIdentity ++ beBytes 2 seq ++ [0x01, 0x7F] ++ zeros 10

/-- The Delay_Req leaves its pin `frac` thirty-seconds of a tick into the present TB period (R311, R327). -/
def delayReq (frac : Nat) (s : State) : State :=
  if dark s .fan ∨ !srcEnabled s 0 ∨ s.fan.master.isNone ∨ !passed s s.fan.dreqAt (logTicks (param s .fantail 10 0)) then s
  else
    let seq := s.fan.dreqSeq
    emitEth (.ethFrame (paramN s .fantail 7 0) (withFcs (Config.ptpFrame (paramN s .fantail 7 0) (paramN s .fantail 7 1)
        (delayReqBytes (paramN s .fantail 8 0) seq))))
      { s with fan := { s.fan with dreq := some (seq, stampNs s frac), dreqAt := s.elapsed, dreqSeq := (seq + 1) % 65536 } }

/-! ### Host PTP frames and the transparent clock (R328–R330) -/

/-- A string with the bytes at an offset replaced. -/
def patch (l : List Byte) (ofs : Nat) (b : List Byte) : List Byte := l.take ofs ++ b ++ l.drop (ofs + b.length)

/-- Where the PTP header of an Ethernet frame lies, and its transport: 0 Ethernet, 1 UDP over IPv4, 2 UDP over IPv6. -/
def ptpAt (l : List Byte) : Option (Nat × Nat) :=
  let ty := ofBe (slice l 12 2)
  let ihl := byteAt l 14 % 16 * 4
  if ty = 0x88F7 then some (14, 0)
  else if ty = 0x0800 ∧ byteAt l 23 = 17 ∧ ofBe (slice l (16 + ihl) 2) = 319 then some (22 + ihl, 1)
  else if ty = 0x86DD ∧ byteAt l 20 = 17 ∧ ofBe (slice l 56 2) = 319 then some (62, 2)
  else none

/-- Where the header of any PTP message of an Ethernet frame lies. -/
def ptpAny (l : List Byte) : Option Nat :=
  let ty := ofBe (slice l 12 2)
  let ihl := byteAt l 14 % 16 * 4
  let port := fun (o : Nat) => [319, 320].contains (ofBe (slice l o 2))
  if ty = 0x88F7 then some 14
  else if ty = 0x0800 ∧ byteAt l 23 = 17 ∧ port (16 + ihl) then some (22 + ihl)
  else if ty = 0x86DD ∧ byteAt l 20 = 17 ∧ port 56 then some 62
  else none

/-- A PTP event message: Sync, Delay_Req, Pdelay_Req or Pdelay_Resp. -/
def ptpEvent (l : List Byte) : Option (Nat × Nat) := (ptpAt l).bind (fun p => if byteAt l p.1 % 16 ≤ 3 then some p else none)

/-- The Internet checksum's sum of 16-bit words. -/
def sum16 : List Byte → Nat
  | [] => 0
  | [a] => a.toNat * 256
  | a :: b :: t => a.toNat * 256 + b.toNat + sum16 t

/-- A UDP checksum over its pseudo-header, from the frame, the header's offset and the transport. -/
def udpSum (l : List Byte) (u k : Nat) : List Byte :=
  let body := patch (l.drop u) 6 [0, 0]
  let addrs := if k = 1 then slice l 26 8 else slice l 22 32
  let n := sum16 addrs + 17 + ofBe (slice l (u + 4) 2) + sum16 (body.take (ofBe (slice l (u + 4) 2)))
  let r := (65535 - n % 65535) % 65535
  beBytes 2 (if r = 0 then 65535 else r)

/-- A one-step Sync's originTimestamp, and the UDP checksum an IPv4 frame then carries (R328). -/
def oneStep (l : List Byte) (ns : Nat) : List Byte :=
  match ptpEvent l with
  | none => l
  | some (o, k) =>
    let stamp := beBytes 6 (ns / 1000000000 + 37) ++ beBytes 4 (ns % 1000000000)
    let l1 := if byteAt l o % 16 = 0 then patch l (o + 34) stamp else l
    if k = 1 then patch l1 (o - 2) [0, 0] else l1

/-- A transmit stamp (R329). -/
def stampEntry (p : PtpOut) (fix : Nat) : List Byte :=
  let ns := fix / 2 ^ 41
  let ty := match ptpEvent p.frame with | some (o, _) => byteAt p.frame o % 16 | none => 0
  leBytes 2 p.id ++ leBytes 1 (p.port + 2 * ty) ++ [0] ++ leBytes 2 (ns / 1000000000) ++ leBytes 2 (fix % 2 ^ 41 / 2 ^ 25 / 5120 * 5120)
    ++ leBytes 4 ns ++ zeros 4

/-- A stamp joins the transmit stamp queue, or is lost (R329). -/
def pushStamp (b : List Byte) (s : State) : State :=
  let r1_ := pushKeep 3 (.bytes b) s
  let ok := r1_.1
  let s1 := r1_.2
  if ok then s1
  else
    let l := s.elapsed :: s1.fan.txLost.filter (fun t => !passed s t tickS)
    raise 76 l.length 0 (bump 0x30038 1 { s1 with fan := { s1.fan with txLost := l } })

/-- The host frame at the head of a port leaves its pin. -/
def ptpEgress (port frac : Nat) (s : State) : State :=
  match s.fan.ptpOut.find? (fun p => p.port == port) with
  | none => s
  | some p =>
    let fix := stampFix s frac
    let s1 := { s with fan := { s.fan with ptpOut := s.fan.ptpOut.erase p } }
    let s2 := emitEth (.ethFrame port (withFcs (if p.twoStep then p.frame else oneStep p.frame (fix / 2 ^ 41)))) s1
    replyLater p.job .ok 0 (if p.twoStep then pushStamp (stampEntry p fix) s2 else s2)

def ptpTransmitCmd (c : Ctx) (port mode id len : Nat) (s : State) : CmdRes :=
  let l := c.xin.take len
  match ptpEvent l with
  | none => refuse .badParam s
  | some (_, k) =>
    if 1 < port ∨ 1 < mode ∨ (mode = 0 ∧ k = 2) then refuse .badParam s
    else if !ethUp s then refuse .poweredDown (openRecord 0 s)
    else
      let p : PtpOut := { job := jobOf c s, port := port, twoStep := mode == 1, id := id, frame := l }
      .later { s with fan := { s.fan with ptpOut := s.fan.ptpOut ++ [p] } }

/-- A PTP message addressed to the device's own PTP port: its frame by the port's address, or a response to the port's own request
(R330). DESIGN CHOICE: log entry 126. -/
def ownPtp (ingress : Nat) (l : List Byte) : Bool :=
  match ptpAny l with
  | none => false
  | some o => decide (slice l 0 6 = Config.ethMac ingress) || ([3, 9, 10].contains (byteAt l o % 16) && decide (slice l (o + 44) 10 = Config.ptpIdentity))

/-- A forwarded frame leaves on the other port; an event message has the residence time (2⁻¹⁶ ns) in its correctionField and is
counted (R330). -/
def transparent (ingress : Nat) (l : List Byte) (residence : Nat) (s : State) : State :=
  if ownPtp ingress l then s
  else match ptpEvent l with
  | none => emitEth (.ethFrame (1 - ingress) (withFcs l)) s
  | some (o, k) =>
    let l1 := patch l (o + 8) (beBytes 8 (ofBe (slice l (o + 8) 8) + residence))
    let u := o - 8
    let l2 := if k = 0 ∨ (k = 1 ∧ slice l (u + 6) 2 = [0, 0]) then l1 else patch l1 (u + 6) (udpSum l1 u k)
    bump 0x30044 1 (emitEth (.ethFrame (1 - ingress) (withFcs l2)) s)

/-! ### Pulse per second (R331, R332) -/

/-- PPS_IN's sample (R320): the stamp less PPS_OFS_NS against the nearest whole second. -/
def ppsError (frac : Nat) (s : State) : Int :=
  let x := (stampNs s frac : Int) - param s .fantail 11 0
  (x + 500000000).fdiv 1000000000 * 1000000000 - x

/-- A gap between two edges of more than 100 µs from every whole number of seconds; more than one with edges missing (R320, R331). -/
def ppsOff (gap : Nat) : Bool := decide (gap < tickS - 40000 ∨ 80000 < (gap + 40000) % tickS)

/-- A rising edge of PPS_IN (R320, R331); 100 µs are 40,000 TB periods. DEDUCED: log entry 79. -/
def ppsEdge (frac : Nat) (s : State) : State :=
  if dark s .fan ∨ !srcEnabled s 1 ∨ s.fan.st = .unset then s
  else
    let f := s.fan
    match f.ppsLast with
    | none => { s with fan := { f with ppsLast := some s.elapsed, ppsRun := 1 } }
    | some t =>
      let gap := s.elapsed - t
      if tickS - 40000 ≤ gap ∧ gap ≤ tickS + 40000 then
        let run := f.ppsRun + 1
        let s1 := { s with fan := { f with ppsLast := some s.elapsed, ppsRun := run, ppsMissRun := 0, ppsUsable := f.ppsUsable || decide (3 ≤ run) } }
        onSample 1 (ppsError frac s1) (if s1.fan.ppsUsable ∧ !f.ppsUsable then sourceUp 1 s1 else s1)
      else bump 0x30048 (if ppsOff gap then 1 else 0) { s with fan := { f with ppsLast := some s.elapsed, ppsRun := 1, ppsMissRun := if f.ppsMissRun = 0 then t + 1 else f.ppsMissRun } }

/-- Tick of PPS_IN's last edge within tolerance, while it is usable. -/
def ppsGoodAt (s : State) : Nat := if s.fan.ppsMissRun = 0 then s.fan.ppsLast.getD 0 else s.fan.ppsMissRun - 1

/-- PPS_OUT (R332): it rises within 2 ns of a whole second at least PPS_WIDTH after its last rise, and falls after the PPS_WIDTH it
rose with (R333). -/
def ppsPulse (s : State) : State :=
  let f := s.fan
  let spent : Bool := match f.ppsRose with | none => true | some t => passed s t f.ppsWidth
  if dark s .fan then s
  else if f.ppsOut then (if spent then emit (.pin "PPS_OUT" 0) { s with fan := { f with ppsOut := false } } else s)
  else if param s .fantail 12 0 = 1 ∧ f.st ≠ .unset ∧ spent ∧ (nowFix s + 2 ^ 42) % (1000000000 * 2 ^ 41) ≤ 2 ^ 43 then
    emit (.pin "PPS_OUT" 1) { s with fan := { f with
      ppsOut := true, ppsRose := some s.elapsed, ppsWidth := paramN s .fantail 12 1 * tickMs } }
  else s

/-! ### Losses and the RTC (R320, R326) -/

/-- A source's timeout (R320). -/
def sourceLost (k : Nat) (s : State) : State :=
  if dark s .fan then s
  else if k = 0 then
    let s1 := electMaster s
    let stale : Bool := match s1.fan.exchAt with | none => true | some t => passed s t (3 * s1.fan.syncPeriod + 1)
    if s.fan.ptpUsable ∧ (s1.fan.master.isNone ∨ stale) then
      sourceDown 0 { s1 with fan := { s1.fan with ptpUsable := false, exchAt := none } }
    else s1
  else if k = 1 then
    let t := ppsGoodAt s
    if s.fan.ppsUsable ∧ passed s t (3 * tickS + 40001) then
      let n := (s.elapsed - t) / tickS
      let gap := s.elapsed - s.fan.ppsLast.getD s.elapsed
      let miss := gap / tickS - ((gap + tickS / 2) / tickS - 1)
      sourceDown 1 (raise 77 n 0 (bump 0x30048 miss { s with fan := { s.fan with ppsUsable := false, ppsRun := 0, ppsLast := none, ppsMissRun := 0 } }))
    else s
  else if s.fan.sel = 2 ∧ s.van.up ≠ .track then sourceDown 2 s
  else s

/-- Once a second in SYNC the AON RTC is loaded from the time value (R326). -/
def rtcLoad (s : State) : State :=
  if dark s .fan ∨ s.fan.st ≠ .sync ∨ (s.pwr.rtcValid ∧ !passed s s.pwr.rtcAt tickS) then s
  else { s with pwr := { s.pwr with rtcBase := nowNs s * 32768 / 1000000000, rtcAt := s.elapsed, rtcValid := true } }

/-- On resume from DOZE the counter restarts and the time value is seeded from the AON RTC (R323, R325, R497); without valid RTC time
Fantail is UNSET again. -/
def resumeSeed (s : State) : State :=
  let f := s.fan
  let k := fanStart s
  let base := { f with
    tbStart := k.tbStart, baseFix := k.baseFix, baseRaw := 0, rate := 0, freq := 0, rateAt := k.rateAt, rateSum := 0, lastAcc := none
    st := k.st, sel := k.sel, rep := k.rep, initStep := k.initStep, lockRun := 0, unlockRun := 0
    refStanding := f.refStanding.filter (fun x => x != 4), syncSeq := none, t1 := none, t2 := none, dreq := none, exchAt := none
    dreqAt := s.elapsed, ptpUsable := false, ppsUsable := false, ppsLast := none, ppsRun := 0, ppsMissRun := 0, upAt := [], masters := []
    master := none, ppsOut := false, ppsWidth := 0, fromPtp := false, refused := [], txLost := [], ppsRose := none }
  let s1 := { s with fan := base }
  if !s.pwr.rtcValid then s1
  else
    let ms := ((nowNs s1 : Int) - s.pwr.dozeNs).tdiv 1000000
    let s2 := bump 0x30040 1 { s1 with log := { s1.log with stepMark := true } }
    fluStep s (weirStep ms (raise 75 (toU32 ms) 3 s2))

/-- The snapshot registers hold one instant (R317, R334). -/
def snapTake (value : Nat) (s : State) : State :=
  if !bit value 0 then s
  else
    let t := nowNs s
    { s with fan := { s.fan with snapSec := t / 1000000000 % 2 ^ 48, snapNsec := t % 1000000000, snapStamp := t % 2 ^ 32, snapRaw := rawCount s } }

/-! ### The host driver's extension of a stamp (R317) -/

/-- Rule A: a stamp beside a seconds field of `k` bits, from the snapshot's seconds count; ns. -/
def extendA (snapSec k sLo x : Nat) : Int :=
  let d := (sLo + (2 ^ k - snapSec % 2 ^ k)) % 2 ^ k
  let sec : Int := snapSec + (if 2 ^ (k - 1) ≤ d then (d : Int) - 2 ^ k else d)
  sec * 1000000000 + ((x : Int) - sec * 1000000000) % 2 ^ 32

/-- Rule B: a stamp that stands alone, from the snapshot's time in ns. -/
def extendB (snapNs x : Nat) : Int := (snapNs : Int) - ((snapNs : Int) - x) % 2 ^ 32

/-! ### Meanings -/

def execFantailConfig (c : Ctx) (op : Byte) (ents : List CfgEntry) (s : State) : Res :=
  .next (command (.fantailConfig c op ents) true (configure .fantail op ents (fun _ _ => none) fantailAfter) s)
def execTimeSet (c : Ctx) (sec : U64) (nsec : U32) (s : State) : Res :=
  .next (command (.timeSet c sec nsec) true (timeSetCmd sec.toNat nsec.toNat) s)
def execTimeForce (c : Ctx) (mode src : Byte) (sec : U64) (nsec : U32) (s : State) : Res :=
  .next (command (.timeForce c mode src sec nsec) true (timeForceCmd mode.toNat src.toNat sec.toNat nsec.toNat) s)
def execUtcOffset (c : Ctx) (ofs : U16) (leap : Byte) (s : State) : Res :=
  .next (command (.utcOffset c ofs leap) true (utcOffsetCmd ofs.toNat leap.toNat) s)
def execPtpTransmit (c : Ctx) (port mode : Byte) (id len : U16) (s : State) : Res :=
  .next (command (.ptpTransmit c port mode id len) (decide (c.xlen = (len.toNat + 3) / 4 * 4)) (ptpTransmitCmd c port.toNat mode.toNat id.toNat len.toNat) s)
def execPtpFrameEgress (port : Fin 2) (frac : Fin 32) (s : State) : Res :=
  .next (if dark s .fan || !ethUp s then s else ptpEgress port.val frac.val s)
def execPtpTransparentForward (ingress : Fin 2) (frame : List Byte) (residence : Nat) (s : State) : Res :=
  .next (if dark s .fan || !ethUp s then s else transparent ingress.val frame residence s)
def execPtpMessageReceived (port : Fin 2) (domain : Byte) (transport : Fin 3) (frac : Fin 32) (msg : PtpMsg) (s : State) : Res :=
  .next (if ptpHeard s port.val domain.toNat transport.val then ptpMessage frac.val msg s else s)
def execDelayReqSend (frac : Fin 32) (s : State) : Res := .next (delayReq frac.val s)
def execPpsInEdge (frac : Fin 32) (s : State) : Res := .next (ppsEdge frac.val s)
def execPpsOutPulse (s : State) : Res := .next (ppsPulse s)
def execSourceLost (src : Fin 3) (s : State) : Res := .next (sourceLost src.val s)
def execSwitchHoldElapsed (s : State) : Res := .next (if dark s .fan then s else switchHold s)
def execRtcLoad (s : State) : Res := .next (rtcLoad s)
def execLeapSecondEnd (s : State) : Res := .next (if dark s .fan then s else leapEnd s)
def execFanSnapTake (value : U32) (s : State) : Res := .next (regWrite .fan 0x30004 (snapTake value.toNat) s)

end Sys2Proof.Machine
end

