-- ==== Sys2Proof/Machine/Millrace.lean ====
section
/-! DEFINITION. Millrace: lanes, the Sluice, the seen-cache, Quern, the Bolter, the Ledger update and its hand-offs, and the export
builder (R84–R137). -/

namespace Sys2Proof.Machine

/-! ### The frame (R85–R92) -/

def gCtl0 (f : Frame) : Nat := byteAt f.bytes 0
def gCtl1 (f : Frame) : Nat := byteAt f.bytes 1
def gType (f : Frame) : Nat := bits (gCtl0 f) 3 3
def gEuiForm (f : Frame) : Bool := bit (gCtl0 f) 2
def gAckReq (f : Frame) : Bool := bit (gCtl0 f) 1
def gTtl (f : Frame) : Nat := bits (gCtl1 f) 4 4
def gKeyg (f : Frame) : Nat := bits (gCtl1 f) 2 2
def gMode (f : Frame) : Nat := bits (gCtl1 f) 0 2
def gPlen (f : Frame) : Nat := ofLe (slice f.bytes 2 2)
def gSender (f : Frame) : Nat := ofLe (slice f.bytes 4 8)
def gSeq (f : Frame) : Nat := ofLe (slice f.bytes 12 4)
/-- The index an index-form frame names (R87). -/
def gIndex (f : Frame) : Nat := gSender f % 2 ^ 20
def gTagLen (f : Frame) : Nat := if gMode f = 0 then 8 else if gMode f = 3 then 0 else 16
/-- TAGH (R93): the first two tag bytes; zero for DISCOVERY. -/
def gTagh (f : Frame) : Nat := if gType f = 3 then 0 else ofLe (slice f.bytes (16 + gPlen f) 2)
def isReading (f : Frame) : Bool := gType f == 0
def isAlarm (f : Frame) : Bool := gType f == 1

/-! ### Lanes and the lane map (R100) -/

def lane (s : State) (l : Nat) : Lane := tget {} s.ing.lanes l
def setLane (l : Nat) (v : Lane) (s : State) : State := { s with ing := { s.ing with lanes := tset {} s.ing.lanes l v } }

def laneList (run : BitVec 4) : List Nat := (List.range 4).filter (fun l => run.getLsbD l)

/-- The lane of a bank. -/
def laneOfBank (run : BitVec 4) (b : Nat) : Nat :=
  if run.getLsbD (b % 4) then b % 4
  else
    let dealt := (List.range b).filter (fun x => !run.getLsbD (x % 4))
    let ls := laneList run
    (ls[dealt.length % ls.length]?).getD (b % 4)

/-- The lane of a frame whose sender is unresolved. -/
def laneUnresolved (run : BitVec 4) (home : Nat) : Nat :=
  (([0, 1, 2, 3].map (fun k => (home + k) % 4)).find? (fun l => run.getLsbD l)).getD home

def laneOf (run : BitVec 4) (f : Frame) : Nat :=
  if gEuiForm f then
    match f.res with
    | some (i, _, _) => laneOfBank run (i % 64)
    | none => laneUnresolved run ((f.gw.getD f.port) % 4)
  else laneOfBank run (gIndex f % 64)

/-- Sender resolution of a frame as it is delivered (R47). -/
def resolve (s : State) (f : Frame) : Frame :=
  if gEuiForm f then
    match revFind s (gSender f) with
    | some i => { f with res := some (i, (entry s i).bindGen.toNat, (entry s i).euiTag.toNat) }
    | none => f
  else f

/-- Present a frame to its lane (R93). -/
def present (f0 : Frame) (s : State) : State :=
  let f := resolve s f0
  let l := laneOf s.ing.mapRun f
  let v := lane s l
  setLane l { v with input := v.input ++ [f] } s

/-- A frame from Vane or Leat; with no lane running it is dropped (R103). -/
def presentLocal (f : Frame) (s : State) : State := if s.ing.run = 0 then bump 0x4005C 1 s else present f s

/-- Frames waiting for a verdict in stopped lanes move, in arrival order, to the lanes the map gives them (R101, R102). -/
def moveHeld (s : State) : State :=
  (List.range 4).foldl (fun t l =>
    if t.ing.run.getLsbD l then t
    else
      let v := lane t l
      let held := v.insWait ++ v.input
      held.foldl (fun u f =>
        let n := laneOf u.ing.mapRun f
        let w := lane u n
        setLane n { w with input := w.input ++ [f] } u) (setLane l { v with insWait := [], input := [] } t)) s

/-- A lane stops (R101, R103): cause 0 disagreement, 1 watchdog, 2 command. The last lane's stop is a safety fault. -/
def laneStop (l cause : Nat) (s : State) : State :=
  let g := s.ing
  let run := clrBit g.run l
  let g1 := { g with run := run, cmp := if cause = 0 then setBit g.cmp l else g.cmp, wdog := if cause = 1 then setBit g.wdog l else g.wdog,
                     cmd := if cause = 2 then setBit g.cmd l else g.cmd }
  if run = 0 then enterSafe 9 (raise 0 l cause { s with ing := g1 })
  else raise 0 l cause (moveHeld { s with ing := { g1 with mapRun := run } })

/-- A lane returns (R102); where fewer than three ran, the health count of R520 starts anew. -/
def laneReturn (l : Nat) (s : State) : State :=
  let g := s.ing
  let run := setBit g.run l
  let few := decide (((List.range 4).filter (fun n => g.run.getLsbD n)).length < 3)
  moveHeld { s with svc := { s.svc with healthAt := if few then s.elapsed else s.svc.healthAt }, ing := { g with run := run, mapRun := run, cmp := clrBit g.cmp l, wdog := clrBit g.wdog l, cmd := clrBit g.cmd l } }

/-! ### Acknowledgements owed (R97, R115, R191, R233) -/

/-- Send an acknowledgement datagram (R97). -/
def sendGwAck (a : GwAck) (s : State) : State :=
  let w := gwAt s a.gwId
  let payload := [0x01, 0x02] ++ leBytes 2 a.gwId ++ leBytes 4 w.gwSeq ++ leBytes 2 a.entries.length ++ zeros 2 ++ a.entries.flatten
  emitEth (.udp a.eth a.addr a.udp payload) (setGw a.gwId { w with gwSeq := (w.gwSeq + 1) % 2 ^ 32 } s)

/-- An entry is owed: it joins the open datagram of its address, which goes at 64 entries. DEDUCED: log entry 38. -/
def owe (eth addr udp gwId : Nat) (e : List Byte) (s : State) : State :=
  let mine := fun (a : GwAck) => a.eth == eth && a.addr == addr && a.udp == udp && a.gwId == gwId
  let rest := s.ing.gwAcks.filter (fun a => !mine a)
  let a : GwAck := match s.ing.gwAcks.find? mine with
    | some a => { a with entries := a.entries ++ [e] }
    | none => { eth := eth, addr := addr, udp := udp, gwId := gwId, since := s.elapsed, entries := [e] }
  if 64 ≤ a.entries.length then sendGwAck a { s with ing := { s.ing with gwAcks := rest } }
  else { s with ing := { s.ing with gwAcks := rest ++ [a] } }

/-- GW_ACK_HOLD passes for the datagrams that are due (R97). DESIGN CHOICE: log entry 37. -/
def gwAckDue (s : State) : State :=
  let due := fun (a : GwAck) => passed s a.since (paramN s .device 8 0 * tickUs)
  let l := s.ing.gwAcks.filter due
  l.foldl (fun t a => sendGwAck a t) { s with ing := { s.ing with gwAcks := s.ing.gwAcks.filter (fun a => !due a) } }

/-- A copy's acknowledgement decision on its own path's terms (R115). -/
def decide_ (yes : Bool) (i : Nat) (f : Frame) (s : State) : State :=
  match f.ret with
  | .none => s
  | .radio p ppdu ackable _ =>
    let v := vport s p
    if ackable then
      setVport p { v with acks := v.acks.map (fun a => if a.ppdu = ppdu then { a with decision := some yes, idx := i } else a) } s
    else s
  | .plc p n =>
    let q := lport s p
    let k := tget {} q.slots n
    if yes ∧ k.st ≠ .free ∧ grp s 1 then setLport p { q with slots := tset {} q.slots n { k with ackSeq := gSeq f, ackDue := true } } s else s
  | .gateway eth addr udp gwId =>
    if yes ∧ gAckReq f then
      owe eth addr udp gwId (slice f.bytes 4 12 ++ leBytes 1 (entry s i).pend.toNat ++ zeros 3) s
    else s

/-! ### The seen-cache (R108–R114) -/

def seenKey (f : Frame) (e : Seen) : Bool := e.idx == f.idx && e.seq == gSeq f && e.tagh == gTagh f
def seenOf (s : State) (f : Frame) : Option Seen := s.ing.seen.find? (seenKey f)
def modSeen (f : Frame) (g : Seen → Seen) (s : State) : State :=
  { s with ing := { s.ing with seen := s.ing.seen.map (fun e => if seenKey f e then g e else e) } }

def setOf (idx seq : Nat) : Nat := Config.seenSet idx seq % 16384
/-- Age of an entry, s: BORN counts seconds modulo 4,096. DESIGN CHOICE: log entry 35. -/
def seenAge (s : State) (e : Seen) : Nat := (nowS s + 4096 - e.born % 4096) % 4096
def seenWindow (s : State) : Nat := paramN s .device 0 0
def closed (e : Seen) : Bool := e.st != .inFlight

/-- The oldest of a list of entries. -/
def oldestSeen (s : State) : List Seen → Option Seen
  | [] => none
  | e :: t => match oldestSeen s t with
    | none => some e
    | some o => if seenAge s e < seenAge s o then some o else some e

/-- The way an insertion takes and the victim it displaces (R112): nothing when every eligible way is IN_FLIGHT.
DESIGN CHOICE: log entry 35. -/
def pickWay (s : State) (idx seq : Nat) (loc : Bool) : Option (Nat × Option Seen) :=
  let mine := s.ing.seen.filter (fun e => setOf e.idx e.seq == setOf idx seq)
  let ways := (List.range 16).filter (fun w => loc || decide (8 ≤ w))
  match ways.find? (fun w => !mine.any (fun e => e.way == w)) with
  | some w => some (w, none)
  | none =>
    let cl := ways.filterMap (fun w => mine.find? (fun e => closed e && e.way == w))
    match cl.find? (fun e => decide (seenWindow s ≤ seenAge s e)) with
    | some e => some (e.way, some e)
    | none => (oldestSeen s cl).map (fun e => (e.way, some e))

/-- Displacement before WINDOW (R111, R113); an age is a whole number of seconds, in ms. -/
def displaced (e : Seen) (s : State) : State :=
  let ms := seenAge s e * 1000
  if seenWindow s ≤ seenAge s e then s
  else
    let g := s.ing
    let s1 := bump 0x40044 1 { s with ing := { g with displ := (s.elapsed, ms) :: g.displ.filter (fun d => !passed s d.1 tickS) } }
    let told := match g.pressureAt with | some t => !passed s t tickS | none => false
    if ms < paramN s .device 1 0 ∧ !told then raise 10 ms 0 { s1 with ing := { s1.ing with pressureAt := some s.elapsed } } else s1

/-- ING_SC_MIN_AGE (R113, R137): the youngest displacement age of the last second; one that 16 bits cannot hold reads 0xFFFF, as none does.
DESIGN CHOICE: log entry 35. -/
def scMinAge (s : State) : Nat := ((s.ing.displ.filter (fun d => !passed s d.1 tickS)).map (·.2)).foldl min 0xFFFF

def pathBit (p : Nat) : Nat := 2 ^ (p - 1)

/-- The key by which a relay's frames name their seen-cache entry. -/
def relayKey (idx seq tagh : Nat) : Nat := idx * 2 ^ 48 + seq * 2 ^ 16 + tagh

/-- The relay of a displaced entry is dropped: its job, or its frames where no port has sent one (R202). DEDUCED: log entry 58. -/
def relayDisplaced (e : Seen) (s : State) : State :=
  let mine := fun (x : QItem) => match x.body with | .job j => j.idx == e.idx && j.seq == e.seq && j.tagh == e.tagh | _ => false
  let unsent := fun (f : TxFrame) => f.relay == some (relayKey e.idx e.seq e.tagh, false)
  if bit e.vane 6 ∧ (queue s 5).any mine then
    raise 37 e.idx 1 (bump 0x60018 1 (queueDepthSeen 5 (setQueue 5 ((queue s 5).filter (fun x => !mine x)) s)))
  else if s.van.ports.any (fun q => q.2.queue.any unsent) then
    raise 37 e.idx 1 (bump 0x60018 1 (recallRadio unsent s).2)
  else s

/-- Insert an accepted frame's entry and pass it to Quern, or let it wait (R110–R112). -/
def insertSeen (l : Nat) (f : Frame) (s : State) : Option State :=
  let loc := f.path == 1 || f.path == 2
  match pickWay s f.idx (gSeq f) loc with
  | none => none
  | some (w, victim) =>
    let s1 := match victim with
      | some e => relayDisplaced e (displaced e { s with ing := { s.ing with seen := s.ing.seen.erase e } })
      | none => s
    let e : Seen := { idx := f.idx, seq := gSeq f, tagh := gTagh f, loc := loc, born := nowS s % 4096, paths := pathBit f.path, way := w }
    let v := lane s1 l
    some (setLane l { v with quern := v.quern ++ [f] } { s1 with ing := { s1.ing with seen := s1.ing.seen ++ [e] } })

/-- The background walk (R112). -/
def seenWalk (s : State) : State :=
  { s with ing := { s.ing with seen := s.ing.seen.filter (fun e => !(closed e && decide (seenWindow s ≤ seenAge s e))) } }

/-! ### VANE bits of an entry (R199–R201): OUT_TTL [3:0], SUPP [5:4], RELAY_PEND [6], RELAYED [7] -/

def vaneWord (outTtl supp : Nat) (pend done : Bool) : Nat := outTtl % 16 + 16 * (min supp 3) + 64 * b2n pend + 128 * b2n done

/-- A further copy heard on a radio port while the relay waits (R201). -/
def vaneCopy (ttl v : Nat) : Nat :=
  if !bit v 6 then v
  else
    let out := max (bits v 0 4) (ttl - 1)
    vaneWord out (bits v 4 2 + b2n (decide (out ≤ ttl))) true (bit v 7)

/-! ### The Sluice (R104–R107) -/

/-- Order 1: the syntax checks. -/
def malformed (f : Frame) : Bool :=
  let n := gSender f
  bits (gCtl0 f) 6 2 != 1 || decide (4 ≤ gType f) || ((gType f == 3) != (gMode f == 3)) || (gType f == 3 && !gEuiForm f) ||
    (!gEuiForm f && (decide (bits n 20 4 ≠ 0) || decide (n / 2 ^ 40 ≠ 0))) ||
    decide (f.bytes.length ≠ 16 + gPlen f + gTagLen f) || decide (160 < f.bytes.length)

/-- The index whose entry the Sluice reads, and the BIND_GEN that travels (R105). -/
def sluiceIdx (s : State) (f : Frame) : Option (Nat × Nat) :=
  if gEuiForm f then f.res.map (fun r => (r.1, r.2.1)) else some (gIndex f, (entry s (gIndex f)).bindGen.toNat)

/-- The reason of a STRANGER verdict (R68, R104). -/
def strangerReason (s : State) (f : Frame) : Option Nat :=
  if gType f = 3 then some 3
  else if gEuiForm f then (if f.res.isNone then some 0 else none)
  else if (entry s (gIndex f)).state = .free then some 1
  else if bits (gSender f) 24 16 ≠ (entry s (gIndex f)).euiTag.toNat then some 2 else none

def countVerdict (l : Nat) (s : State) : State :=
  if s.dev.paceEn then { s with dev := { s.dev with verdRun := tmod 0 s.dev.verdRun l (fun n => sat32 (n + 1)) } } else s

/-- A DUPLICATE verdict (R111, R115, R201). -/
def duplicate (e : Seen) (f : Frame) (s : State) : State :=
  let hold := e.st == .inFlight
  let up := fun (x : Seen) => { x with copies := min 255 (x.copies + 1), paths := x.paths ||| pathBit f.path,
                                       vane := if f.path = 1 then vaneCopy (gTtl f) x.vane else x.vane,
                                       held := if hold then x.held ++ [f] else x.held }
  let s1 := modCold f.idx (fun c => { c with nDup := sat32 (c.nDup + 1) }) (bump 0x40014 1 (modSeen f up s))
  if hold then s1 else decide_ (e.st == .closedAck) f.idx f s1

/-- The seen-cache probe and the insertion that follows an ACCEPT, one indivisible operation, and with it the frame's verdict (R104,
R110); nothing while every way the insertion may take is IN_FLIGHT (R112). A closed entry whose age has passed WINDOW answers until the walk of
R112 empties it. DESIGN CHOICE: log entry 35. -/
def probe (l : Nat) (f : Frame) (s : State) : Option State :=
  match seenOf s f with
  | some e => some (duplicate e f (countVerdict l s))
  | none => insertSeen l f (bump 0x40010 1 (countVerdict l s))

/-- The last two orders of R104: a verdict, or the frame waits for a way with no verdict yet. DEDUCED: log entry 103. -/
def admission (l : Nat) (f : Frame) (s : State) : State :=
  (probe l f s).getD (let v := lane s l; setLane l { v with insWait := v.insWait ++ [f] } s)

/-- One verdict on the oldest frame of a lane's input (R104). `poison`: the Ledger read was uncorrectable (R107). -/
def verdict (l : Nat) (poison : Bool) (f0 : Frame) (s0 : State) : State :=
  let s := countVerdict l s0
  let silent := decide_ false 0 f0
  if malformed f0 then bump 0x40020 1 (silent s)
  else match sluiceIdx s f0 with
  | some (i, g) =>
    let f := { f0 with idx := i, bindGen := g }
    if poison then
      let s1 := bump 0x4001C 1 (bump 0x40040 1 (silent s))
      { s1 with led := { s1.led with poisoned := if s1.led.poisoned.contains i then s1.led.poisoned else i :: s1.led.poisoned } }
    else match strangerReason s f with
    | some r => stranger (if gEuiForm f then gSender f else 0) (if gEuiForm f then 0 else i) r f.path f.port f.rssi f.rxNs (bump 0x40018 1 (silent s))
    | none =>
      if (entry s i).state = .blocked then bump 0x4001C 1 (silent s) else admission l f s0
  | none => stranger (gSender f0) 0 (if gType f0 = 3 then 3 else 0) f0.path f0.port f0.rssi f0.rxNs (bump 0x40018 1 (silent s))

/-- The park buffer is full: the lane takes no frame from its input (R118). -/
def parkFull (v : Lane) : Bool := decide (64 ≤ v.park.length)

/-- SLUICE_VERDICT: where the copies disagree the lane stops and the frame stays (R101, R107). -/
def sluice (l : Nat) (agree poison : Bool) (s : State) : State :=
  let v := lane s l
  match v.input with
  | [] => s
  | f :: rest =>
    if !s.ing.run.getLsbD l ∨ parkFull v then s
    else if !agree then laneStop l 0 s
    else verdict l poison f (setLane l { v with input := rest } s)

/-- A waiting frame tries again, in a lane that runs (R101, R110, R112). -/
def insertRetry (l : Nat) (s : State) : State :=
  let v := lane s l
  match v.insWait with
  | [] => s
  | f :: rest => if !s.ing.run.getLsbD l then s else (probe l f (setLane l { v with insWait := rest } s)).getD s

/-! ### Fates (R111, R115) -/

/-- A held radio copy that R191 lets no acknowledgement answer is counted in VAN_ACK_LATE where the closing would have acknowledged it
(R115); one that R191 allows is judged at its own cut-off (R192). -/
def heldLate (yes : Bool) (c : Frame) (s : State) : State :=
  match c.ret with
  | .radio p _ false _ => if yes then bump (0x60110 + 0x40 * p) 1 s else s
  | _ => s

/-- Close a frame's entry with a state, or empty it, and judge the frame and its held copies by the closing. -/
def closeFrame (f : Frame) (st : Option ScSt) (s : State) : State :=
  let held := ((seenOf s f).map (·.held)).getD []
  let s1 := match st with
    | some k => modSeen f (fun e => { e with st := k, held := [] }) s
    | none => { s with ing := { s.ing with seen := s.ing.seen.filter (fun e => !seenKey f e) } }
  let yes := decide (st = some .closedAck)
  held.foldl (fun t c => decide_ yes f.idx c (heldLate yes c t)) (decide_ yes f.idx f s1)

/-! ### Quern (R116–R119) -/

def touchKey (i : Nat) (s : State) : State :=
  { s with sec := { s.sec with cache := (i :: s.sec.cache.filter (fun x => x != i)).take 65536 } }

/-- The header as authenticated (R88). -/
def gAad (f : Frame) : List Byte := leBytes 1 (gCtl0 f / 2 * 2) ++ leBytes 1 (gCtl1 f % 16) ++ slice f.bytes 2 14

/-- Decrypt and verify (R116, R117). -/
def openFrame (key : List Byte) (eui : Nat) (f : Frame) : Option (List Byte) :=
  let iv := beBytes 8 eui ++ beBytes 4 (gSeq f)
  let body := f.bytes.drop 16
  if gMode f = 2 then Config.gcmOpen key iv (gAad f) body
  else Config.ccmOpen key (iv ++ leBytes 1 (gCtl0 f / 2 * 2)) (gAad f) body (gTagLen f)

/-- Fate AUTH_FAIL; the event where the frame itself failed (R119). -/
def authFail (f : Frame) (cause : Option Nat) (s : State) : State :=
  let s1 := modCold f.idx (fun c => { c with nAuth := sat32 (c.nAuth + 1) }) (bump 0x40028 1 (closeFrame f none s))
  match cause with
  | some k => raise 6 f.idx k s1
  | none => s1

def toUpdate (l : Nat) (f : Frame) (s : State) : State := let v := lane s l; setLane l { v with update := v.update ++ [f] } s

/-- Decrypt under the key the slot holds. -/
def decryptFrame (l : Nat) (f : Frame) (k : Vault) (s : State) : State :=
  match openFrame k.key (if gEuiForm f then gSender f else k.eui) f with
  | none => authFail f (some 0) s
  | some p => let v := lane s l; setLane l { v with bolter := v.bolter ++ [{ f with plain := some p }] } s

/-- The oldest frame in a lane's Quern. DEDUCED: log entry 34. -/
def quern (l : Nat) (s : State) : State :=
  let v := lane s l
  match v.quern with
  | [] => s
  | f :: rest =>
    let s1 := setLane l { v with quern := rest } s
    match slotOf s f.idx with
    | none => toUpdate l f s1
    | some k =>
      if gKeyg f ≠ (entry s f.idx).keyGen.toNat then authFail f (some 1) s1
      else if s.ing.unwrapBad.contains f.idx then authFail f none s1
      else if s.sec.cache.contains f.idx then decryptFrame l f k (touchKey f.idx s1)
      else if parkFull v then s
      else bump 0x4002C 1 (setLane l { v with quern := rest, park := v.park ++ [f] } s)

/-- A key unwrapped after a miss; `ok`: its integrity check passed. DEDUCED: log entry 34. -/
def keyUnwrapped (l : Nat) (ok : Bool) (s : State) : State :=
  let v := lane s l
  match v.park with
  | [] => s
  | f :: rest =>
    let s1 := setLane l { v with park := rest } s
    match slotOf s f.idx with
    | none => toUpdate l f s1
    | some k =>
      if s.ing.unwrapBad.contains f.idx then authFail f none s1
      else if ok then decryptFrame l f k (touchKey f.idx s1)
      else
        let s2 := { s1 with ing := { s1.ing with unwrapBad := if s1.ing.unwrapBad.contains f.idx then s1.ing.unwrapBad else f.idx :: s1.ing.unwrapBad } }
        authFail f none (raise 15 f.idx 0 s2)

/-! ### Plaintexts (R90–R92) -/

def rEtimeS (p : List Byte) : Nat := ofLe (slice p 0 4)
def rEtimeMs (p : List Byte) : Nat := ofLe (slice p 4 2)
def rNreg (p : List Byte) : Nat := byteAt p 6
def rFlags (p : List Byte) : Nat := byteAt p 7
/-- REG[n]: code, exponent, VALUE's bits. -/
def rReg (p : List Byte) (n : Nat) : Nat × Int × Nat :=
  let x := byteAt p (9 + 6 * n)
  (byteAt p (8 + 6 * n), if x < 128 then (x : Int) else (x : Int) - 256, ofLe (slice p (10 + 6 * n) 4))
def rRegs (p : List Byte) : List (Nat × Int × Nat) := (List.range (rNreg p)).map (rReg p)

/-- Seconds, low 32 bits, with the upper bits that lie nearest to a reference (R140). DEDUCED: log entry 44. -/
def nearestS (lo ref : Nat) : Int :=
  let d : Nat := (lo + 2 ^ 32 - ref % 2 ^ 32) % 2 ^ 32
  (ref : Int) + (if d < 2 ^ 31 then (d : Int) else (d : Int) - 2 ^ 32)

/-- The receive time's seconds count. -/
def rxS (f : Frame) : Nat := f.rxNs / 1000000000
/-- The receive time in whole milliseconds, the fraction dropped. DESIGN CHOICE: log entry 141. -/
def rxMs (f : Frame) : Nat := f.rxNs / 1000000

/-- ETIME in ms (R90, R92, R140). -/
def etimeMs (f : Frame) (p : List Byte) : Int :=
  if isAlarm f then nearestS (ofLe (slice p 4 4)) (rxS f) * 1000 + ofLe (slice p 2 2)
  else nearestS (rEtimeS p) (rxS f) * 1000 + rEtimeMs p

/-- The plaintext holds the frame's reading time (R121). -/
def hasTime (f : Frame) (p : List Byte) : Bool := (isReading f && decide (6 ≤ p.length)) || (isAlarm f && decide (8 ≤ p.length))

/-! ### Bolter (R126) -/

/-- The kinds a code is permitted for (R91). -/
def codeKind (code kind : Nat) : Bool :=
  match code with
  | 0x03 | 0x04 => kind == 0
  | 0x20 | 0x22 => kind == 2
  | 0x21 => kind == 1 || kind == 2
  | c => (regRange c).isSome

/-- `v` × 10^`e` ≤ `b`, exactly. -/
def leScaled (v e b : Int) : Bool := if 0 ≤ e then decide (v * 10 ^ e.toNat ≤ b) else decide (v ≤ b * 10 ^ (-e).toNat)
def geScaled (v e b : Int) : Bool := leScaled (-v) e (-b)

/-- A register lies within its range (R135): thousandths of the unit, or whole units of the unsigned codes; a bound at the end
of the encoding is no bound. -/
def inRange (s : State) (r : Nat × Int × Nat) : Bool :=
  let r1_ := r
  let code := r1_.1
  let e := r1_.2.1
  let bits_ := r1_.2.2
  let lo := param s .device 6 (code * 256)
  let hi := param s .device 6 (code * 256 + 1)
  if unsignedCode code then (lo == 0 || geScaled bits_ e lo) && (hi == 0xFFFFFFFF || leScaled bits_ e hi)
  else
    let v := sgn32 bits_ * 1000
    (lo == -0x80000000 || geScaled v e lo) && (hi == 0x7FFFFFFF || leScaled v e hi)

def rule1 (p : List Byte) : Bool :=
  decide (7 ≤ p.length ∧ 2 ≤ rNreg p ∧ rNreg p ≤ 16 ∧ p.length = 8 + 6 * rNreg p ∧ rEtimeMs p ≤ 999 ∧ rFlags p < 16)
def rule2 (p : List Byte) : Bool :=
  let a := rReg p 0
  let b := rReg p 1
  decide (a.1 = 1 ∧ a.2.1 = 0 ∧ b.1 = 2 ∧ b.2.1 = 0)
def rule3 (kind : Nat) (p : List Byte) : Bool :=
  let codes := (rRegs p).map (·.1)
  codes.all (fun c => (regRange c).isSome && codeKind c kind) && decide codes.Nodup
/-- DEDUCED: log entry 44. -/
def rule5 (s : State) (f : Frame) (p : List Byte) : Bool :=
  let t := etimeMs f p * 1000000
  decide ((f.rxNs : Int) - param s .device 3 0 * 1000000000 ≤ t ∧ t ≤ (f.rxNs : Int) + param s .device 4 0 * 1000000000)

/-- The lowest-numbered stateless rule a frame breaks; 0 none. -/
def bolterRule (s : State) (f : Frame) (p : List Byte) : Nat :=
  if isReading f then
    if !rule1 p then 1 else if !rule2 p then 2 else if !rule3 (entry s f.idx).kind.toNat p then 3
    else if !(rRegs p).all (inRange s) then 4
    else if bit (rFlags p) 0 ∧ !rule5 s f p then 5 else 0
  else if isAlarm f then
    let n := p.length
    let b8 := n % 4 = 0 ∧ 8 ≤ n ∧ n ≤ 24
    if 8 ≤ n ∧ !rule5 s f p then 5 else if b8 then 0 else 8
  else 0

def bolter (l : Nat) (s : State) : State :=
  let v := lane s l
  match v.bolter with
  | [] => s
  | f :: rest => setLane l { v with bolter := rest, update := v.update ++ [{ f with rule := bolterRule s f (f.plain.getD []) }] } s

/-! ### The replay window (R121) -/

inductive Judged where
  | replay | late | pass (ahead seed : Bool) (last map : Nat)
  deriving DecidableEq, Repr

/-- A sequence number against LAST_SEQ and SEQ_MAP. -/
def windowJudge (last map seq : Nat) : Judged :=
  let d := (seq + 2 ^ 32 - last) % 2 ^ 32
  if d = 0 then .late
  else if d < 0x80000000 then
    .pass true false seq (if d ≤ 31 then (map * 2 ^ d + 2 ^ (d - 1)) % 2 ^ 32 else if d = 32 then 0x80000000 else 0)
  else
    let back := 2 ^ 32 - d
    if 32 < back then .replay
    else if map.testBit (back - 1) then .late
    else .pass false false last (map + 2 ^ (back - 1))

/-- The judgment of a frame, RESYNC included. -/
def replayJudge (s : State) (e : Entry) (f : Frame) (p : List Byte) : Judged :=
  let q := gSeq f
  if e.resync then
    if q < e.lastSeq.toNat then .replay
    else if !hasTime f p ∨ (paramN s .device 2 0 * 1000 : Int) < (rxMs f : Int) - etimeMs f p then .late
    else .pass true true q 0
  else windowJudge e.lastSeq.toNat e.seqMap.toNat q

/-! ### Export (R128–R134) -/

def exportOn (s : State) : Bool := !s.ing.paused && s.ing.headEnd.isSome && !frozen s 6
def expEths (s : State) : List Nat := match paramN s .device 12 0 with | 0 => [0] | 1 => [1] | _ => [0, 1]

/-- Send a batch on its ports; a resend carries RESEND. It counts as sent though no datagram leaves a port whose clock is lost.
DEDUCED: log entry 39. -/
def sendBatch (resend : Bool) (b : Batch) (s : State) : State :=
  match s.ing.headEnd with
  | none => s
  | some (_, addr, port) =>
    let data := if resend then b.bytes.take 3 ++ leBytes 1 (byteAt b.bytes 3 + 1) ++ b.bytes.drop 4 else b.bytes
    (expEths s).foldl (fun t e => bump 0x40054 1 (emitEth (.udp e addr port data) t)) s

/-- Send the unsent batches in the ring, oldest first (R134). -/
def resumeExport (s : State) : State :=
  if !exportOn s then s
  else
    let s1 := (s.ing.ring.filter (fun b => !b.sent && !b.unkeyed)).foldl (fun t b => sendBatch false b t) s
    { s1 with ing := { s1.ing with ring := s1.ing.ring.map (fun b => if b.unkeyed then b else { b with sent := true }) } }

def expRingBytes (s : State) : Nat := paramN s .device 11 0 * 2 ^ 20

/-- A batch leaves the ring, or finds no memory to stand in: lost where it was to be sent and was not (R132, R31). -/
def lostBatch (o : Batch) (s : State) : State :=
  if o.sent ∨ o.unkeyed then s
  else raise 13 1 0 (bump 0x40058 1 { s with ing := { s.ing with lost := sat32 (s.ing.lost + 1) } })

/-- The ring overwrites its oldest batches until `room` bytes fit (R132). -/
def trimRing (room : Nat) : Nat → State → State
  | 0, s => s
  | n + 1, s =>
    match s.ing.ring with
    | [] => s
    | o :: rest =>
      if (s.ing.ring.map (·.bytes.length)).sum + room ≤ expRingBytes s then s
      else
        let s1 := { s with ing := { s.ing with ring := rest } }
        trimRing room n (lostBatch o s1)

/-- The open batch is to be tagged (R129, R133). -/
def batchKeyed (b : OpenBatch) : Bool := b.key != []

/-- The batch header (R129). -/
def batchHeader (s : State) (b : OpenBatch) (body : Nat) : List Byte :=
  leBytes 2 0xC27E ++ [0x01] ++ leBytes 1 (2 * b2n s.brk.unitId + 4 * b2n (!batchKeyed b)) ++ leBytes 4 Config.deviceId ++ leBytes 8 b.seq
    ++ leBytes 4 (b.openNs / 1000000000) ++ leBytes 4 b.openNs ++ leBytes 2 b.recs.length ++ leBytes 2 body ++ leBytes 4 s.ing.lost

def exportIv (n : Nat) : List Byte := beBytes 4 Config.deviceId ++ beBytes 8 n

/-- Close the open batch (R129–R132): its tag, the ring, the archive, its ports. -/
def closeBatch (s : State) : State :=
  match s.ing.batch with
  | none => s
  | some b =>
    let recs := b.recs.flatten
    let msg := batchHeader s b recs.length ++ recs
    let bytes := msg ++ (if batchKeyed b then Config.gmac b.key (exportIv b.seq) msg else zeros 16)
    let go := exportOn s && batchKeyed b && memUp s
    let it : Batch := { seq := b.seq, bytes := bytes, unkeyed := !batchKeyed b, sent := go }
    let s1 := trimRing bytes.length s.ing.ring.length { s with ing := { s.ing with batch := none, lost := 0 } }
    let s2 := if memUp s then { s1 with ing := { s1.ing with ring := s1.ing.ring ++ [it] } } else lostBatch it s1
    let s3 := if param s .granary 2 0 = 2 then
        archive 0 (leBytes 2 bytes.length ++ zeros 2 ++ bytes ++ zeros ((4 - bytes.length % 4) % 4)) b.seq s2
      else s2
    if go then sendBatch false it s3 else s3

/-- A record enters the open batch, or opens one (R129, R131). -/
def openBatch (r : List Byte) (s : State) : State :=
  let r2_ := takeReserve 0 s
  let v := r2_.1
  let s1 := r2_.2
  match v with
  | none => s1
  | some n => { s1 with ing := { s1.ing with batch := some { seq := n, openNs := nowNs s, openAt := s.elapsed, key := devKey s 0, recs := [r] } } }

def exportRec (r : List Byte) (s : State) : State :=
  match s.ing.batch with
  | none => openBatch r s
  | some b =>
    if paramN s .device 9 0 < 48 + (b.recs.map (·.length)).sum + r.length then openBatch r (closeBatch s)
    else { s with ing := { s.ing with batch := some { b with recs := b.recs ++ [r] } } }

def batchTimeout (s : State) : State :=
  match s.ing.batch with
  | some b => if passed s b.openAt (paramN s .device 10 0 * tickMs) then closeBatch s else s
  | none => s

/-- The export record of a committed frame (R128). -/
def exportBytes (s : State) (f : Frame) (p : List Byte) (noDelta : Bool) : List Byte :=
  let info := f.idx + gType f * 2 ^ 20 + f.path * 2 ^ 23 + (entry s f.idx).kind.toNat * 2 ^ 26 + b2n noDelta * 2 ^ 28
  let eui := if gEuiForm f then gSender f else euiOf s f.idx
  leBytes 4 info ++ leBytes 8 eui ++ leBytes 4 (gSeq f) ++ leBytes 4 (rxS f) ++ leBytes 4 f.rxNs ++ p ++ zeros ((8 - p.length % 8) % 8)

/-- The record of a counter's ceiling is written (R131). -/
def reserveBlock (k : Nat) : Nat := if k = 0 then 2 ^ 32 else if k = 1 then 2 ^ 14 else 2 ^ 20

/-- DEDUCED: log entry 40. -/
def reserveRecord (k : Nat) (s : State) : State :=
  let r := reserve s k
  let blk := reserveBlock k
  if !(r.startDue || r.stopped || decide (r.ceil ≤ r.val + blk / 2)) then s
  else
    let r' : Reserve := { val := r.val, ceil := if r.startDue then r.val + blk else r.ceil + blk, startDue := false, stopped := false, notSent := 0 }
    let s1 := setReserve k r' (appendCounter k r'.ceil s)
    if r.stopped then recordOnly 401 k r.notSent s1 else s1

/-! ### The Ledger update (R120–R124) -/

/-- RETIME_LAG of a path (R140, R177), ms. -/
def retimeLag (s : State) (path : Nat) : Nat := paramN s .weir 3 (path - 1) * 1000

/-- T of a READING, ms (R140). -/
def readingT (s : State) (f : Frame) (p : List Byte) : Nat :=
  if bit (rFlags p) 0 then (etimeMs f p).toNat else rxMs f - retimeLag s f.path

/-- The energy delta of a READING enters the Weir (R141–R145, R169, R172); tells whether it counted as a reporter. -/
def weirDelta (f : Frame) (p : List Byte) (old : Entry) (s : State) : Bool × State :=
  let i := f.idx
  let t := readingT s f p
  let heard := nearestS old.lastHeard.toNat (rxS f)
  let since := ((rxS f : Int) - heard).toNat
  let prev := prevInterval s old (rxMs f) since
  let t0 := heard - max 0 ((rxS f : Int) - t / 1000)
  let di : Nat := ((rReg p 0).2.2 + 2 ^ 32 - old.impWh.toNat) % 2 ^ 32
  let de : Nat := ((rReg p 1).2.2 + 2 ^ 32 - old.expWh.toNat) % 2 ^ 32
  let parts := attributeDelta s t (t0 * 1000) prev ((di : Int) - de)
  let isRep := fun (k : Nat) => match prev with | none => true | some q => decide (q < k)
  let est := !bit (rFlags p) 0 || bit (rFlags p) 3 || decide (3 ≤ parts.length)
  let mk := fun (x : Nat × Int) => ({ interval := x.1, idx := i, leg := old.leg.toNat, net := x.2, reporter := isRep x.1, est := est,
                                      outage := bit (rFlags p) 2 } : Part)
  let rep := parts.any (fun x => isRep x.1)
  let newest := ((parts.getLast?).map (·.1)).getD 0
  let s1 := bump 0x50018 (b2n (decide (2 ≤ parts.length))) (bump 0x50014 1
    { s with wei := { s.wei with parts := s.wei.parts ++ parts.map mk } })
  let s2 := setEntry i { entry s1 i with intTag := BitVec.ofNat 8 (nextTag s t prev) } s1
  let s3 := anomReading i (bit (rFlags p) 1) (decide (3 ≤ parts.length)) rep (decide (prev = some newest)) s2
  (rep, phaseEvidence i s3)

/-- RMS voltage in mV, truncated (R175). -/
def voltageOf (p : List Byte) : Option Int :=
  ((rRegs p).find? (fun r => r.1 == 0x10)).map (fun r =>
    if 0 ≤ r.2.1 then sgn32 r.2.2 * 1000 * 10 ^ r.2.1.toNat else (sgn32 r.2.2 * 1000).tdiv (10 ^ (-r.2.1).toNat))

/-- What the register values of a committed READING do (R123): tells whether it produced no delta, and whether it counted as a
reporter. -/
def readingWrites (f : Frame) (p : List Byte) (ahead : Bool) (old : Entry) (s : State) : Bool × Bool × State :=
  let i := f.idx
  let put := fun (t : State) =>
    let e := entry t i
    setEntry i { e with impWh := BitVec.ofNat 32 (rReg p 0).2.2, expWh := BitVec.ofNat 32 (rReg p 1).2.2 } t
  let volts := fun (t : State) => match voltageOf p with
    | some mv => if bit (rFlags p) 0 then sampleVoltage i ((readingT s f p + 999) / 1000) mv t else t
    | none => t
  if !ahead then (true, false, volts s)
  else
    let s1 := modCold i (fun c => { c with lastReading := (rRegs p).map (·.2.2) }) s
    if old.baseline then
      let e := entry s1 i
      let tag := (intervalMs s (readingT s f p) + 255) % 256
      (true, false, volts (put (setEntry i { e with baseline := false, intTag := BitVec.ofNat 8 tag } s1)))
    else
      let r3_ := weirDelta f p old (put s1)
      let rep := r3_.1
      let s2 := r3_.2
      (false, rep, volts s2)

/-- Tailrace's record after a commit (R255). -/
def dlCommit (f : Frame) (s : State) : State :=
  let r := dl s f.idx
  match f.path with
  | 3 => setDl f.idx { r with gwId := f.gw.getD 0, gwEth := f.port, gwValid := true } s
  | 1 => setDl f.idx (if f.bcast then { r with floodOnly := true } else { r with floodOnly := false, ufail := 0 }) s
  | _ => s

/-- A relay is scheduled (R200, R202); the delay is a uniform draw, which the spec leaves free. DESIGN CHOICE: log entry 37. -/
def relaySchedule (f : Frame) (s : State) : State :=
  let mask := paramN s .vane 12 0
  match seenOf s f with
  | none => s
  | some e =>
    if f.path ≠ 1 ∨ !f.bcast ∨ gTtl f = 0 ∨ mask = 0 ∨ bit e.vane 6 ∨ bit e.vane 7 then s
    else
      let r4_ := drawFree 64 s
      let r := r4_.1
      let s1 := r4_.2
      let job : RelayJob := { frame := f.bytes, idx := f.idx, seq := gSeq f, tagh := gTagh f
                              due := s.elapsed + r % (paramN s .vane 10 0 * tickMs + 1) }
      let first := cnt (queLost 5) s1 = 0
      let r5_ := pushKeep 5 (.job job) s1
      let ok := r5_.1
      let s2 := r5_.2
      if ok then modSeen f (fun x => { x with vane := vaneWord (gTtl f - 1) 0 true false }) s2
      else
        let s3 := raise 37 f.idx 2 (bump 0x60018 1 s2)
        if first then raise 38 1024 0 s3 else s3

/-- A COMMITTED fate (R123, R124, R128, R200, R255). -/
def commit (f : Frame) (p : List Byte) (ahead seed : Bool) (last map : Nat) (s : State) : State :=
  let i := f.idx
  let old := entry s i
  let e := { old with
    lastSeq := BitVec.ofNat 32 last, seqMap := BitVec.ofNat 32 map, lastHeard := BitVec.ofNat 32 (rxS f), path := BitVec.ofNat 3 f.path
    port := BitVec.ofNat 3 f.port, hops := BitVec.ofNat 4 f.hops, state := .present, resync := old.resync && !seed }
  let s1 := bump 0x40024 1 (setEntry i e s)
  let s2 := modCold i (fun c => { c with nAccept := sat32 (c.nAccept + 1), firstHeard := if c.firstHeard = 0 then rxS f % 2 ^ 32 else c.firstHeard }) s1
  let s3 := if old.state = .present then s2 else raise 2 i 0 s2
  let r6_ := if isReading f then readingWrites f p ahead old s3 else (false, false, s3)
  let noDelta := r6_.1
  let rep := r6_.2.1
  let s4 := r6_.2.2
  let s5 := closeFrame f (some .closedAck) (relaySchedule f s4)
  let recd := exportBytes s5 f p noDelta
  let keep := isAlarm f || (isReading f && s.wei.en && (rep || (ahead && old.baseline)))
  let s6 := if isReading f ∨ isAlarm f then exportRec recd s5 else { s5 with tai := { s5.tai with confirms := s5.tai.confirms ++ [(i, p)] } }
  let s7 := if keep ∧ param s .granary 2 0 = 1 then archive 1 (leBytes 2 recd.length ++ zeros 2 ++ recd) 0 s6 else s6
  commitSend i (dlCommit f s7)

/-- Rule B6 or B7 that a READING ahead of LAST_SEQ breaks; 0 none (R126). -/
def statefulRule (s : State) (f : Frame) (p : List Byte) (e : Entry) : Nat :=
  let di : Nat := ((rReg p 0).2.2 + 2 ^ 32 - e.impWh.toNat) % 2 ^ 32
  let de : Nat := ((rReg p 1).2.2 + 2 ^ 32 - e.expWh.toNat) % 2 ^ 32
  let since := (rxS f : Int) - nearestS e.lastHeard.toNat (rxS f)
  let most := ((paramN s .device 5 e.kind.toNat * 1000 : Nat) * (since + 2)).fdiv 3600 + 1
  if 0x80000000 ≤ di ∨ 0x80000000 ≤ de then 6 else if most < di ∨ most < de then 7 else 0

/-- A REFUSED fate (R123, R127). -/
def refusedFate (f : Frame) (rule last map : Nat) (s : State) : State :=
  let i := f.idx
  let e := entry s i
  let s1 := if e.resync then s else setEntry i { e with lastSeq := BitVec.ofNat 32 last, seqMap := BitVec.ofNat 32 map } s
  let s2 := modCold i (fun c => { c with nBolter := sat32 (c.nBolter + 1) }) (bump (0x40100 + 4 * (rule - 1)) 1 (bump 0x4003C 1 s1))
  closeFrame f (some .closedAck) (raise 7 i rule s2)

/-- The Ledger update (R120): binding, BLOCKED, the window, the stateful rules, the writes. -/
def updateFrame (f : Frame) (s : State) : State :=
  let i := f.idx
  let e := entry s i
  let p := f.plain.getD []
  if e.state = .free ∨ e.bindGen.toNat ≠ f.bindGen ∨ f.plain.isNone then
    closeFrame f (some .closedSilent) (raise 9 i f.bindGen (bump 0x40038 1 s))
  else if e.state = .blocked then closeFrame f none (bump 0x4001C 1 s)
  else match replayJudge s e f p with
  | .replay => closeFrame f (some .closedSilent) (raise 8 i (gSeq f)
      (modCold i (fun c => { c with nReplay := sat32 (c.nReplay + 1) }) (bump 0x40030 1 s)))
  | .late => closeFrame f (some .closedAck) (modCold i (fun c => { c with nDup := sat32 (c.nDup + 1) }) (bump 0x40034 1 s))
  | .pass ahead seed last map =>
    let rule := if f.rule ≠ 0 then f.rule else if isReading f ∧ ahead ∧ !e.baseline then statefulRule s f p e else 0
    if rule ≠ 0 then refusedFate f rule last map s else commit f p ahead seed last map s

/-- LEDGER_UPDATE; `bad`: the entry's read is uncorrectable, and it is rebuilt first. -/
def ledgerUpdate (l : Nat) (bad : Bool) (s : State) : State :=
  let v := lane s l
  match v.update with
  | [] => s
  | f :: rest =>
    let s1 := setLane l { v with update := rest } s
    let s2 := if s1.dev.paceEn && s.ing.run.getLsbD l then { s1 with dev := { s1.dev with doneRun := tmod 0 s1.dev.doneRun l (fun n => sat32 (n + 1)) } } else s1
    updateFrame f (if bad then rebuild f.idx s2 else s2)

/-! ### Meanings -/

def execSluiceVerdict (lane : Fin 4) (agree poison : Bool) (s : State) : Res := .next (if dark s .ing then s else sluice lane.val agree poison s)
def execSeenCacheInsert (lane : Fin 4) (s : State) : Res := .next (if dark s .ing then s else insertRetry lane.val s)
def execQuernAuth (lane : Fin 4) (s : State) : Res := .next (if halted s .ing 7 then s else quern lane.val s)
def execKeyUnwrapDone (lane : Fin 4) (ok : Bool) (s : State) : Res := .next (if halted s .ing 11 || !memUp s then s else keyUnwrapped lane.val ok s)
def execBolterRules (lane : Fin 4) (s : State) : Res := .next (if halted s .ing 7 then s else bolter lane.val s)
def execLedgerUpdate (lane : Fin 4) (bad : Bool) (s : State) : Res := .next (if halted s .ing 7 then s else ledgerUpdate lane.val bad s)
def execSeenCacheWalk (s : State) : Res := .next (if dark s .ing then s else seenWalk s)
def execGwAckSend (s : State) : Res := .next (if halted s .ing 6 then s else gwAckDue s)
def execBatchTimeout (s : State) : Res := .next (if dark s .ing then s else batchTimeout s)
def execCounterReserveRecord (which : Fin 3) (s : State) : Res := .next (if dark s .ing then s else reserveRecord which.val s)

end Sys2Proof.Machine
end

