-- ==== Sys2Proof/Machine/Headrace.lean ====
section
/-! DEFINITION. Headrace, the staging ring, resend requests, the device group's ingest commands, load and PACE (R24–R27, R94–R99,
R133–R135, R370). -/

namespace Sys2Proof.Machine

/-! ### Datagrams (R94–R96) -/

/-- A UDP datagram of an Ethernet frame: address family, source address (its first byte lowest), ports, payload. -/
structure Datagram where
  af : Nat
  src : Nat
  sport : Nat
  dport : Nat
  payload : List Byte
  deriving DecidableEq, Repr

/-- A frame with one IEEE 802.1Q tag taken off. -/
def untag (l : List Byte) : List Byte := if ofBe (slice l 12 2) = 0x8100 then l.take 12 ++ l.drop 16 else l

/-- The UDP datagram at an offset of an untagged frame, within the `room` bytes its IP header gives it; its checksum, where present, must
be correct (R94). -/
def udpAt (l : List Byte) (af u room : Nat) : Option Datagram :=
  let n := ofBe (slice l (u + 4) 2)
  let src := if af = 4 then slice l 26 4 else slice l 22 16
  if n < 8 ∨ room < n ∨ l.length < u + n ∨ (slice l (u + 6) 2 ≠ [0, 0] ∧ slice l (u + 6) 2 ≠ udpSum l u (if af = 4 then 1 else 2)) then none
  else some { af := af, src := ofLe src, sport := ofBe (slice l u 2), dport := ofBe (slice l (u + 2) 2), payload := slice l (u + 8) (n - 8) }

/-- The datagram a frame, without its FCS, carries as R94 asks: UDP over IPv4 without options or IPv6, at most one tag, not fragmented.
PRESUMED: log entry 128. -/
def udpParse (frame : List Byte) : Option Datagram :=
  let l := untag frame
  let ty := ofBe (slice l 12 2)
  if ty = 0x0800 ∧ byteAt l 14 = 0x45 ∧ ofBe (slice l 20 2) % 2 ^ 14 = 0 ∧ byteAt l 23 = 17 then udpAt l 4 34 (ofBe (slice l 16 2) - 20)
  else if ty = 0x86DD ∧ byteAt l 14 / 16 = 6 ∧ byteAt l 20 = 17 then udpAt l 6 54 (ofBe (slice l 18 2))
  else none

/-- The frame blocks of a payload after its header (R95), as RSSI and GRF; nothing when a block is at fault. -/
def hrBlocks : Nat → List Byte → Option (List (Byte × List Byte))
  | 0, l => if l = [] then some [] else none
  | n + 1, l =>
    let flen := byteAt l 0
    let pad := (4 - flen % 4) % 4
    if flen < 16 ∨ 160 < flen ∨ 4 ≤ byteAt l 1 ∨ byteAt l 3 ≠ 0 ∨ l.length < 4 + flen + pad ∨ slice l (4 + flen) pad ≠ zeros pad then none
    else (hrBlocks n (l.drop (4 + flen + pad))).map (fun t => (l.getD 2 0, slice l 4 flen) :: t)

/-- GW_ID and the blocks of a well-formed KIND 0x01 datagram (R95). -/
def hrParse (l : List Byte) : Option (Nat × List (Byte × List Byte)) :=
  let gw := ofLe (slice l 2 2)
  let n := ofLe (slice l 8 2)
  if l.length < 12 ∨ byteAt l 0 ≠ 1 ∨ byteAt l 1 ≠ 1 ∨ 4096 ≤ gw ∨ n = 0 ∨ 64 < n ∨ slice l 10 2 ≠ zeros 2 then none
  else (hrBlocks n (l.drop 12)).map (fun b => (gw, b))

/-- A dropped datagram (R94): counted, raised with its GW_ID where known; the cause codes are open. DEDUCED: log entry 38. -/
def hrDrop (gw : Nat) (s : State) : State :=
  let r1_ := drawFree 32 s
  let c := r1_.1
  let s1 := r1_.2
  raise 11 gw c (bump 0x4004C 1 s1)

/-- The source GW_ID of a dropped datagram (R138): bytes 2–3 of any payload that has them, whatever else is wrong with it; unknown for a
shorter payload or a frame that carries no datagram as R94 asks. DESIGN CHOICE: log entry 127. -/
def gwOf (l : List Byte) : Nat := if l.length < 4 then 0xFFFF else ofLe (slice l 2 2)

def stagedBytes (s : State) : Nat := (s.ing.staging.map (·.payload.length)).sum

/-- A datagram finds the staging ring full (R96): the event tells how many were dropped in the last second (R138). -/
def stagingOverflow (s : State) : State :=
  let l := s.elapsed :: s.ing.ovf.filter (fun t => !passed s t tickS)
  raise 12 l.length 0 (bump 0x40050 1 { s with ing := { s.ing with ovf := l } })

def stage (d : Staged) (s : State) : State :=
  if 2 ^ 26 < stagedBytes s + d.payload.length then stagingOverflow s
  else { s with ing := { s.ing with staging := s.ing.staging ++ [d] } }

/-- No datagram is taken: Millrace is dark, Headrace's DMA is frozen (R465), Headrace is closed, or the Ethernet ports or the memory that holds the staging ring have lost
their clock (R31, R492, R503). -/
def hrClosed (s : State) : Bool := halted s .ing 6 || !s.ing.hrOpen || !ethUp s || !memUp s

/-- A datagram on an Ethernet port (R94, R96, R258). -/
def headrace (f : UdpIn) (s : State) : State :=
  if hrClosed s then s
  else match udpParse f.frame with
  | none => hrDrop 0xFFFF s
  | some d =>
    if d.dport ≠ paramN s .device 7 0 then hrDrop (gwOf d.payload) s
    else match hrParse d.payload with
    | none => hrDrop (gwOf d.payload) s
    | some (g, _) =>
      let w := gwAt s g
      if !w.set ∨ w.af ≠ d.af ∨ w.addr ≠ d.src then hrDrop g s
      else
        let s1 := setGw g { w with seen := true, eth := f.eth.val, udp := d.sport } s
        stage { gwId := g, pcie := false, eth := f.eth.val, addr := d.src, udp := d.sport, rxNs := nowNs s, payload := d.payload } s1

/-- The frames of a staged datagram (R95, R98). -/
def stagedFrames (d : Staged) : List Frame :=
  match hrParse d.payload with
  | none => []
  | some (_, bs) => bs.map (fun b =>
      { bytes := b.2, path := if d.pcie then 4 else 3, port := if d.pcie then 0 else d.eth, rxNs := d.rxNs, gw := some d.gwId
        ret := if d.pcie then .none else .gateway d.eth d.addr d.udp d.gwId })

/-- An entry sequence has come to a step (R492). -/
def entryPast (s : State) (k : Nat) : Bool := s.pwr.entry.any (fun e => decide (k ≤ e.2.1))

/-- The lanes' input buffers take a datagram's frames. DEDUCED: log entry 36. -/
def roomFor (s : State) (fs : List Frame) : Bool :=
  (List.range 4).all (fun l => decide ((fs.filter (fun f => laneOf s.ing.mapRun (resolve s f) == l)).length + (lane s l).input.length ≤ 256))

/-- The next datagram of the staging ring is drawn (R96, R103, R492, R504). -/
def laneDraw (s : State) : State :=
  match s.ing.staging with
  | [] => s
  | d :: rest =>
    let fs := stagedFrames d
    if halted s .ing 6 ∨ !memUp s ∨ s.dev.quiet ∨ s.ing.run = 0 ∨ entryPast s 3 ∨ !roomFor s fs then s
    else fs.foldl (fun t f => present f t) { s with ing := { s.ing with staging := rest } }

/-! ### Resend requests (R133) -/

/-- Listed batches: those still in the ring go again; a number below the counter that is not in the ring — one that a start's jump of BATCH_SEQ
skipped among them — or is UNKEYED, is unserved; one not yet formed, the open batch among them, is neither. DEDUCED: log entry 39. -/
def resendRange (lo hi : Nat) (s : State) : State :=
  (List.range (min (hi + 1) (reserve s 0).val - lo)).foldl (fun t k =>
    match t.ing.ring.find? (fun b => b.seq == lo + k && !b.unkeyed) with
    | some b => if exportOn t then sendBatch true b t else t
    | none => if t.ing.batch.any (fun b => b.seq == lo + k) then t else raise 14 ((lo + k) % 2 ^ 32) 0 t) s

/-- DEDUCED: log entry 39. -/
def nack (f : UdpIn) (s : State) : State :=
  if hrClosed s then s
  else match udpParse f.frame with
  | none => hrDrop 0xFFFF s
  | some d =>
  let l := d.payload
  let n := ofLe (slice l 2 4)
  let num := ofLe (slice l 6 8)
  let key := devKey s 0
  if d.dport ≠ paramN s .device 7 0 ∨ ofLe (slice l 0 2) ≠ 0xC27F ∨ n = 0 ∨ 16 < n ∨ l.length ≠ 30 + 16 * n ∨
      num < 2 ^ 63 ∨ key = [] ∨ Config.gmac key (exportIv num) (l.take (14 + 16 * n)) ≠ l.drop (14 + 16 * n) ∨ num ≤ s.ing.lastNack then
    hrDrop 0xFFFF s
  else
    (List.range n).foldl (fun t k => resendRange (ofLe (slice l (14 + 16 * k) 8)) (ofLe (slice l (22 + 16 * k) 8)) t)
      { s with ing := { s.ing with lastNack := num } }

/-! ### Commands (R98, R370) -/

/-- EXPORT_RING changes only while export is paused (R135). -/
def ingestRefusal (ents : List CfgEntry) (s : State) : Option Status :=
  if sets ents 11 ∧ !s.ing.paused then some .refusedState else none

/-- The head end after the entries of the head-end row: the row's IPv4 address, or the one that stands where only the port is set; none
without an address or a port. DESIGN CHOICE: log entry 43. -/
def headEndRow (ents : List CfgEntry) (s : State) : Option (Nat × Nat × Nat) :=
  let port := paramN s .device 13 1
  let keep := !ents.any (fun e => e.pid.toNat == 13 && e.scope.toNat == 0)
  let host : Nat × Nat := match s.ing.headEnd with
    | some (af, addr, _) => if keep then (af, addr) else (4, toU32 (param s .device 13 0))
    | none => (4, toU32 (param s .device 13 0))
  if port = 0 ∨ host.2 = 0 then none else some (host.1, host.2, port)

/-- The head-end row, an IPv4 address and its port; and a smaller ring's overwriting. DESIGN CHOICE: log entry 43. -/
def ingestAfter (ents : List CfgEntry) (_ : Tab Int) (s : State) : State :=
  let s1 := if sets ents 11 then trimRing 0 s.ing.ring.length s else s
  if sets ents 13 then
    resumeExport { s1 with ing := { s1.ing with headEnd := headEndRow ents s } }
  else s1

def gatewaySetCmd (g op af addr : Nat) (s : State) : CmdRes :=
  if 4096 ≤ g ∨ 1 < op ∨ (op = 0 ∧ (af ≠ 4 ∧ af ≠ 6 ∨ af = 4 ∧ 2 ^ 32 ≤ addr)) then refuse .badParam s
  else
    let w := gwAt s g
    .ok (setGw g (if op = 1 then { w with set := false }
      else { w with set := true, af := af, addr := addr, seen := w.seen && w.af == af && w.addr == addr }) s) 0 []

/-- EXPORT_SET (R134, R370): an address 0 is a head end like another. DESIGN CHOICE: log entry 43. -/
def exportSetCmd (op af port addr : Nat) (s : State) : CmdRes :=
  if 2 < op ∨ (op = 2 ∧ (port = 0 ∨ af ≠ 4 ∧ af ≠ 6 ∨ af = 4 ∧ 2 ^ 32 ≤ addr)) then refuse .badParam s
  else if op = 0 then .ok { s with ing := { s.ing with paused := true } } 0 []
  else if op = 1 then .ok (resumeExport { s with ing := { s.ing with paused := false } }) 0 []
  else
    let cfg := cfgPut (cfgPut s.cfg .device 13 0 (if af = 4 then sgn32 addr else 0)) .device 13 1 port
    .ok (resumeExport { s with cfg := cfg, ing := { s.ing with headEnd := some (af, addr, port) } }) 0 []

/-- The datagrams of a RELAY, back to back; nothing when one runs past XLEN. DEDUCED: log entry 42. -/
def relayParse : Nat → List Byte → Option (List (List Byte))
  | 0, _ => some []
  | n + 1, l =>
    let len := ofLe (slice l 0 2)
    let pad := (4 - len % 4) % 4
    if l.length < 4 + len + pad ∨ slice l 2 2 ≠ zeros 2 then none
    else (relayParse n (l.drop (4 + len + pad))).map (fun t => slice l 4 len :: t)

/-- RELAY (R98): all or none; a datagram at fault is dropped as Headrace drops one. DEDUCED: log entry 42. -/
def relayCmd (c : Ctx) (ndg : Nat) (s : State) : CmdRes :=
  if ndg = 0 ∨ 256 < ndg then refuse .badParam s
  else match relayParse ndg c.xin with
  | none => refuse .badParam s
  | some l =>
    let good := l.filter (fun d => (hrParse d).isSome)
    if 2 ^ 26 < stagedBytes s + (good.map (·.length)).sum then refuse .busy s
    else
      let put := fun (t : State) (d : List Byte) => match hrParse d with
        | none => hrDrop (gwOf d) t
        | some (g, _) => stage { gwId := g, pcie := true, eth := 0, addr := 0, udp := 0, rxNs := nowNs s, payload := d } t
      .ok (l.foldl put s) good.length []

/-! ### Load and PACE (R24–R27, R99) -/

/-- LEVEL (R99): eight times the larger occupancy, at most 7. -/
def loadLevel (s : State) : Nat :=
  let frames := ((laneList s.ing.run).map (fun l => (lane s l).input.length + (lane s l).insWait.length)).foldl max 0
  min 7 (max (8 * frames / 256) (8 * stagedBytes s / 2 ^ 26))

def paceTicks (w : Nat) : Nat := match w with | 0 => tickMs | 1 => 10 * tickMs | 2 => 100 * tickMs | _ => tickS

/-- A window ends (R25): the lane counters and PACE_SEQ change together. DESIGN CHOICE: log entry 129. -/
def paceEnd (s : State) : State :=
  let d := s.dev
  if !d.paceEn ∨ !passed s d.paceAt (paceTicks d.paceWindow) then s
  else { s with dev := { d with verd := d.verdRun, doneW := d.doneRun, verdRun := [], doneRun := [], paceSeq := (d.paceSeq + 1) % 2 ^ 32, paceAt := s.elapsed } }

/-- PACE_SPEED refreshed (R26). -/
def paceRefresh (v : Nat) (s : State) : State :=
  let d := s.dev
  let d1 := { d with paceSpeed := v, paceMin := min d.paceMin v }
  if v < d.paceFloor then
    if d.paceArmed then raise 1 v d.paceFloor { s with dev := { d1 with paceArmed := false, paceOkAt := none } }
    else { s with dev := { d1 with paceOkAt := none } }
  else
    let t := d.paceOkAt.getD s.elapsed
    { s with dev := { d1 with paceOkAt := some t, paceArmed := d.paceArmed || passed s t (paceTicks d.paceWindow) } }

/-- PACE_CTRL (R24, R25): a change of WINDOW clears the lane counters and restarts the window. While EN is 0 the running window's time
and counts stand, so it may end at once when EN is set again. DEDUCED: log entry 41. DESIGN CHOICE: log entry 129. -/
def paceCtrl (v : Nat) (s : State) : State :=
  let d := s.dev
  let d1 := { d with paceWindow := bits v 0 2, paceEn := bit v 2 }
  if d.paceWindow = bits v 0 2 then { s with dev := d1 }
  else { s with dev := { d1 with verd := [], doneW := [], verdRun := [], doneRun := [], paceAt := s.elapsed } }

/-! ### Meanings -/

def execIngestConfig (c : Ctx) (op : Byte) (ents : List CfgEntry) (s : State) : Res :=
  .next (command (.ingestConfig c op ents) true (configure .device op ents ingestRefusal (ingestAfter ents)) s)
def execGatewaySet (c : Ctx) (gwId : U16) (op af : Byte) (addr : BitVec 128) (s : State) : Res :=
  .next (command (.gatewaySet c gwId op af addr) true (gatewaySetCmd gwId.toNat op.toNat af.toNat addr.toNat) s)
def execExportSet (c : Ctx) (op af : Byte) (port : U16) (addr : BitVec 128) (s : State) : Res :=
  .next (command (.exportSet c op af port addr) true (exportSetCmd op.toNat af.toNat port.toNat addr.toNat) s)
def execRelay (c : Ctx) (ndg : U16) (s : State) : Res := .next (command (.relay c ndg) true (relayCmd c ndg.toNat) s)
def execHeadraceDatagram (d : UdpIn) (s : State) : Res := .next (headrace d s)
def execNackDatagram (d : UdpIn) (s : State) : Res := .next (nack d s)
def execLaneDraw (s : State) : Res := .next (laneDraw s)
def execIngLoadRefresh (s : State) : Res := .next (if dark s .ing then s else { s with ing := { s.ing with level := loadLevel s } })
def execPaceWindowEnd (s : State) : Res := .next (if dark s .ing then s else paceEnd s)
def execPaceSpeedRefresh (speed : U16) (s : State) : Res := .next (if dark s .ing then s else paceRefresh speed.toNat s)
def execPaceCtrlWrite (value : U32) (s : State) : Res := .next (regWrite .ing 0x4F000 (paceCtrl value.toNat) s)

end Sys2Proof.Machine
end

