-- ==== Sys2Proof/Machine/Vane.lean ====
section
/-! DEFINITION. Vane: the radio ports, their scripts, reception, acknowledgements, transmission, relays, beacons and secondary mode
(R180–R213, R375). -/

namespace Sys2Proof.Machine

/-- A counter of port `p` (R212). -/
def vanCtr (p k : Nat) : Nat := 0x60100 + 0x40 * p + 4 * k

def vanP (s : State) (pid p : Nat) : Nat := paramN s .vane pid (256 * p)
def rxLat (s : State) (p : Nat) : Nat := paramN s .vane 4 (256 * p)
def txLat (s : State) (p : Nat) : Nat := paramN s .vane 4 (256 * p + 1)
/-- Nanoseconds as TB periods. -/
def nsTicks (n : Nat) : Nat := n * 2 / 5

/-- A port works: Vane is powered, the port's clock runs and no script has put it to IDLE (R31, R182, R183). -/
def portLive (s : State) (p : Fin 8) : Bool := !halted s .van 9 && !entering s && !s.dev.unclocked.contains (.rfiq p) && !(vport s p.val).idle

/-- Inputs of a group's interface are heard: the group is enabled, or the device is in QUIET, where Vane and Leat listen (R195, R235,
R434). DEDUCED: log entry 113. -/
def listens (s : State) (g : Nat) : Bool := grp s g || s.dev.quiet

/-! ### Sample words (R181) -/

/-- A number in `w` bits, two's complement. -/
def twos (w : Nat) (v : Int) : Nat := (v % (2 ^ w : Int)).toNat

/-- A sample word: SYNC_I, I, SYNC_Q and Q at their bits (R181). -/
def iqWord (x : Int × Int) : Nat := 2 * 2 ^ 30 + twos 13 x.1 * 2 ^ 17 + 2 ^ 14 + twos 13 x.2 * 2

/-- Both SYNC fields of a sample word are correct (R181). -/
def iqSync (w : U32) : Bool := decide (bits w.toNat 30 2 = 2 ∧ bits w.toNat 14 2 = 1)

/-- The newest words of a lane lock it: 64 in a row with correct SYNC (R181, R215). -/
def laneLocks {n : Nat} (good : BitVec n → Bool) (words : List (BitVec n)) : Bool :=
  decide (64 ≤ words.length) && (words.drop (words.length - 64)).all good

/-- The newest words of a lane lose its lock: 4 of the last 64 are wrong (R181, R215). -/
def laneLoses {n : Nat} (good : BitVec n → Bool) (words : List (BitVec n)) : Bool :=
  decide (4 ≤ ((words.drop (words.length - 64)).filter (fun w => !good w)).length)

/-- Bit `k` of a 16-bit CRC's step: x¹⁶ + x¹² + x⁵ + 1, least significant bit first. -/
def crc16Bit (c : BitVec 16) (k : Bool) : BitVec 16 :=
  if (c.getLsbD 0) != k then (c >>> 1) ^^^ 0x8408 else c >>> 1

/-- The 2-byte FCS of IEEE 802.15.4. PRESUMED: log entry 51. -/
def fcs16 (b : List Byte) : Nat :=
  (b.foldl (fun c x => (List.range 8).foldl (fun d k => crc16Bit d (x.getLsbD k)) c) (0 : BitVec 16)).toNat

/-- A MAC frame with its FCS: 2 bytes, or the 4 of CRC-32. PRESUMED: log entry 51. -/
def withMacFcs (fcs4 : Bool) (b : List Byte) : List Byte := if fcs4 then withFcs b else b ++ leBytes 2 (fcs16 b)

/-! ### MAC frames (R187, R193, R197, R201, R205) -/

/-- A MAC header as received, and its payload. -/
structure Mac where
  ftype : Nat
  ver : Nat
  sec : Bool
  pend : Bool
  ar : Bool
  ie : Bool
  seq : Option Byte
  dstPan : Option Nat
  dst : List Byte
  src : List Byte
  payload : List Byte
  deriving DecidableEq, Repr

def addrLen (mode : Nat) : Nat := if mode = 2 then 2 else if mode = 3 then 8 else 0

/-- The PAN ID fields of a version 0b10 header (IEEE 802.15.4): destination, source. PRESUMED: log entry 51. -/
def panFields (dm sm : Nat) (comp : Bool) : Bool × Bool :=
  if dm = 0 ∧ sm = 0 then (comp, false)
  else if sm = 0 then (!comp, false)
  else if dm = 0 then (false, !comp)
  else if dm = 3 ∧ sm = 3 then (!comp, false)
  else (true, !comp)

/-- A PSDU, without its FCS, as a MAC frame: nothing when it is too short or an addressing mode is reserved. PRESUMED: log entry 51. -/
def macParse (b : List Byte) : Option Mac :=
  let fc := ofLe (slice b 0 2)
  let dm := bits fc 10 2
  let sm := bits fc 14 2
  let r1_ := panFields dm sm (bit fc 6)
  let dp := r1_.1
  let sp := r1_.2
  let seqLen := if bit fc 8 then 0 else 1
  let o1 := 2 + seqLen
  let o2 := o1 + 2 * b2n dp
  let o3 := o2 + addrLen dm
  let o4 := o3 + 2 * b2n sp
  let o5 := o4 + addrLen sm
  if b.length < o5 ∨ b.length < 3 ∨ dm = 1 ∨ sm = 1 then none
  else some { ftype := bits fc 0 3, ver := bits fc 12 2, sec := bit fc 3, pend := bit fc 4, ar := bit fc 5, ie := bit fc 9
              seq := if bit fc 8 then none else b[2]?, dstPan := if dp then some (ofLe (slice b o1 2)) else none
              dst := slice b o2 (addrLen dm), src := slice b o4 (addrLen sm), payload := b.drop o5 }

def portEui (p : Nat) : List Byte := leBytes 8 (Config.portEui p)
def panId (s : State) : Nat := paramN s .vane 1 0

/-- A frame addressed to the port alone. DEDUCED: log entry 36. -/
def toPort (s : State) (p : Nat) (m : Mac) : Bool :=
  m.dst == portEui p || (m.dst == leBytes 2 (vanP s 2 p) && decide (vanP s 2 p ≠ 0xFFFE))

/-- The filter of R187. -/
def macFilter (s : State) (p : Nat) (m : Mac) : Bool :=
  decide (m.ftype ≤ 1 ∧ m.ver = 2 ∧ m.src ≠ []) && !m.sec && !m.ie &&
  (match m.dstPan with
   | some d => decide (d = panId s ∨ d = 0xFFFF)
   | none => decide (m.ftype = 0)) &&
  (decide (m.ftype = 0) || toPort s p m || m.dst == [0xFF, 0xFF])

/-- A header with the port's EUI-64 as source: control word, sequence number, PAN ID, destination. -/
def macHeader (s : State) (p fc : Nat) (seq : Byte) (dst : List Byte) : List Byte :=
  leBytes 2 fc ++ [seq] ++ leBytes 2 (panId s) ++ dst ++ portEui p

/-- The Enhanced Acknowledgement of R193. -/
def ackFrame (s : State) (a : AckDue) (fp : Bool) : List Byte :=
  leBytes 2 (2 + 16 * b2n fp + 64 + 256 * b2n a.seq.isNone + (if a.dst.length = 8 then 0xC00 else 0x800) + 0x2000)
    ++ a.seq.toList ++ leBytes 2 (panId s) ++ a.dst

/-! ### Scripts (R182, R192) -/

def script (v : VPort) (k : Nat) : List SpiTx := tget [] v.scripts k

/-- A frame goes on air (R212). -/
def onAir (p : Nat) (s : State) : State :=
  let v := vport s p
  match v.tx with
  | none => s
  | some f =>
    let psdu := withMacFcs f.fcs4 f.bytes
    let s1 := emit (.iqTx p ((Config.radioModulate (vanP s 0 p) psdu ++ [(0, 0)]).map iqWord)) (emit (.radio p psdu) s)
    match f.prio with
    | 1 => bump (vanCtr p 3) 1 s1
    | 3 => bump (vanCtr p 6) 1 { s1 with van := { s1.van with bseqSent := f.bseq } }
    | 4 => match f.relay with
      | some (k, false) =>
        let mark := fun (x : TxFrame) => if x.relay.map (·.1) = some k then { x with relay := some (k, true) } else x
        bump 0x60010 1 { s1 with van := { s1.van with ports := s1.van.ports.map (fun q => (q.1, { q.2 with queue := q.2.queue.map mark })) } }
      | _ => s1
    | _ => s1

/-- A free port serves the CHANNEL commands that wait for it (R186, R375). -/
def nextChannel (p : Nat) (s : State) : State :=
  let v := vport s p
  if v.running.isSome ∨ v.tx.isSome then s
  else match script v 2 with
  | [] => v.chanWait.foldl (fun t w => replyLater w .ok 0 t) (if v.chanWait = [] then s else setVport p { v with chanWait := [] } s)
  | x :: _ => match v.chanWait with
    | [] => s
    | w :: rest => emit (.spi p x.bytes) (setVport p { v with running := some (2, 0, some w), chanWait := rest } s)

/-- A script has run to its end. -/
def scriptEnd (p k : Nat) (cmd : Option (Nat × Nat)) (s : State) : State :=
  let v := vport s p
  let s1 := setVport p { v with running := none, idle := v.idle && k == 3 } s
  let s2 := match cmd with | some w => replyLater w .ok 0 s1 | none => s1
  nextChannel p (if k = 1 then onAir p s2 else s2)

/-- Start a script; an empty one ends at once. -/
def startScript (p k : Nat) (s : State) : State :=
  match script (vport s p) k with
  | [] => scriptEnd p k none s
  | x :: _ => emit (.spi p x.bytes) (setVport p { vport s p with running := some (k, 0, none) } s)

/-- Start a transmission: TX_ENTER, then the frame. -/
def startTx (p : Nat) (f : TxFrame) (s : State) : State := startScript p 1 (setVport p { vport s p with tx := some f } s)

/-- SPI_TRANSACTION_DONE (R182): the next transaction, the script's end, or IDLE where the check byte does not match.
DEDUCED: log entry 55. -/
def spiDone (p : Nat) (miso : List Byte) (s : State) : State :=
  let v := vport s p
  match v.running with
  | none => s
  | some (k, n, cmd) =>
    match (script v k)[n]? with
    | none => s
    | some x =>
      if x.chk = 0 ∨ byteAt miso (x.chk - 1) = x.exp then
        match (script v k)[n + 1]? with
        | some y => emit (.spi p y.bytes) (setVport p { v with running := some (k, n + 1, cmd) } s)
        | none => scriptEnd p k cmd s
      else
        let s1 := raise 30 p (16 * k + n) (setVport p { v with running := none, tx := none, idle := true } s)
        let s2 := match v.tx with | some f => (if f.uni.isSome then dropItem f.item s1 else s1) | none => s1
        let s3 := match cmd with | some w => replyLater w .verifyFailed 0 s2 | none => s2
        if k = 3 then s3 else startScript p 3 s3

/-! ### Restarts and configuration (R186, R211, R375) -/

/-- A port restarts: loaded scripts come into force; what it was receiving, sending or awaiting is lost. DEDUCED: log entry 55. -/
def restartPort (p : Nat) (s : State) : State :=
  let t := cutPort p s
  let v := vport t p
  raise 43 p (vanP t 0 p) (setVport p { v with scripts := v.loaded.foldl (fun m e => tset [] m e.1 e.2) v.scripts, loaded := []
                                               acks := [], idle := false } t)

/-- The ports a set restarts: those named by a value of PHY mode, SHORT_ADDR, latency, RSSI_OFF or CCA_DBM; all, by SPI_HZ. -/
def restarts (ents : List CfgEntry) : List Nat :=
  (List.range 8).filter (fun p => ents.any (fun e =>
    decide (e.pid.toNat = 7) || ([0, 2, 4, 5, 6].contains e.pid.toNat && decide (e.scope.toNat / 256 = p))))

/-- SEC_EN set or cleared (R208, R209). -/
def secEnable (old : Tab Int) (s : State) : State :=
  let was := cfgGet old .vane 17 0 == 1
  let on := param s .vane 17 0 == 1
  if on && !was then { s with van := { s.van with up := .search, misses := 0, regain := 0, upBseq := 0 } }
  else if was && !on then sourceDown 2 { s with van := { s.van with up := .disabled, misses := 0, regain := 0 } }
  else s

def vaneConfigAfter (ents : List CfgEntry) (old : Tab Int) (s : State) : State :=
  secEnable old ((restarts ents).foldl (fun t p => restartPort p t) s)

/-- The transactions of a SCRIPT_LOAD transfer. -/
def spiList (b : List Byte) (n : Nat) : List SpiTx :=
  (List.range n).map (fun k =>
    { len := byteAt b (12 * k), chk := byteAt b (12 * k + 1), exp := byteAt b (12 * k + 2), bytes := slice b (12 * k + 4) (byteAt b (12 * k)) })

def scriptLoadCmd (c : Ctx) (p k n : Nat) (s : State) : CmdRes :=
  let l := spiList c.xin n
  let zero := (List.range n).all (fun j => byteAt c.xin (12 * j + 3) == 0)
  if 8 ≤ p ∨ 4 ≤ k ∨ n = 0 ∨ 16 < n ∨ !zero ∨ !l.all (fun x => decide (1 ≤ x.len ∧ x.len ≤ 8 ∧ x.chk ≤ x.len)) ∨
      !scriptFits (paramN s .vane 7 0) l then refuse .badParam s
  else
    let v := vport s p
    .ok (setVport p { v with loaded := tset [] v.loaded k l } s) 0 []

def channelScriptCmd (c : Ctx) (p : Nat) (s : State) : CmdRes :=
  if !grp s 0 then refuse .refusedState s
  else if 8 ≤ p then refuse .badParam s
  else if unclockedPort s p then refuse .poweredDown (openRecord 0 s)
  else
    let v := vport s p
    .later (nextChannel p (setVport p { v with chanWait := v.chanWait ++ [jobOf c s] } s))

/-! ### Beacons received: own, upstream and foreign (R208–R210) -/

/-- An accepted upstream beacon moves the miss machine (R209). -/
def upAccepted (bseq rxTick period : Nat) (s : State) : State :=
  let v := s.van
  let track := fun (t : State) => { t with van := { t.van with up := .track, misses := 0, period := period
                                                               deadline := rxTick + period * 5 * tickMs / 4 } }
  match v.up with
  | .disabled => s
  | .search => sourceUp 2 (track s)
  | .track => track s
  | .lost =>
    if v.regain < 2 then { s with van := { v with regain := v.regain + 1, period := period } }
    else raise 35 (paramN s .vane 17 2) bseq (sourceUp 2 (track s))

/-- A beacon's body has the form of R205. -/
def beaconForm (b : List Byte) : Bool :=
  decide (0x24 ≤ b.length ∧ byteAt b 0 = 1 ∧ byteAt b 0x1A ≤ 16 ∧ b.length = 0x1C + 8 * byteAt b 0x1A + 8)

/-- The first check of R208 an upstream beacon fails, in the rule's order; 0 when it passes all. A body that is not of R205's form
fails the MIC check. DEDUCED: log entry 57. -/
def upCheck (s : State) (b : List Byte) : Nat :=
  let conc := ofLe (slice b 2 2)
  let body := b.take (b.length - 8)
  let key := devKey s 1
  if conc ≠ paramN s .vane 17 2 ∨ conc = paramN s .vane 3 0 then 2
  else if !beaconForm b ∨ key = [] ∨ b.drop (b.length - 8) ≠ (Config.cmac key body).take 8 then 3
  else if ofLe (slice b 4 4) ≤ s.van.upBseq then 4
  else if byteAt b 0x12 % 8 = 7 then 5
  else if 15 ≤ bits (byteAt b 0x12) 3 4 then 6
  else if bit (byteAt b 1) 0 then 7 else 0

/-- A beacon of the upstream, on UP_PORT with SEC_EN set; `rxNs` its receive stamp. DEDUCED: log entry 57. -/
def upstream (b : List Byte) (rxNs rxTick : Nat) (s : State) : State :=
  let bseq := ofLe (slice b 4 4)
  let n := upCheck s b
  if n ≠ 0 then raise 36 (ofLe (slice b 2 2)) n { s with van := { s.van with upRejects := sat32 (s.van.upRejects + 1) } }
  else
    let t := ofLe (slice b 8 6) * 1000000000 + ofLe (slice b 0xE 4) + paramN s .vane 18 0
    let s1 := { s with van := { s.van with upBseq := bseq, depth := bits (byteAt b 0x12) 3 4 } }
    onSample 2 ((t : Int) - rxNs) (upAccepted bseq rxTick (ofLe (slice b 0x18 2)) s1)

/-- Another concentrator's beacon: its event, at most once an hour (R210). -/
def foreignBeacon (p conc : Nat) (s : State) : State :=
  let last := tget 0 s.van.foreign conc
  if last ≠ 0 ∧ !passed s (last - 1) (3600 * tickS) then s
  else raise 40 p conc { s with van := { s.van with foreign := tset 0 s.van.foreign conc (s.elapsed + 1) } }

/-- A beacon heard on a port (R207–R209): one of the device's own CONC_ID, an upstream one on UP_PORT, or a neighbour's. On UP_PORT with
SEC_EN every beacon is held to R208's checks. -/
def beaconHeard (p : Nat) (b : List Byte) (rxNs rxTick : Nat) (s : State) : State :=
  let conc := ofLe (slice b 2 2)
  let sec := param s .vane 17 0 == 1
  let s1 := if !beaconForm b then s
    else if conc = paramN s .vane 3 0 then raise 39 p 0 s
    else if sec && decide (conc = paramN s .vane 17 2) then s else foreignBeacon p conc s
  if sec && decide (p = paramN s .vane 17 1) then upstream b rxNs rxTick s1 else s1

def upstreamDeadline (s : State) : State :=
  let v := s.van
  if v.up ≠ .track ∨ s.elapsed < v.deadline then s
  else if v.misses < 2 then { s with van := { v with misses := v.misses + 1, deadline := v.deadline + v.period * tickMs } }
  else raise 34 (paramN s .vane 17 2) v.upBseq (sourceDown 2 { s with van := { v with up := .lost, regain := 0 } })

/-! ### Data frames received (R187–R195, R198) -/

/-- HOPS of a radio frame (R198). -/
def hopsOf (s : State) (bcast : Bool) (ttl : Nat) : Nat :=
  let f := paramN s .vane 9 0
  if bcast ∧ ttl ≤ f then f - ttl else 0

/-- RSSI as a signed byte (R189). -/
def rssiByte (s : State) (p : Nat) (power : Int) : Byte :=
  BitVec.ofInt 8 (max (-127) (min 20 (power + param s .vane 5 (256 * p))))

/-- A GRF for Millrace (R188, R189, R191). -/
def grfHeard (p : Nat) (x : Ppdu) (m : Mac) (rxNs endAt : Nat) (s : State) : State :=
  let v := vport s p
  let bcast := !toPort s p m
  let ackable := !bcast && m.ar
  let n := v.ppdu + 1
  let f0 : Frame := { bytes := m.payload, path := 1, port := p, rxNs := rxNs, rssi := rssiByte s p x.power, bcast := bcast
                      ret := .radio p n ackable endAt }
  let f := { f0 with hops := hopsOf s bcast (gTtl f0) }
  let idx := if gEuiForm f then ((resolve s f).res.map (·.1)).getD 0xFFFFFFFF else gIndex f
  let due : AckDue := { ppdu := n, endAt := endAt, seq := m.seq, dst := m.src, fcs4 := x.fcs4, idx := idx }
  let s1 := setVport p { v with ppdu := n, acks := if ackable then v.acks ++ [due] else v.acks } s
  presentLocal f (bump (vanCtr p 0) 1 s1)

/-- The acknowledgement of a Tailrace unicast, begun within its window (R197). DEDUCED: log entry 53. -/
def isAck (s : State) (p : Nat) (x : Ppdu) (m : Mac) : Option TxFrame :=
  match (vport s p).ackWait with
  | none => none
  | some (f, t) =>
    let began := (s.elapsed : Int) - nsTicks (rxLat s p + x.shr.toNat + x.air.toNat) - t
    if m.ftype = 2 ∧ m.ver = 2 ∧ m.seq = f.seq ∧ (m.dst = [] ∨ m.dst = portEui p) ∧ 950 * tickUs ≤ began ∧ began ≤ 1050 * tickUs then some f
    else none

/-- VANE_PPDU_RECEIVED (R187–R198). A port that is transmitting, unlocked or not live receives nothing. DEDUCED: log entry 59. -/
def ppduReceived (p : Fin 8) (x : Ppdu) (s : State) : State :=
  let q := p.val
  let v := vport s q
  if !portLive s p ∨ !listens s 0 ∨ !v.lock ∨ v.tx.isSome then s
  else if !x.phr ∨ !x.fcs ∨ 2047 < x.psdu.length + (if x.fcs4 then 4 else 2) then bump (vanCtr q 1) 1 s
  else match macParse x.psdu with
  | none => bump (vanCtr q 2) 1 s
  | some m =>
    match isAck s q x m with
    | some f =>
      { setVport q { v with ackWait := none } s with tai := { s.tai with outcomes := s.tai.outcomes ++ [(f.item, true, m.pend)] } }
    | none =>
      let rxNs := nowNs s - rxLat s q - x.air.toNat
      let endAt := s.elapsed - nsTicks (rxLat s q)
      if !macFilter s q m then bump (vanCtr q 2) 1 s
      else if m.ftype = 0 then beaconHeard q m.payload rxNs (endAt - nsTicks x.air.toNat) s
      else if s.dev.quiet then bump (vanCtr q 8) 1 s
      else if byteAt m.payload 0 / 64 = 2 then bump (vanCtr q 9) 1 s
      else grfHeard q x m rxNs endAt s

/-! ### Acknowledgements (R191–R193) -/

/-- A transmission due without the claim (R183). DEDUCED: log entry 54. -/
def gatedDrop (p : Nat) (s : State) : State := raise 42 p 0 (bump 0x6001C 1 s)

/-- ACK_CUTOFF: 650 µs after a PPDU's end; `arriving`: another PPDU is then arriving. DEDUCED: log entry 53. -/
def ackCutoff (p : Nat) (arriving : Bool) (s : State) : State :=
  let v := vport s p
  match v.acks with
  | [] => s
  | a :: rest =>
    if !passed s a.endAt (650 * tickUs) then s
    else
      let s1 := setVport p { v with acks := rest } s
      match a.decision with
      | none => raise 31 p a.idx (bump (vanCtr p 4) 1 s1)
      | some false => s1
      | some true =>
        if !grp s 0 then gatedDrop p s1
        else if v.tx.isSome ∨ v.running.isSome ∨ v.idle ∨ entering s ∨ unclockedPort s p then s1
        else
          let fp := decide ((entry s a.idx).pend ≠ 0)
          let f : TxFrame := { prio := 1, bytes := ackFrame s a fp, ackFor := if fp then some a.idx else none, fcs4 := a.fcs4 }
          startTx p f (if arriving then bump (vanCtr p 10) 1 s1 else s1)

/-! ### Transmission (R196, R197) -/

/-- A port's next frame by priority. -/
def nextTx (l : List TxFrame) : Option TxFrame :=
  match l.find? (fun f => f.prio == 2) with
  | some f => some f
  | none => match l.find? (fun f => f.prio == 3) with
    | some f => some f
    | none => match l.find? (fun f => f.prio == 4) with
      | some f => some f
      | none => l.head?

/-- One clear-channel assessment: the unit backoff periods waited before it, and the energy it measured, dBm. -/
def ccaBusy (s : State) (p : Nat) (e : Byte × Int) : Bool := decide (param s .vane 6 (256 * p) < e.2)

/-- Unslotted CSMA-CA (R196): macMinBe 3, macMaxBe 5 and macMaxCsmaBackoffs 4, over the assessments made, `nb` of them before these.
Whether it ends in success; nothing where they spell no whole attempt. DEDUCED: log entry 114. -/
def csma (busy : Byte × Int → Bool) : Nat → List (Byte × Int) → Option Bool
  | _, [] => none
  | nb, e :: t =>
    if 2 ^ min (3 + nb) 5 ≤ e.1.toNat then none
    else if !busy e then (if t = [] then some true else none)
    else if nb = 4 then (if t = [] then some false else none)
    else csma busy (nb + 1) t

/-- A CSMA failure (R196): a relay is dropped, a beacon stays to be retried, a Tailrace frame goes back with a failure result. -/
def csmaFail (p : Nat) (f : TxFrame) (s : State) : State :=
  let v := vport s p
  let s1 := raise 32 p f.prio (bump (vanCtr p 5) 1 s)
  if f.prio = 3 then s1
  else
    let s2 := setVport p { v with queue := v.queue.erase f } s1
    if f.prio = 4 then s2 else { s2 with tai := { s2.tai with outcomes := s2.tai.outcomes ++ [(f.item, false, false)] } }

/-- A beacon's body with its time and MIC (R205): the instant its first PHR symbol leaves the antenna. -/
def beaconStamp (p shr : Nat) (b : List Byte) (s : State) : List Byte :=
  let t := nowNs s + shr + txLat s p
  let body := b.take 8 ++ leBytes 6 (t / 1000000000) ++ leBytes 4 (t % 1000000000) ++ b.drop 18
  body ++ (if devKey s 1 = [] then zeros 8 else (Config.cmac (devKey s 1) body).take 8)

/-- The MAC frame of a queued frame. -/
def macFrame (p shr : Nat) (f : TxFrame) (seq : Byte) (s : State) : List Byte :=
  if f.prio = 3 then leBytes 2 0xE000 ++ [seq] ++ leBytes 2 (panId s) ++ portEui p ++ beaconStamp p shr f.bytes s
  else match f.uni with
  | some i => macHeader s p 0xEC21 seq (leBytes 8 (euiOf s i)) ++ f.bytes
  | none => macHeader s p 0xE841 seq [0xFF, 0xFF] ++ f.bytes

/-- The frame would still be on air at an acknowledgement's instant (R196). -/
def overAck (v : VPort) (p shr air : Nat) (s : State) : Bool :=
  v.acks.any (fun a => a.decision != some false && decide (a.endAt + 1000 * tickUs ≤ s.elapsed + nsTicks (shr + air + txLat s p)))

/-- A queued TDF may not go now: the device is in QUIET, or its index is FREE or BLOCKED (R277). -/
def withheld (s : State) (f : TxFrame) : Bool :=
  (f.prio == 2 || f.prio == 5) && (s.dev.quiet || (match f.idx with
    | some i => (entry s i).state == .free || (entry s i).state == .blocked
    | none => false))

/-- CSMA_COMPLETE: the attempt for the port's next frame ends, `cca` its assessments in order; `shr` and `air` are the frame's time,
ns, to its first PHR symbol and from there to its end. -/
def csmaComplete (p : Fin 8) (cca : List (Byte × Int)) (shr air : Nat) (s : State) : State :=
  let q := p.val
  let v := vport s q
  match nextTx v.queue, csma (ccaBusy s q) 0 cca with
  | none, _ => s
  | _, none => s
  | some f, some ok =>
    if !portLive s p ∨ v.tx.isSome ∨ v.running.isSome ∨ v.ackWait.isSome then s
    else if !grp s 0 then
      gatedDrop q ((if f.uni.isSome then dropItem f.item else id) (setVport q { v with queue := v.queue.erase f } s))
    else if withheld s f then dropItem f.item (setVport q { v with queue := v.queue.erase f } s)
    else if !ok then csmaFail q f s
    else if overAck v q shr air s then s
    else
      let seq := f.seq.getD v.macSeq
      let v1 := { v with queue := v.queue.erase f, macSeq := if f.seq.isNone then v.macSeq + 1 else v.macSeq }
      startTx q { f with bytes := macFrame q shr f seq s, seq := some seq } (setVport q v1 s)

/-- The MAC payload of a unicast MAC frame Vane built. -/
def macPayload (b : List Byte) : List Byte := b.drop 21

/-- VANE_TX_END: the port listens again; an acknowledgement with Frame Pending opens the index's burst (R192, R197, R256). -/
def txEnd (p : Nat) (s : State) : State :=
  let v := vport s p
  match v.tx, v.running with
  | some f, none =>
    let wait := if f.uni.isSome then some ({ f with bytes := macPayload f.bytes }, s.elapsed + nsTicks (txLat s p)) else none
    let s1 := startScript p 0 (setVport p { v with tx := none, ackWait := wait } s)
    match f.ackFor with
    | some i => openBurst i s1
    | none => s1
  | _, _ => s

/-- VANE_ACK_WAIT_EXPIRY (R197): the frame is resent after a new CSMA-CA, or has failed. -/
def ackWaitExpiry (p : Nat) (s : State) : State :=
  let v := vport s p
  match v.ackWait with
  | none => s
  | some (f, t) =>
    if !passed s t (1050 * tickUs) then s
    else if f.tries < paramN s .vane 8 0 then
      setVport p { v with ackWait := none, queue := { f with tries := f.tries + 1 } :: v.queue } s
    else { setVport p { v with ackWait := none } s with tai := { s.tai with outcomes := s.tai.outcomes ++ [(f.item, false, false)] } }

/-! ### Relays (R199–R202) -/

/-- RELAY_TIME: the first job that is due is sent on every port in RELAY_MASK or cancelled; a damaged job is discarded (R390), and
one whose entry has gone is dropped. DEDUCED: log entry 58. -/
def relayTime (bad : Bool) (s0 : State) : State :=
  let isDue := fun (x : QItem) => match x.body with | .job j => decide (j.due ≤ s0.elapsed) | _ => false
  let s := if bad then fabricBad 5 [(queue s0 5).findIdx isDue] s0 else s0
  match (queue s 5).find? isDue with
  | none => s
  | some x =>
    let s1 := queueDepthSeen 5 (setQueue 5 ((queue s 5).erase x) s)
    match x.body with
    | .job j =>
      let mine := fun (e : Seen) => e.idx == j.idx && e.seq == j.seq && e.tagh == j.tagh
      let s2 := { s1 with ing := { s1.ing with seen := s1.ing.seen.map (fun e =>
        if mine e then { e with vane := vaneWord (bits e.vane 0 4) (bits e.vane 4 2) false true } else e) } }
      if x.poison then bump 0x60018 1 s2
      else match s1.ing.seen.find? mine with
      | none => raise 37 j.idx 1 (bump 0x60018 1 s1)
      | some e =>
        if paramN s .vane 11 0 ≤ bits e.vane 4 2 then bump 0x60014 1 s2
        else
          let grf := j.frame.take 1 ++ leBytes 1 (byteAt j.frame 1 % 16 + 16 * bits e.vane 0 4) ++ j.frame.drop 2
          let f : TxFrame := { prio := 4, bytes := grf, due := j.due, item := j.idx, relay := some (relayKey j.idx j.seq j.tagh, false) }
          ((List.range 8).filter (fun p => bit (paramN s .vane 12 0) p)).foldl (fun t p => radioQueue p f t) s2
    | _ => s1

/-- RELAY_LATE_DROP (R202): relays of a port not on air within 50 ms. DEDUCED: log entry 58. -/
def relayLate (p : Nat) (s : State) : State :=
  let v := vport s p
  let late := fun (f : TxFrame) => f.prio == 4 && passed s f.due (50 * tickMs)
  (v.queue.filter late).foldl (fun t f => raise 37 f.item 0 (bump 0x60018 1 t))
    (if v.queue.any late then setVport p { v with queue := v.queue.filter (fun f => !late f) } s else s)

/-! ### Beacons sent (R204–R207) -/

/-- The period in force, ms. -/
def beaconMs (s : State) : Nat :=
  if s.dev.quiet ∨ s.van.ramp.isSome then paramN s .vane 16 0 else paramN s .vane 14 0 * 1000

/-- HINT (R206, R207). -/
def hintOf (s : State) : Nat :=
  if s.dev.quiet then 7
  else match s.van.ramp with
  | some t => max s.ing.level (7 - (s.elapsed - t) / (paramN s .vane 16 0 * tickMs))
  | none => s.ing.level

/-- Fantail is not on its highest configured source. -/
def offBest (s : State) : Bool :=
  match [0, 1, 2].find? (srcEnabled s) with
  | some k => decide (s.fan.rep ≠ k)
  | none => false

/-- The campaign summaries of a beacon (R205, R266). -/
def campSummaries (s : State) : List (List Byte) :=
  ((List.range 16).filter (fun c => [CampSt.announce, .multicast, .repair, .activate, .aborted].contains (camp s c).st)).map (fun c =>
    let k := camp s c
    leBytes 1 c ++ leBytes 1 (campCode k.st + (if k.st = .multicast then 16 * k.pass else 0)) ++ leBytes 2 k.blocks ++ leBytes 4 k.imgVer)

/-- The beacon body, its time still zero, before the MIC (R205). -/
def beaconBody (bseq : Nat) (s : State) : List Byte :=
  let sec := s.fan.sel == 2
  let l := campSummaries s
  leBytes 1 1 ++ leBytes 1 (b2n s.dev.quiet + 2 * b2n sec + 4 * b2n (offBest s) + 8 * b2n s.van.ramp.isSome + 16 * hintOf s)
    ++ leBytes 2 (paramN s .vane 3 0) ++ leBytes 4 bseq ++ zeros 10
    ++ leBytes 1 (s.fan.rep + if sec then 8 * (s.van.depth + 1) else 0) ++ leBytes 1 (paramN s .vane 9 0)
    ++ leBytes 2 (paramN s .vane 10 0) ++ leBytes 2 (paramN s .vane 15 0) ++ leBytes 2 (beaconMs s)
    ++ leBytes 1 l.length ++ zeros 1 ++ l.flatten

/-- Take a BSEQ (R131, R205): none past its end or at the ceiling of its reserve; reaching the end is told on every beacon port.
DEDUCED: log entry 56. -/
def takeBseq (s : State) : Option Nat × State :=
  if 0xFFFF0000 < (reserve s 1).val then (none, s)
  else
    let r2_ := takeReserve 1 s
    let v := r2_.1
    let s1 := r2_.2
    match v with
    | some 0xFFFF0000 => (v, ((List.range 8).filter (fun p => bit (paramN s .vane 13 0) p)).foldl (fun t p => raise 33 p 0xFFFF0000 t) s1)
    | _ => (v, s1)

/-- BEACON_DUE: a port's beacon falls due, n × period ÷ 8 after port 0's (R204). DEDUCED: log entry 56. -/
def beaconDue (p : Nat) (s : State) : State :=
  let per := beaconMs s * tickMs
  let off := p * per / 8
  let k := (s.elapsed + per - off) / per
  let at_ := k * per + off - per
  let v := vport s p
  if !bit (paramN s .vane 13 0) p ∨ dark s .van ∨ k = 0 ∨ (v.beaconAt ≠ 0 ∧ at_ ≤ v.beaconAt - 1) then s
  else
    let s1 := setVport p { v with beaconAt := at_ + 1 } s
    if !grp s 0 then gatedDrop p s1
    else match takeBseq s1 with
    | (none, t) => t
    | (some n, t) =>
      radioQueue p { prio := 3, bytes := beaconBody n t, due := at_, bseq := n } { t with van := { t.van with lastHint := hintOf t } }

/-- BEACON_DROP (R204): beacons of a port not on air within half a period. -/
def beaconDrop (p : Nat) (s : State) : State :=
  let v := vport s p
  let late := fun (f : TxFrame) => f.prio == 3 && passed s f.due (beaconMs s * tickMs / 2)
  (v.queue.filter late).foldl (fun t f => raise 33 p f.bseq (bump (vanCtr p 7) 1 t))
    (if v.queue.any late then setVport p { v with queue := v.queue.filter (fun f => !late f) } s else s)

/-- RAMP_END (R207): HINT has come down to LEVEL 0, or 7 × RAMP_STEP have passed. -/
def rampEnd (s : State) : State :=
  match s.van.ramp with
  | none => s
  | some t =>
    if passed s t (7 * paramN s .vane 16 0 * tickMs) then raise 41 ((s.elapsed - t) / tickMs) 0 { s with van := { s.van with ramp := none } }
    else s

/-! ### Meanings -/

def execVaneConfig (c : Ctx) (op : Byte) (ents : List CfgEntry) (s : State) : Res :=
  .next (command (.vaneConfig c op ents) true (configure .vane op ents (fun _ _ => none) (vaneConfigAfter ents)) s)
def execScriptLoad (c : Ctx) (port script ntx : Byte) (s : State) : Res :=
  .next (command (.scriptLoad c port script ntx) (decide (c.xlen = 12 * ntx.toNat)) (scriptLoadCmd c port.toNat script.toNat ntx.toNat) s)
def execChannel (c : Ctx) (port : Byte) (s : State) : Res := .next (command (.channel c port) true (channelScriptCmd c port.toNat) s)
def execVanePpduReceived (port : Fin 8) (ppdu : Ppdu) (s : State) : Res := .next (ppduReceived port ppdu s)
def execIqSyncLoss (port : Fin 8) (words : List U32) (s : State) : Res :=
  .next (if !(vport s port.val).lock ∨ dark s .van ∨ !laneLoses iqSync words then s
    else raise 29 port.val 0 (setVport port.val { vport s port.val with lock := false } s))
def execIqLock (port : Fin 8) (words : List U32) (s : State) : Res :=
  .next (if dark s .van ∨ !listens s 0 ∨ s.dev.unclocked.contains (.rfiq port) ∨ !laneLocks iqSync words then s
    else setVport port.val { vport s port.val with lock := true } s)
def execAckCutoff (port : Fin 8) (arriving : Bool) (s : State) : Res := .next (if dark s .van then s else ackCutoff port.val arriving s)
def execVaneTxEnd (port : Fin 8) (s : State) : Res := .next (if dark s .van then s else txEnd port.val s)
def execCsmaComplete (port : Fin 8) (cca : List (Byte × Int)) (shr air : U32) (s : State) : Res :=
  .next (csmaComplete port cca shr.toNat air.toNat s)
def execVaneAckWaitExpiry (port : Fin 8) (s : State) : Res := .next (if dark s .van then s else ackWaitExpiry port.val s)
def execBeaconDue (port : Fin 8) (s : State) : Res := .next (beaconDue port.val s)
def execBeaconDrop (port : Fin 8) (s : State) : Res := .next (if dark s .van then s else beaconDrop port.val s)
def execRelayTime (bad : Bool) (s : State) : Res := .next (if dark s .van then s else relayTime bad s)
def execRelayLateDrop (port : Fin 8) (s : State) : Res := .next (if dark s .van then s else relayLate port.val s)
def execSpiTransactionDone (port : Fin 8) (miso : List Byte) (s : State) : Res := .next (if dark s .van then s else spiDone port.val miso s)
def execUpstreamDeadline (s : State) : Res := .next (if dark s .van then s else upstreamDeadline s)
def execRampEnd (s : State) : Res := .next (if dark s .van then s else rampEnd s)

end Sys2Proof.Machine
end

