-- ==== Sys2Proof/Machine/Leat.lean ====
section
/-! DEFINITION. Leat: the power-line ports, the slave table, schedules, polling, tone maps and phase detection (R214–R248, R377). -/

namespace Sys2Proof.Machine

/-- A counter of port `p` (R247). -/
def leaCtr (p k : Nat) : Nat := 0x70100 + 0x40 * p + 4 * k

def leaP (s : State) (pid p k : Nat) : Nat := paramN s .leat pid (256 * p + k)
/-- A port works: Leat is powered and AFE_CLK runs. -/
def leaLive (s : State) : Bool := !halted s .lea 9 && !entering s

/-! ### Tone maps (R218, R222, R236–R238) -/

def isFcc (s : State) (p : Nat) : Bool := leaP s 0 p 0 == 1
def nGroups (s : State) (p : Nat) : Nat := if isFcc s p then 24 else 6
def perGroup (s : State) (p : Nat) : Nat := if isFcc s p then 3 else 6
def minGroups (s : State) (p : Nat) : Nat := if isFcc s p then 6 else 2

/-- A tone map from its groups, modulation and attenuation, VALID set. -/
def toneMap (mask md gain : Nat) : Nat := mask + md * 2 ^ 24 + gain * 2 ^ 26 + 2 ^ 30

/-- ROBO over all groups. -/
def robo (s : State) (p : Nat) : Nat := toneMap (2 ^ nGroups s p - 1) 0 0

/-- Groups a tone map enables. -/
def groupsOf (s : State) (p tm : Nat) : List Nat := (List.range (nGroups s p)).filter (fun g => bit tm g)

/-- A tone map meets R222 with VALID set. -/
def tmOk (s : State) (p tm : Nat) : Bool :=
  decide (tm < 2 ^ 31 ∧ bits tm 0 24 < 2 ^ nGroups s p ∧ bits tm 26 4 ≤ 15) && bit tm 30 &&
  (if bits tm 24 2 = 0 then decide (bits tm 0 24 = 2 ^ nGroups s p - 1) else decide (minGroups s p ≤ (groupsOf s p tm).length))

def thr (s : State) (md : Nat) : Int := param s .leat 15 (md - 1)

/-- The SNR values of a group's carriers, from those of all. -/
def groupSnr (s : State) (p : Nat) (snr : List Int) (g : Nat) : List Int := (List.range (perGroup s p)).map (fun k => snr.getD (perGroup s p * g + k) 0)

/-- The tone map R236 chooses; rates in quarter bits. DEDUCED: log entry 62. -/
def chooseTm (s : State) (p : Nat) (snr : List Int) : Nat :=
  let pick := fun (best : Nat × Nat) (md : Nat) =>
    let gs := (List.range (nGroups s p)).filter (fun g =>
      decide (4 * (thr s md + param s .leat 16 0) * perGroup s p ≤ (groupSnr s p snr g).sum))
    let rate := 4 * md * perGroup s p * gs.length
    if gs.length < minGroups s p ∨ rate ≤ best.2 then best else (toneMap ((gs.map (fun g => 2 ^ g)).sum) md 0, rate)
  ([1, 2, 3].foldl pick (robo s p, nGroups s p * perGroup s p)).1

/-- The filter of R236; the quotient's rounding is open. DEDUCED: log entry 62. -/
def filterSnr (old meas : List Int) : List Int :=
  meas.zipIdx.map (fun e => let o := old.getD e.2 0; o + quotOpen (e.1 - o) 4)

/-- The mean SNR over the carriers a tone map enables is below its modulation's threshold (R238). -/
def lowSnr (s : State) (p tm : Nat) (meas : List Int) : Bool :=
  let md := bits tm 24 2
  let l := ((groupsOf s p tm).map (groupSnr s p meas)).flatten
  decide (md ≠ 0) && decide (l.sum < 4 * thr s md * l.length)

/-! ### Frames (R220, R221) -/

/-- The SLOT field of a slot's frames: its number and the port (R220). -/
def slotField (p n : Nat) : Nat := n + 4096 * p

/-- A Leat MAC frame: type, SLOT field, PSEQ and body (R220). -/
def plcFrame (s : State) (ltype slot pseq : Nat) (body : List Byte) : List Byte :=
  let b := leBytes 1 (16 + ltype) ++ zeros 1 ++ leBytes 2 (paramN s .vane 3 0) ++ leBytes 2 slot ++ leBytes 1 pseq ++ zeros 1 ++ body
  b ++ leBytes 4 (crc32 b)

def fType (b : List Byte) : Nat := byteAt b 0 % 16
def fConc (b : List Byte) : Nat := ofLe (slice b 2 2)
def fSlot (b : List Byte) : Nat := ofLe (slice b 4 2)
def fBody (b : List Byte) : List Byte := (b.drop 8).take (b.length - 12)

/-- FCS, version, type and reserved fields of a frame (R220), and the length its type gives its body (R221). -/
def plcForm (b : List Byte) : Bool :=
  let n := b.length - 4
  let body := fBody b
  decide (12 ≤ b.length) && b.drop n == leBytes 4 (crc32 (b.take n)) && decide (byteAt b 0 / 16 = 1 ∧ 1 ≤ fType b ∧ fType b ≤ 7) &&
  decide (byteAt b 1 < 2 ∧ (byteAt b 1 = 0 ∨ fType b = 2) ∧ fSlot b < 2 ^ 14 ∧ byteAt b 7 = 0) &&
  (if fType b = 2 then decide (7 ≤ body.length ∧ body.length = 7 + byteAt body 6 ∧
      (byteAt body 6 = 0 ∨ (16 ≤ byteAt body 6 ∧ byteAt body 6 ≤ 160)))
   else if fType b = 4 then decide (body.length = 16) else true)

/-! ### Sample words and transmissions (R214–R216, R218) -/

/-- A word of an SDI lane has the correct SYNC (R215). -/
def sdiSync (w : BitVec 20) : Bool := decide (bits w.toNat 4 4 = 0xA)

/-- An SDO word: the sample, zero while PLCn_TXEN is low, and the receive gain code (R215). -/
def sdoWord (txen : Bool) (x : Int) (gain : Nat) : Nat := (if txen then twos 12 x else 0) * 256 + gain % 8 * 32

/-- The SDO words of a frame, in TB periods at 1,228,800 words/s (R214). -/
def sdoTicks (words : List Nat) : Nat := words.length * 15625 / 48

/-- The words that carry a frame, its payload in a tone map. Leat's gain control, whose rule the spec does not give, sets GAIN.
DESIGN CHOICE: log entry 112. -/
def plcWords (s : State) (p tm : Nat) (b : List Byte) : List Nat :=
  (Config.plcModulate (isFcc s p) tm b).map (fun x => sdoWord true x (Config.freeNat s.free))

/-- The bit slots of words on PLCn_FS and PLCn_SDO, most significant bit first: FS is high in the first of each word's 20 (R214). -/
def laneSlots (words : List Nat) : List (Bool × Bool) :=
  words.flatMap (fun w => (List.range 20).map (fun k => (k == 0, w.testBit (19 - k))))

/-- A frame goes on the line, PLCn_TXEN high while it does; the word that follows carries a zero sample. -/
def plcOut (p tm : Nat) (b : List Byte) (s : State) : State :=
  let pin := "PLC" ++ toString p ++ "_TXEN"
  emit (.plc p tm b) (emit (.pin pin 0)
    (emit (.sdo p (laneSlots (plcWords s p tm b ++ [sdoWord false 0 (Config.freeNat s.free)]))) (emit (.pin pin 1) s)))

/-- One transmission that falls due without the claim. -/
def leaGated (p : Nat) (s : State) : State := raise 55 p 0 (bump (leaCtr p 11) 1 s)

/-- Send a frame in ROBO over all groups, or count it where the claim is not held (R216, R234). A broadcast's tone map, which the spec
does not give, is the same. DESIGN CHOICE: log entry 130. -/
def plcSend (p : Nat) (b : List Byte) (s : State) : State := if grp s 1 then plcOut p (robo s p) b s else leaGated p s

/-! ### Slots (R224, R226, R227) -/

/-- The exchange of a slot is in progress. -/
def inExch (q : LPort) (n : Nat) : Bool := match q.exch with | some e => e.slot == n | none => false

/-- A slot change by command, at once or after the exchange in progress (R226). -/
def slotChange (p n : Nat) (c : SlotChange) (s : State) : State :=
  let q := lport s p
  if inExch q n then setLport p { q with waiting := q.waiting ++ [c] } s else applyChange p s c

/-- The exchange has ended: what waited for it applies, and the step moves on. -/
def exchangeOver (p : Nat) (s : State) : State :=
  let q := lport s p
  endExch p (setLport p { q with freeAt := s.elapsed, pos := q.pos + 1 } s)

/-- The slot-table changes that waited for the open exchange take effect: its response has been processed (R226). -/
def applyWaiting (p : Nat) (s : State) : State :=
  let q := lport s p
  q.waiting.foldl (applyChange p) (setLport p { q with waiting := [] } s)

/-- The end of an exchange whose slot was freed under it (R62): no row of R227 makes a FREE slot anything at a response or its loss.
DEDUCED: log entry 64. -/
def freedExch (p : Nat) (e : Exch) (s : State) : State :=
  exchangeOver p (match e.item with | some (n, _) => dropItem n s | none => s)

/-- The index's slots elsewhere are released (R227). -/
def releaseElsewhere (p n i : Nat) (s : State) : State :=
  (List.range 4).foldl (fun t r =>
    ((lport s r).slots.filter (fun e => e.2.idx == i && e.2.st != .free && !(r == p && e.1 == n))).foldl
      (fun u e => slotChange r e.1 (.release e.1 (decide (r ≠ p))) u) t) s

/-- A slot is allocated to an index (R227). DEDUCED: log entry 64. -/
def allocate (p n i : Nat) (s : State) : State :=
  let s1 := releaseElsewhere p n i s
  let k : LSlot := { idx := i, bindGen := (entry s i).bindGen.toNat, st := .assigned, tmUp := robo s p, tmDown := robo s p, tmDue := true }
  let s2 := putSlotL p n k s1
  let q := lport s2 p
  raise 48 (4096 * p + n) i (setLport p { q with assigns := q.assigns.filter (fun a => a.1 != n) ++ [(n, euiOf s i)] } s2)

/-- The lowest FREE slot of a port's auto range (R227). -/
def autoSlot (p : Nat) (s : State) : Option Nat :=
  let q := lport s p
  ((List.range (leaP s 12 p 2)).map (fun k => leaP s 12 p 1 + k)).find? (fun n => (slotAt q n).st == .free)

/-! ### Commands (R377) -/

/-- A schedule word follows R225. DEDUCED: log entry 63. -/
def stepOk (w : Nat) : Bool :=
  let count := bits w 16 13
  let first := bits w 0 12
  decide (bits w 12 4 = 0) &&
  (match bits w 29 3 with
   | 0 => decide (1 ≤ count ∧ first + count ≤ 4096)
   | 1 => decide (1 ≤ count ∧ count ≤ 64 ∧ first = 0)
   | 2 => decide (1 ≤ count ∧ first = 0)
   | 3 => decide (1 ≤ count ∧ count ≤ 16 ∧ first = 0)
   | 7 => decide (first = 0)
   | _ => false)

/-- The rules of R226. -/
def schedOk (l : List Nat) : Bool :=
  let run := l.takeWhile (fun w => decide (bits w 29 3 ≠ 7))
  decide (l.length ≤ 1024 ∧ run.length < l.length) && l.all stepOk && run.any (fun w => decide (bits w 29 3 = 2 ∧ 50 ≤ bits w 16 13))

/-- A port runs its schedule (RUN of LEA_STATUS). -/
def leaRuns (s : State) (p : Nat) : Bool := (lport s p).run && leaLive s && !s.dev.quiet

def scheduleLoadCmd (c : Ctx) (p n : Nat) (s : State) : CmdRes :=
  let l := (List.range n).map (fun k => ofLe (slice c.xin (4 * k) 4))
  if 4 ≤ p ∨ !schedOk l then refuse .badParam s
  else
    let q := lport s p
    .ok (setLport p (if leaRuns s p then { q with nextSched := some l } else { q with sched := l, nextSched := none }) s) 0 []

/-- The code of SSTATE (R224). -/
def slotCode : SlotSt → Nat
  | .free => 0 | .assigned => 1 | .active => 2 | .lost => 3

/-- A slot entry's 32 bytes (R224). -/
def slotBytes (k : LSlot) : List Byte :=
  leBytes 4 (k.idx + k.bindGen * 2 ^ 20 + slotCode k.st * 2 ^ 28) ++ leBytes 4 k.tmUp ++ leBytes 4 k.tmDown ++ leBytes 4 k.tmAge
    ++ leBytes 4 k.lastResp ++ leBytes 1 k.miss ++ leBytes 1 k.loss ++ leBytes 1 (k.phEst + 8 * k.phCand) ++ leBytes 1 k.phRun
    ++ leBytes 4 k.ackSeq ++ leBytes 1 (b2n k.ackDue + 2 * b2n k.tmDue + 4 * k.drop) ++ zeros 3

def slotReadCmd (p first count : Nat) (s : State) : CmdRes :=
  if 4 ≤ p ∨ 4096 < first + count then refuse .badParam s
  else .ok s 0 ((List.range count).map (fun k => slotBytes (slotAt (lport s p) (first + k)))).flatten

def slotAssignCmd (p n i : Nat) (s : State) : CmdRes :=
  if (entry s i).state = .free then refuse .notFound s
  else if 4 ≤ p ∨ 4096 ≤ n then refuse .badParam s
  else if (slotAt (lport s p) n).st ≠ .free then refuse .refusedState s
  else .ok (allocate p n i s) 0 []

def slotReleaseCmd (p n : Nat) (s : State) : CmdRes :=
  if 4 ≤ p ∨ 4096 ≤ n then refuse .badParam s
  else if (slotAt (lport s p) n).st = .free then refuse .refusedState s
  else .ok (slotChange p n (.release n false) s) 0 []

def tmOverrideCmd (p n op tm : Nat) (s : State) : CmdRes :=
  if 4 ≤ p ∨ 4096 ≤ n then refuse .badParam s
  else if (slotAt (lport s p) n).st = .free then refuse .refusedState s
  else if 1 < op ∨ (op = 1 ∧ !tmOk s p tm) then refuse .badParam s
  else .ok (slotChange p n (.tone n (if op = 1 then some tm else none)) s) 0 []

/-- A port restarts (R219): the exchange is lost, every tone map returns to ROBO with a refresh due, an override that R222 refuses in
the port's band plan falls away; a calibration runs again. DEDUCED: log entry 62. -/
def restartLport (p : Nat) (s : State) : State :=
  let t := cutLport p s
  let q := lport t p
  let r := robo t p
  setLport p { q with slots := q.slots.map (fun e => (e.1, { e.2 with tmUp := r, tmDown := r, tmDue := true, override := e.2.override.filter (tmOk t p) }))
                      step := 0, begun := false, pos := 0, cycleAt := s.elapsed } t

def leatRestarts (ents : List CfgEntry) : List Nat :=
  (List.range 4).filter (fun p => ents.any (fun e => decide (e.pid.toNat ≤ 1 ∧ e.scope.toNat / 256 = p)))

def leatConfigAfter (ents : List CfgEntry) (_ : Tab Int) (s : State) : State := (leatRestarts ents).foldl (fun t p => restartLport p t) s

/-- After a restore (R223): slots in use become ACTIVE in ROBO, a refresh due, their phase runs cleared. -/
def leatRestore (s : State) : State :=
  { s with lea := { s.lea with ports := s.lea.ports.map (fun e =>
      let r := robo s e.1
      (e.1, { e.2 with slots := e.2.slots.map (fun x =>
        (x.1, if x.2.st = .free then x.2 else { x.2 with st := .active, tmUp := r, tmDown := r, tmDue := true, phRun := 0 })) })) } }

/-! ### The schedule (R225, R226, R234, R484) -/

def stepWord (q : LPort) : Nat := q.sched.getD q.step (7 * 2 ^ 29)
def stepType (w : Nat) : Nat := bits w 29 3
def stepCount (w : Nat) : Nat := bits w 16 13

/-- The step ends; the next one may begin. -/
def stepDone (p : Nat) (s : State) : State :=
  let q := lport s p
  setLport p { q with step := q.step + 1, begun := false, pos := 0, exch := none } s

/-- A cycle ends at END (R226, R248). -/
def cycleEnd (p : Nat) (s : State) : State :=
  let q := lport s p
  let ms := (s.elapsed - q.cycleAt) / tickMs
  let s1 := setLport p { q with step := 0, cycle := q.cycle + 1, cycleAt := s.elapsed, cycleMs := ms, sched := q.nextSched.getD q.sched
                                nextSched := none } s
  if leaP s 22 0 0 * 1000 < ms then raise 54 p ms s1 else s1

/-- Queued broadcasts go out in a BCAST step. DEDUCED: log entry 63. -/
def sendBcasts (p : Nat) : Nat → State → State
  | 0, s => s
  | n + 1, s =>
    let q := lport s p
    match q.bcast with
    | [] => s
    | (_, c) :: rest =>
      let f := plcFrame s 7 0xFFF q.pseq (leBytes 2 c.length ++ c)
      let t := setLport p { q with bcast := rest } s
      sendBcasts p n (plcSend p f (if grp s 1 then bump 0x80028 1 t else t))

/-- Some port calibrates its AFE. -/
def anyCal (s : State) : Bool := s.lea.ports.any (fun e => e.2.calibrating)

/-- Begin the step the port stands at; a DISCOVERY step's listening runs from the end of its DISC_INVITE (R234). -/
def beginStep (p : Nat) (s : State) : State :=
  let q := lport s p
  let w := stepWord q
  let sub := leaP s 13 0 0
  let s1 := setLport p { q with begun := true, stepAt := s.elapsed, subMs := sub, pos := 0, exch := none, fullRaised := false } s
  match stepType w with
  | 1 =>
    let f := plcFrame s 3 0xFFF q.pseq (leBytes 1 (stepCount w) ++ leBytes 2 sub ++ zeros 1)
    let t := sdoTicks (plcWords s p (robo s p) f) + nsTicks (leaP s 1 p 1)
    plcSend p f (if grp s 1 then setLport p { lport s1 p with stepAt := s.elapsed + t } s1 else s1)
  | 2 =>
    if q.calDue ∧ 50 ≤ stepCount w ∧ !anyCal s ∧ grp s 1 then
      let r := lport s1 p
      setLport p { r with calibrating := true } s1
    else s1
  | 3 => stepDone p (sendBcasts p (stepCount w) s1)
  | _ => s1

/-- The state as an exchange reads its parameters: under the configuration it began with (R246). -/
def exState (e : Option Exch) (s : State) : State := { s with cfg := (e.map (·.cfg)).getD s.cfg }

/-- INTER_GAP has passed since the last exchange of the port (R229). -/
def gapOver (s : State) (p : Nat) : Bool :=
  let q := lport s p
  decide (q.freeAt = 0) || passed s q.freeAt (leaP (exState q.exch s) 4 0 0 * tickMs)

/-- The step a port would begin sends at its start, and INTER_GAP has not passed (R229). -/
def mustWait (s : State) (p : Nat) : Bool :=
  let q := lport s p
  let next := if q.run && stepType (stepWord q) != 7 then stepWord q else ((if q.run then q.nextSched else none).getD q.sched).headD 0
  (stepType next == 1 || stepType next == 3) && !gapOver s p

/-- LEAT_STEP_START. -/
def stepStart (p : Nat) (s : State) : State :=
  let q := lport s p
  if !leaLive s ∨ s.dev.quiet ∨ q.begun ∨ q.sched = [] ∨ mustWait s p then s
  else
    let s1 := if q.run then s else setLport p { q with run := true, step := 0, cycleAt := s.elapsed } s
    beginStep p (if stepType (stepWord (lport s1 p)) = 7 then cycleEnd p s1 else s1)

/-- The port stands in a step of a type that has begun. -/
def inStep (s : State) (p t : Nat) : Bool := leaLive s && !s.dev.quiet && (lport s p).begun && stepType (stepWord (lport s p)) == t

/-- DISCOVERY_END (R234): every ASSIGN and RELEASE that is due goes out. -/
def discoveryEnd (p : Nat) (s : State) : State :=
  let q := lport s p
  if !inStep s p 1 ∨ !passed s q.stepAt (stepCount (stepWord q) * q.subMs * tickMs) then s
  else
    let send := fun (ty : Nat) (t : State) (a : Nat × Nat) => plcSend p (plcFrame t ty (slotField p a.1) q.pseq (leBytes 8 a.2)) t
    let s1 := q.releases.foldl (send 6) (q.assigns.foldl (send 5) s)
    let r := lport s1 p
    stepDone p (if grp s 1 then setLport p { r with assigns := [], releases := [] } s1 else s1)

/-- IDLE_STEP_END; a calibration not ended by then waits for the next such step (R484). -/
def idleEnd (p : Nat) (s : State) : State :=
  let q := lport s p
  if !inStep s p 2 ∨ !passed s q.stepAt (stepCount (stepWord q) * tickMs) then s
  else stepDone p (setLport p { q with calibrating := false } s)

/-- PLC_AFE_CALIBRATION_DONE (R484, R485). -/
def calibrated (p : Nat) (s : State) : State :=
  let q := lport s p
  if !q.calibrating then s
  else q.calCmd.foldl (fun t w => replyLater w .ok 0 t) (setLport p { q with calibrating := false, calDue := false, calCmd := [] } s)

/-! ### Polling (R228–R231) -/

/-- A value of the configuration an exchange began under (R246). -/
def exP (e : Exch) (pid p k : Nat) : Nat := (cfgGet e.cfg .leat pid (256 * p + k)).toNat

/-- The item a re-poll repeats (R230), where its index may still be sent to (R277). -/
def repollItem (e : Exch) (i : Nat) (s : State) : Option (Nat × List Byte) × State :=
  match e.item with
  | some (n, b) => if (entry s i).state = .blocked then (none, dropItem n s) else (some (n, b), s)
  | none => (none, s)

/-- The POLL of a slot, new or repeated, goes out in the slot's TM_DOWN (R239). DEDUCED: log entry 61. -/
def sendPoll (p n : Nat) (again : Option Exch) (s : State) : State :=
  let q := lport s p
  let k := slotAt q n
  let tm := if k.tmDue then k.override.getD (chooseTm (exState again s) p k.snr) else k.tmUp
  let (item, s1) := match again with
    | some e => repollItem e k.idx s
    | none => pollItem p k.idx s
  let pseq := match again with | some e => e.pseq | none => (q.pseq + 1) % 256
  let c := (item.map (·.2)).getD []
  let body := leBytes 4 (if k.ackDue then k.ackSeq else 0) ++ leBytes 1 (b2n k.ackDue + 2 * (entry s k.idx).pend.toNat) ++ leBytes 4 tm
    ++ leBytes 1 (b2n k.tmDue) ++ leBytes 2 c.length ++ c
  let f := plcFrame s 1 (slotField p n) pseq body
  let air := sdoTicks (plcWords s p k.tmDown f) + nsTicks (leaP s 1 p 1)
  let e : Exch := { slot := n, pseq := pseq, repolls := (again.map (·.repolls)).getD 0, more := ((q.exch).map (·.more)).getD 0, item := item
                    tmReq := k.tmDue, endAt := s.elapsed + air, cfg := (again.map (·.cfg)).getD s.cfg }
  let q1 := lport s1 p
  bump (leaCtr p 0) 1 (plcOut p k.tmDown f
    (setLport p { q1 with exch := some e, pseq := pseq, slots := tset {} q1.slots n { k with tmUp := tm, ackDue := false } } s1))

/-- The check a POLL makes as it is built, new or repeated (R227, R228): the slot's index is FREE or bound anew. -/
def staleSlot (s : State) (k : LSlot) : Bool := (entry s k.idx).state == .free || (entry s k.idx).bindGen.toNat != k.bindGen

/-- A slot found stale as its POLL is built becomes FREE, and its exchange ends (R227). -/
def stalePoll (p : Nat) (e : Exch) (s : State) : State :=
  let s1 := match e.item with | some (n, _) => dropItem n s | none => s
  exchangeOver p (bump 0x70008 1 (freeSlot p e.slot s1))

/-- The slots of a range still to poll in this step. -/
def rangeSlots (q : LPort) : List (Nat × LSlot) :=
  let w := stepWord q
  q.slots.filter (fun e => decide (bits w 0 12 + q.pos ≤ e.1 ∧ e.1 < bits w 0 12 + stepCount w) && e.2.st != .free)

/-- The next slot to poll (R225, R227): slots whose index has gone, and lost ones silent too long, become FREE on the way. -/
def nextSlot (p : Nat) : List (Nat × LSlot) → State → Option Nat × State
  | [], s => (none, s)
  | (n, k) :: t, s =>
    let lost := k.st == .lost
    if lost ∧ (lport s p).cycle % leaP s 9 0 0 ≠ 0 then nextSlot p t s
    else if !grp s 1 then (some n, s)
    else if lost ∧ leaP s 10 0 0 ≤ (nowS s % 2 ^ 32 + 2 ^ 32 - k.lastResp) % 2 ^ 32 then nextSlot p t (freeSlot p n s)
    else if staleSlot s k then nextSlot p t (bump 0x70008 1 (freeSlot p n s))
    else (some n, s)

/-- POLL_SEND: `idle` is how long the line has been sensed idle, ns (R229). -/
def pollSend (p idle : Nat) (s : State) : State :=
  let q := lport s p
  if !inStep s p 0 ∨ idle < leaP (exState q.exch s) 2 0 0 * 1000000 ∨ !gapOver s p then s
  else match q.exch with
  | some e =>
    if e.open_ then s
    else if !grp s 1 then leaGated p (exchangeOver p s)
    else if staleSlot s (slotAt q e.slot) then stalePoll p e s
    else sendPoll p e.slot (if e.fresh then none else some e) s
  | none =>
    match nextSlot p (rangeSlots q) s with
    | (none, t) => stepDone p t
    | (some n, t) =>
      let r := lport t p
      let t1 := setLport p { r with pos := n - bits (stepWord r) 0 12 } t
      if !grp s 1 then
        let u := lport t1 p
        leaGated p (setLport p { u with pos := u.pos + 1 } t1)
      else sendPoll p n none t1

/-- A response is lost (R227, R230, R238). DEDUCED: log entry 61. -/
def lostResponse (p : Nat) (e : Exch) (s : State) : State :=
  let k := slotAt (lport s p) e.slot
  let loss := min 255 (k.loss + 1)
  let fall := decide (loss = exP e 7 0 0)
  let k1 := if fall then { k with loss := loss, tmUp := robo s p, tmDown := robo s p, tmDue := true } else { k with loss := loss }
  let s1 := bump (leaCtr p 2) 1 (putSlotL p e.slot k1 s)
  let s2 := if fall then raise 50 (4096 * p + e.slot) loss s1 else s1
  if e.repolls < exP e 5 0 0 then
    setLport p { lport s2 p with exch := some { e with repolls := e.repolls + 1, open_ := false }, freeAt := s.elapsed } s2
  else
    let miss := min 255 (k1.miss + 1)
    let k2 := { k1 with miss := miss, tmDown := if e.tmReq then robo s p else k1.tmDown }
    let s3 := putSlotL p e.slot k2 s2
    let s4 := match e.item with
      | some (n, _) => { s3 with tai := { s3.tai with outcomes := s3.tai.outcomes ++ [(n, false, false)] } }
      | none => s3
    let s5 := if k2.st = .assigned ∧ exP e 11 0 0 ≤ miss then freeSlot p e.slot s4
      else if k2.st = .active ∧ exP e 8 0 0 ≤ miss then raise 46 p e.slot (putSlotL p e.slot { k2 with st := .lost } s4) else s4
    exchangeOver p s5

/-- RESPONSE_LOST: no preamble by RESP_GAP + 1 ms, or `fch`: one whose frame control header failed (R229). DEDUCED: log entry 65. -/
def responseLost (p : Nat) (fch : Bool) (s : State) : State :=
  match (lport s p).exch with
  | none => s
  | some e =>
    if !leaLive s ∨ !e.open_ ∨ !(fch || passed s e.endAt ((exP e 3 0 0 + 1) * tickMs)) then s
    else if (slotAt (lport s p) e.slot).st = .free then freedExch p e (bump (leaCtr p 2) 1 s) else lostResponse p e s

/-! ### Phase (R242–R245) -/

/-- The six local events: class and newest instant. DEDUCED: log entry 66. -/
def localEvents (s : State) : List (Nat × Nat) :=
  [1, 2, 3, 4, 5, 6].filterMap (fun c =>
    ((if c ≤ 3 then tget [] s.flu.rises c else tget [] s.flu.falls (c - 3)).head?).map (fun t => (c, t)))

/-- The class of a slave's crossing; nothing when it is ambiguous. Times in twelfths of a nanosecond. DEDUCED: log entry 66. -/
def phaseClass (s : State) (p stamp zcUs : Nat) : Option Nat :=
  let per : Int := s.flu.period
  let ts : Int := 12 * ((stamp : Int) - zcUs * 1000) - leaP s 19 p 0 * per
  let dist := fun (t : Nat) => let d := (ts - 12 * t) % (12 * per); min d (12 * per - d)
  let near := (localEvents s).foldl (fun (b : Option (Nat × Int)) e => match b with
    | none => some (e.1, dist e.2)
    | some x => if dist e.2 < x.2 then some (e.1, dist e.2) else some x) none
  match near with
  | some (c, d) => if d ≤ 12000 * (leaP s 20 0 0 : Int) then some c else none
  | none => none

/-- A phase sample (R243–R245). -/
def phaseSample (p n stamp zcUs : Nat) (s : State) : State :=
  if zcUs = 0xFFFF ∨ (s.flu.period ≠ 0 ∧ s.flu.period ≤ zcUs * 1000) then s
  else if !s.lea.refOk then bump 0x7000C 1 s
  else match phaseClass s p stamp zcUs with
  | none => bump (leaCtr p 10) 1 s
  | some c =>
    let k := slotAt (lport s p) n
    let run := if k.phCand = c then min 255 (k.phRun + 1) else 1
    let est := if leaP s 21 0 0 ≤ run then c else k.phEst
    let s1 := bump (leaCtr p 9) 1 (putSlotL p n { k with phCand := c, phRun := run, phEst := est } s)
    let s2 := if est ≠ k.phEst then raise 52 k.idx (16 * est + k.phEst) s1 else s1
    if c = est then { s2 with lea := { s2.lea with phaseWr := s2.lea.phaseWr ++ [(k.idx, k.bindGen, c)] } } else s2

/-- PHASE_WRITE (R245). -/
def phaseWrite (s : State) : State :=
  match s.lea.phaseWr with
  | [] => s
  | (i, g, c) :: rest =>
    let s1 := { s with lea := { s.lea with phaseWr := rest } }
    let e := entry s i
    if e.state = .free ∨ e.bindGen.toNat ≠ g ∨ e.phase.toNat = c then s1 else setEntry i { e with phase := BitVec.ofNat 3 c } s1

/-! ### Responses (R229–R241) -/

/-- A RESPONSE's tone map completes a refresh, and its SNR enters the filter (R236–R238). -/
def toneResponse (s : State) (p : Nat) (e : Exch) (tmDown : Nat) (snr : List Int) (k : LSlot) : Bool × LSlot :=
  let done := e.tmReq && tmOk s p tmDown
  let k1 := if done then { k with tmDown := tmDown, tmAge := nowS s % 2 ^ 32, tmDue := false } else k
  let low := lowSnr s p k.tmUp snr
  (done, { k1 with snr := filterSnr k.snr snr, drop := if low ∧ k.drop = 0 then 1 else 0, tmDue := k1.tmDue || (low && decide (k.drop = 1)) })

/-- A RESPONSE's receive stamp at the line (R217). -/
def respStamp (p : Nat) (x : PlcRx) (s : State) : Nat := nowNs s - leaP s 1 p 0 - x.air.toNat

/-- The GRF of a RESPONSE goes to admission (R232). -/
def respGrf (p slot : Nat) (x : PlcRx) (stamp : Nat) (s : State) : State :=
  let b := fBody x.psdu
  let grf := (b.drop 7).take (byteAt b 6)
  if grf = [] then s else presentLocal { bytes := grf, path := 2, port := p, rxNs := stamp, ret := .plc p slot } s

/-- A RESPONSE received whole to the POLL in flight. -/
def goodResponse (p : Nat) (e : Exch) (x : PlcRx) (s : State) : State :=
  let b := fBody x.psdu
  let k := slotAt (lport s p) e.slot
  let r1_ := toneResponse (exState (some e) s) p e (ofLe (slice b 2 4)) x.snr k
  let done := r1_.1
  let k1 := r1_.2
  let k2 := { k1 with st := .active, miss := 0, loss := 0, lastResp := nowS s % 2 ^ 32 }
  let s1 := bump (leaCtr p 6) (b2n done) (bump (leaCtr p 1) 1 (putSlotL p e.slot k2 s))
  let s2 := if k.st = .lost then raise 47 p e.slot s1 else s1
  let s3 := match e.item with
    | some (n, _) => { s2 with tai := { s2.tai with outcomes := s2.tai.outcomes ++ [(n, true, false)] } }
    | none => s2
  let s4 := phaseSample p e.slot (respStamp p x s) (ofLe (slice b 0 2)) s3
  let again := bit (byteAt x.psdu 1) 0 && decide (e.more < exP e 6 0 0)
  let t := applyWaiting p s4
  let s5 := if again ∧ (slotAt (lport t p) e.slot).st ≠ .free then
      setLport p { lport t p with exch := some { slot := e.slot, pseq := e.pseq, more := e.more + 1, open_ := false, fresh := true, cfg := s.cfg }
                                  freeAt := s.elapsed } t
    else exchangeOver p t
  respGrf p e.slot x (respStamp p x s) s5

/-- What R220 and R240 make of a frame heard. -/
inductive Heard where
  | abandoned | bad | foreign | good
  deriving DecidableEq, Repr

/-- Judge a frame heard, under a configuration: its erased symbols, then its form, then its CONC_ID, which a DISC_ANSWER need not
share (R220, R240). `slot` is the slot whose exchange is open. DEDUCED: log entry 65. -/
def lineFrame (cfg : Tab Int) (p slot : Nat) (x : PlcRx) (s : State) : Heard × State :=
  let erased := (x.excess.filter (fun d => decide (cfgGet cfg .leat 17 0 ≤ d))).length
  let s1 := bump (leaCtr p 5) erased s
  if (cfgGet cfg .leat 18 0).toNat * x.excess.length < 1000 * erased then (.abandoned, raise 51 (4096 * p + slot) erased s1)
  else if !plcForm x.psdu then (.bad, bump (leaCtr p 3) 1 s1)
  else if fType x.psdu ≠ 4 ∧ fConc x.psdu ≠ paramN s .vane 3 0 then (.foreign, bump (leaCtr p 4) 1 s1)
  else (.good, s1)

/-- RESPONSE_RECEIVED: any frame heard outside a discovery round; one with no exchange open is judged and goes no further.
DEDUCED: log entry 65. -/
def responseReceived (p : Nat) (x : PlcRx) (s : State) : State :=
  let q := lport s p
  if !leaLive s ∨ !listens s 1 ∨ !q.lock then s
  else if s.dev.quiet then bump (leaCtr p 12) 1 s
  else match q.exch.filter (·.open_) with
  | none => (lineFrame s.cfg p 0xFFF x s).2
  | some e =>
    match lineFrame e.cfg p e.slot x s with
    | (.good, s1) =>
      if fType x.psdu ≠ 2 then s1
      else if byteAt x.psdu 6 ≠ e.pseq ∨ fSlot x.psdu ≠ slotField p e.slot then bump (leaCtr p 3) 1 s1
      else if (slotAt q e.slot).st = .free then respGrf p e.slot x (respStamp p x s1) (freedExch p e (bump (leaCtr p 1) 1 s1))
      else goodResponse p e x s1
    | (_, s1) => if (slotAt q e.slot).st = .free then freedExch p e (bump (leaCtr p 2) 1 s1) else lostResponse p e s1

/-- DISC_ANSWER_RECEIVED (R227, R234): a frame heard in a discovery round. -/
def discAnswer (p : Nat) (x : PlcRx) (s : State) : State :=
  let q := lport s p
  if !leaLive s ∨ !listens s 1 ∨ !q.lock then s
  else if s.dev.quiet then bump (leaCtr p 12) 1 s
  else match lineFrame s.cfg p 0xFFF x s with
  | (.good, s0) =>
    if fType x.psdu ≠ 4 ∨ !inStep s p 1 then s0
    else
      let eui := ofLe (slice (fBody x.psdu) 1 8)
      let s1 := bump (leaCtr p 7) 1 s0
      match revFind s eui with
      | none => stranger eui 0 3 2 p 0x80 (respStamp p x s) s1
      | some i =>
        match (if leaP s 12 p 0 = 1 then autoSlot p s else none) with
        | some n => allocate p n i s1
        | none =>
          let s2 := bump (leaCtr p 8) 1 s1
          if q.fullRaised then s2
          else raise 49 p 0 (setLport p { lport s2 p with fullRaised := true } s2)
  | (_, s1) => s1

/-- TM_REFRESH_DUE (R238). -/
def refreshDue (p n : Nat) (s : State) : State :=
  let k := slotAt (lport s p) n
  if k.st ≠ .free ∧ leaP s 14 0 0 ≤ (nowS s % 2 ^ 32 + 2 ^ 32 - k.tmAge) % 2 ^ 32 ∧ grp s 1 then putSlotL p n { k with tmDue := true } s else s

/-! ### Meanings -/

def execLeatConfig (c : Ctx) (op : Byte) (ents : List CfgEntry) (s : State) : Res :=
  .next (command (.leatConfig c op ents) true (configure .leat op ents (fun _ _ => none) (leatConfigAfter ents)) s)
def execScheduleLoad (c : Ctx) (port : Byte) (nstep : U16) (s : State) : Res :=
  .next (command (.scheduleLoad c port nstep) (decide (c.xlen = 4 * nstep.toNat)) (scheduleLoadCmd c port.toNat nstep.toNat) s)
def execSlotRead (c : Ctx) (port : Byte) (first count : U16) (s : State) : Res :=
  .next (command (.slotRead c port first count) (decide (c.xlen = 32 * count.toNat)) (slotReadCmd port.toNat first.toNat count.toNat) s)
def execSlotAssign (c : Ctx) (port : Byte) (slot : U16) (idx : Idx) (s : State) : Res :=
  .next (command (.slotAssign c port slot idx) true (slotAssignCmd port.toNat slot.toNat idx.toNat) s)
def execSlotRelease (c : Ctx) (port : Byte) (slot : U16) (s : State) : Res :=
  .next (command (.slotRelease c port slot) true (slotReleaseCmd port.toNat slot.toNat) s)
def execTmOverride (c : Ctx) (port : Byte) (slot : U16) (op : Byte) (tm : U32) (s : State) : Res :=
  .next (command (.tmOverride c port slot op tm) true (tmOverrideCmd port.toNat slot.toNat op.toNat tm.toNat) s)
def execAfeSyncLoss (port : Fin 4) (words : List (BitVec 20)) (s : State) : Res :=
  .next (if !leaLive s ∨ !(lport s port.val).lock ∨ !laneLoses sdiSync words then s else raise 45 port.val 0 (setLport port.val { lport s port.val with lock := false } s))
def execAfeSyncLock (port : Fin 4) (words : List (BitVec 20)) (s : State) : Res :=
  .next (if leaLive s ∧ listens s 1 ∧ laneLocks sdiSync words then setLport port.val { lport s port.val with lock := true } s else s)
def execLeatStepStart (port : Fin 4) (s : State) : Res := .next (stepStart port.val s)
def execPollSend (port : Fin 4) (idle : U32) (s : State) : Res := .next (pollSend port.val idle.toNat s)
def execResponseReceived (port : Fin 4) (rx : PlcRx) (s : State) : Res := .next (responseReceived port.val rx s)
def execResponseLost (port : Fin 4) (fch : Bool) (s : State) : Res := .next (responseLost port.val fch s)
def execPhaseWrite (s : State) : Res := .next (if dark s .ldg then s else phaseWrite s)
def execDiscAnswerReceived (port : Fin 4) (rx : PlcRx) (s : State) : Res := .next (discAnswer port.val rx s)
def execDiscoveryEnd (port : Fin 4) (s : State) : Res := .next (discoveryEnd port.val s)
def execIdleStepEnd (port : Fin 4) (s : State) : Res := .next (idleEnd port.val s)
def execPlcAfeCalibrationDone (port : Fin 4) (s : State) : Res := .next (if leaLive s then calibrated port.val s else s)
def execTmRefreshDue (port : Fin 4) (slot : BitVec 12) (s : State) : Res := .next (if leaLive s then refreshDue port.val slot.toNat s else s)

end Sys2Proof.Machine
end

