-- ==== Sys2Proof/Machine/Diagnostics.lean ====
section
/-! DEFINITION. Clock monitors, fabric watchdogs, diagnostics, self-tests and the clearing of faults (R21–R23, R31, R101, R102,
R386, R472–R488). -/

namespace Sys2Proof.Machine

/-! ### Lanes by command (R101, R102, R386) -/

def laneStopCmd (l : Nat) (s : State) : CmdRes :=
  if 4 ≤ l then refuse .badParam s
  else if !s.ing.run.getLsbD l then .ok s 0 []
  else if clrBit s.ing.run l = 0 then refuse .refusedState s
  else .ok (laneStop l 2 s) 0 []

def laneRestartCmd (l : Nat) (pass : Bool) (s : State) : CmdRes :=
  if 4 ≤ l then refuse .badParam s
  else if s.ing.run.getLsbD l then .ok s 0 []
  else if pass then .ok (laneReturn l s) 0 [] else refuse .refusedState s

/-! ### Clock monitors (R31, R494) -/

/-- A domain whose clock the present power state runs and the TB monitors watch. -/
def monitored (s : State) (d : Dom) : Bool :=
  match d with
  | .tb | .aon => false
  | .rfiq _ => s.pwr.st == .run
  | .pcie => s.pwr.st == .run || s.pwr.st == .trim || s.pwr.st == .doze
  | _ => s.pwr.st == .run || s.pwr.st == .trim

/-- What goes with a domain's clock: the clock-loss event, which for ETH, PCIE, MEM, NAND and SVC no event table numbers; the port or
ports, Flume's channels, and the host frames a port still holds (R31, R35, R181, R215, R284). DESIGN CHOICE: log entry 124. -/
def clockGone (d : Dom) (s : State) : State :=
  match d with
  | .rfiq p => raise 28 p.val 0 (setVport p.val { vport (cutPort p.val s) p.val with lock := false, acks := [] } (cutPort p.val s))
  | .afe =>
    let s1 := (List.range 4).foldl (fun t p =>
      let u := cutLport p t
      if lport u p = {} then u else setLport p { lport u p with lock := false, begun := false } u) s
    fluOff ((List.range 12).foldl (fun t c => chanFault c 2 t) (raise 44 0 0 s1))
  | .eth => takePtp (openRecord 2 s)
  | .pcie => openRecord 3 s
  | .mem => openRecord 4 s
  | .nand => openRecord 5 s
  | .svc => openRecord 6 s
  | .tb | .aon => s

/-- A domain declared unclocked (R31). -/
def clockLoss (d : Dom) (s : State) : State :=
  if !monitored s d ∨ s.dev.unclocked.contains d then s
  else clockGone d { s with dev := { s.dev with unclocked := d :: s.dev.unclocked } }

def clockRestore (d : Dom) (s : State) : State :=
  let t := { s with dev := { s.dev with unclocked := s.dev.unclocked.filter (fun x => x != d) } }
  if d = .afe ∧ !dark t .flu ∧ modClk t then fluOn t else t

/-! ### Fabric watchdogs (R21–R23, R475) -/

/-- The stage identity (R23). -/
def stageId (u : StageUnit) (stage : Nat) : Nat :=
  match u with
  | .sluice l c => stage + 256 * l.val + 65536 * b2n c
  | .setpointA => stage + 256 * 0x10
  | .setpointB => stage + 256 * 0x11
  | .setpointComparator => stage + 256 * 0x12
  | .safeLogic => stage + 256 * 0x18
  | .bundled b => stage + 256 * (0x40 + b.val)

/-- A watchdog trips; `rerun`: the rerun of the operation completed (R475, R477). -/
def watchdog (u : StageUnit) (stage : Nat) (rerun : Bool) (s : State) : State :=
  let id := stageId u stage
  let s1 := raise 120 id 0 s
  match u with
  | .bundled _ => s1
  | .sluice l _ =>
    if !s.ing.run.getLsbD l.val then s1
    else diagnose 13 rerun (fun t => laneStop l.val 1 (raise 120 id 1 t)) s1
  | _ => diagnose 1 rerun (fun t => enterSafe 1 (raise 120 id 1 t)) s1

/-! ### Periodic diagnostics (R475, R476, R482, R483) -/

/-- One comparator's self-check: 0–3 a Sluice's, 4 the setpoint comparator's. -/
def comparatorBad (k : Nat) (againOk : Bool) (s : State) : State :=
  if k < 4 then
    if !s.ing.run.getLsbD k then s else diagnose 3 againOk (fun t => laneStop k 0 (raise 125 1 3 t)) s
  else diagnose 3 againOk (fun t => enterSafe 3 (raise 125 2 3 t)) s

/-- COMPARATOR_SELF_CHECK: the comparators found stuck, those still stuck when the check is repeated, and those with no gap to test
in, which are counted and wait for the next second. DEDUCED: log entry 89. -/
def comparatorCheck (stuck again gap : BitVec 5) (s : State) : State :=
  ((List.range 5).filter (fun k => stuck.getLsbD k && !gap.getLsbD k)).foldl (fun t k => comparatorBad k (!again.getLsbD k) t)
    { s with saf := { s.saf with noGap := s.saf.noGap + ((List.range 5).filter (fun k => gap.getLsbD k)).length } }

/-- End the self-tests of a number that a predicate picks, with their result (R485). -/
def endTests (p : STest → Bool) (code : Nat) (s : State) : State :=
  let l := s.saf.tests.filter p
  l.foldl (fun t x =>
      let t1 := replyLater x.job .ok code { t with saf := { t.saf with stestLast := x.test, stestRes := code } }
      if code = 0 then t1 else raise 125 x.test code t1)
    (if l = [] then s else { s with saf := { s.saf with tests := s.saf.tests.filter (fun x => !p x) } })

/-- TB_RATE_CHECK: the TB cycles counted in 32,768 AON periods (R476). -/
def tbCheck (cycles : Nat) (s : State) : State :=
  let d : Int := (cycles : Int) - 400000000
  let bad := decide (400 * s.saf.tbTol < d.natAbs)
  let ppm := quotOpen d 4
  let was := s.saf.tbBad
  let s1 := { s with saf := { s.saf with tbPpm := ppm, tbBad := bad && !was, tbGood := if bad then 0 else s.saf.tbGood + 1 } }
  let s2 := if bad then raise 124 (toU32 ppm) 0 s1 else s1
  let s3 := if bad ∧ was then markCause 5 (enterSafe 5 s2) else if was then markCause 5 (transientFault 5 s2) else s2
  endTests (fun x => x.test == 3 && passed s x.at_ tickS) (if bad then 5 else 0) s3

/-- The TB clock stands still (R475). -/
def tbStopped (s : State) : State := enterSafe 5 (raise 124 (toU32 s.saf.tbPpm) 1 s)

/-- A core missed its heartbeat; `restarted`: its one restart brought it back (R475). The health count of R520 starts anew. -/
def heartbeat (core : Nat) (restarted : Bool) (s : State) : State :=
  if s.saf.coresFrozen.getLsbD core then s
  else diagnose 8 restarted (fun t =>
    let u := { t with saf := { t.saf with coresFrozen := setBit t.saf.coresFrozen core } }
    if coresGone u then enterSafe 8 u else u) { s with svc := { s.svc with healthAt := s.elapsed } }

/-- A memory test failed for good (R479): rotation stops; the cause is latched and leads to no safe state. -/
def memoryFault (bank ofs : Nat) (s : State) : State :=
  raise 126 bank ofs { s with saf := { s.saf with rotStopped := true, latched := setBit s.saf.latched 0xA },
                              svc := { s.svc with healthAt := s.elapsed } }

/-- BANK_ROTATION (R482): the bank's march test and its repetition, each with the failing word's offset if it failed. -/
def rotate (bad again : Option U32) (s : State) : State :=
  if s.saf.rotStopped ∨ !passed s s.saf.rotAt (2 * tickS) then s
  else
    let bank := s.saf.rotNext.getD s.saf.rotBank
    let next := if s.saf.rotNext.isSome then s.saf.rotBank else (s.saf.rotBank + 1) % 64
    let s1 := { s with saf := { s.saf with rotAt := s.elapsed, rotNext := none, rotBank := if bad.isSome ∧ again.isSome then s.saf.rotBank else next } }
    let mine := fun (x : STest) => x.test == 4 && x.arg == bank
    match bad, again with
    | some _, some o => endTests (fun x => x.test == 4) 0xA (markCause 0xA (memoryFault bank o.toNat s1))
    | some o, none =>
      if recurs 0xA s then endTests (fun x => x.test == 4) 0xA (markCause 0xA (memoryFault bank o.toNat s1))
      else endTests mine 0 (markCause 0xA (transientFault 0xA s1))
    | none, _ => endTests mine 0 s1

/-- SAFE_NFAULT_READBACK: the level read, and the level read again 1 ms later (R475). -/
def readback (rd again : Bool) (s : State) : State :=
  if rd = safePin s then s
  else
    let s1 := raise 127 (b2n (safePin s)) (b2n rd) s
    diagnose 6 (again == safePin s) (fun t => enterSafe 6 t) s1

/-- SRAM_SCRUB (R62, R398, R458, R475). -/
def scrubFound (f : ScrubFind) (s : State) : State :=
  match f with
  | .ledger i => rebuild i.toNat s
  | .recorder o y => recorderWord o.toNat y.toNat s
  | .keyCache i => { s with sec := { s.sec with cache := s.sec.cache.filter (fun x => x != i.toNat) } }

/-! ### SELF_TEST (R485, R386) -/

/-- A test that ends at once. DEDUCED: log entry 90. -/
def testNow (test code : Nat) (s : State) : CmdRes :=
  let s1 := { s with saf := { s.saf with stestLast := test, stestRes := code % 256 } }
  .ok (if code = 0 then s1 else raise 125 test code s1) code []

def testLater (c : Ctx) (test arg : Nat) (s : State) : CmdRes :=
  let x : STest := { test := test, arg := arg, job := jobOf c s, at_ := s.elapsed }
  .later { s with saf := { s.saf with tests := s.saf.tests ++ [x] } }

/-- SELF_TEST; `code` is what a test that ends at once found: 0, or its failure code. DEDUCED: log entry 90. -/
def selfTestCmd (c : Ctx) (test arg code : Nat) (s : State) : CmdRes :=
  let busy := s.saf.tests.any (fun x => x.test == test)
  match test with
  | 1 => if 4 ≤ arg then refuse .badParam s else if s.ing.run.getLsbD arg then refuse .refusedState s else testNow 1 code s
  | 2 => testNow 2 code s
  | 3 => if busy then refuse .busy s else testLater c 3 arg s
  | 4 =>
    if 64 ≤ arg then refuse .badParam s
    else if busy then refuse .busy s
    else if s.saf.rotStopped then testNow 4 0xA s
    else match testLater c 4 arg s with
      | .later t => .later { t with saf := { t.saf with rotNext := some arg } }
      | r => r
  | 5 =>
    if 4 ≤ arg then refuse .badParam s
    else if !leaRuns s arg then refuse .refusedState s
    else if s.lea.ports.any (fun e => decide (e.2.calCmd ≠ [])) then refuse .busy s
    else
      let q := lport s arg
      .later (setLport arg { q with calDue := true, calCmd := q.calCmd ++ [jobOf c s] } s)
  | 6 =>
    if s.brk.hold then refuse .refusedState s
    else if arg = 0 ∨ 255 < arg then refuse .badParam s
    else if busy then refuse .busy s
    else match testLater c 6 arg s with
      | .later t => .later (if safePin s then emit (.pin "SAFE_nFAULT" 0) { t with saf := { t.saf with pinLow := true } } else t)
      | r => r
  | 7 => if s.brk.onProof then testNow 7 code s else refuse .refusedState s
  | _ => refuse .badParam s

/-- SAFE_STATE_DRILL_END (R485): SAFE_nFAULT is released unless a fault holds it; `pass`: the readback agreed throughout. -/
def drillEnd (pass : Bool) (s : State) : State :=
  match s.saf.tests.find? (fun x => x.test == 6) with
  | none => s
  | some x =>
    if !passed s x.at_ (x.arg * tickMs) then s
    else
      let s1 := if s.saf.safe then s
        else (if s.pwr.wakeFault then id else emit (.pin "SAFE_nFAULT" 1)) { s with saf := { s.saf with pinLow := false } }
      endTests (fun y => y.test == 6) (if pass then 0 else 6) s1

/-! ### FAULT_CLEAR (R386, R478, R481) -/

/-- The retest of a latched cause: what the state shows of it, and otherwise how it came out. -/
def retest (k : Nat) (pass : Bool) (s : State) : Bool :=
  match k with
  | 4 => decide (16 ≤ s.brk.seen) || pass
  | 5 => decide (2 ≤ s.saf.tbGood)
  | 7 => true
  | 8 | 12 => false
  | 9 => decide (s.ing.run ≠ 0)
  | _ => pass

/-- What a cause's clearing brings with it (R465, R479). -/
def clearing (k : Nat) (s : State) : State :=
  match k with
  | 7 =>
    let t := ([6, 7, 8, 9, 10, 11].filter (fun m => frozen s m)).foldl (fun t m => releaseMaster m 3 t) s
    if frozen s 6 then resumeExport t else t
  | 10 => { s with saf := { s.saf with rotStopped := false } }
  | _ => s

def faultClearCmd (k : Nat) (pass : Bool) (s : State) : CmdRes :=
  if 16 ≤ k ∨ !s.saf.latched.getLsbD k ∨ !retest k pass s then refuse .refusedState s
  else .ok (campSettleAll (clearCause k (clearing k s))) 0 []

/-! ### Meanings -/

def execLaneStop (c : Ctx) (lane : Byte) (s : State) : Res := .next (command (.laneStop c lane) true (laneStopCmd lane.toNat) s)
def execLaneRestart (c : Ctx) (lane : Byte) (pass : Bool) (s : State) : Res := .next (command (.laneRestart c lane pass) true (laneRestartCmd lane.toNat pass) s)
def execSelfTest (c : Ctx) (test arg : Byte) (code : U32) (s : State) : Res :=
  .next (command (.selfTest c test arg code) true (selfTestCmd c test.toNat arg.toNat code.toNat) s)
def execFaultClear (c : Ctx) (cause : Byte) (pass : Bool) (s : State) : Res := .next (command (.faultClear c cause pass) true (faultClearCmd cause.toNat pass) s)
def execClockLoss (dom : Dom) (s : State) : Res := .next (clockLoss dom s)
def execClockRestore (dom : Dom) (s : State) : Res := .next (clockRestore dom s)
def execStageWatchdogTrip (unit : StageUnit) (stage : Byte) (rerun : Bool) (s : State) : Res :=
  .next (if dark s .ing then s else watchdog unit stage.toNat rerun s)
def execComparatorSelfCheck (stuck again gap : BitVec 5) (s : State) : Res :=
  .next (if dark s .ing then s else comparatorCheck stuck again gap s)
def execTbRateCheck (cycles : U32) (s : State) : Res := .next (if dark s .ing then s else tbCheck cycles.toNat s)
def execTbMonitorStop (s : State) : Res := .next (if dark s .ing then s else tbStopped s)
def execHeartbeatMiss (core : Fin 4) (restarted : Bool) (s : State) : Res := .next (if dark s .ing then s else heartbeat core.val restarted s)
def execBankRotation (bad again : Option U32) (s : State) : Res := .next (if dark s .ldg then s else rotate bad again s)
def execSafeNfaultReadback (read again : Bool) (s : State) : Res := .next (if dark s .ing then s else readback read again s)
def execSafeStateDrillEnd (pass : Bool) (s : State) : Res := .next (drillEnd pass s)
def execSramScrub (found : List ScrubFind) (s : State) : Res :=
  .next (if dark s .ldg then s else found.foldl (fun t f => scrubFound f t) s)

end Sys2Proof.Machine
end

