-- ==== Sys2Proof/Machine/Tailrace.lean ====
section
/-! DEFINITION. Tailrace's commands and events: tariffs, campaigns, setpoints, confirms and outcomes (R249–R281, R378). -/

namespace Sys2Proof.Machine

/-! ### Tariffs (R261–R263) -/

/-- The words of a list transfer. -/
def xinWords (c : Ctx) (n : Nat) : List Nat := (List.range n).map (fun k => ofLe (slice c.xin (4 * k) 4))

/-- An index of a list is FREE. -/
def anyFree (s : State) (l : List Nat) : Bool := l.any (fun i => decide (i < 2 ^ 20) && (entry s i).state == .free)

/-- Every word of a list is an IDX. -/
def allIdx (l : List Nat) : Bool := l.all (fun i => decide (i < 2 ^ 20))

def tariffLoadCmd (c : Ctx) (slot ver size : Nat) (s : State) : CmdRes :=
  if slot = 0xFF ∨ ver ≤ (tariff s slot).ver ∨ 4096 < size then refuse .badParam s
  else if s.tai.sweep.contains slot then refuse .busy s
  else .ok { s with tai := { s.tai with tariffs := tset {} s.tai.tariffs slot { ver := ver, data := c.xin.take size }
                                        sweep := s.tai.sweep ++ [slot] } } 0 []

/-- Assign a slot to an index (R262). -/
def assignTariff (slot i : Nat) (s : State) : State :=
  syncPend i (setDl i { dl s i with tslot := slot, tunconf := true, tseg := 0 } s)

def tariffAssignCmd (c : Ctx) (slot n : Nat) (s : State) : CmdRes :=
  let l := xinWords c n
  if anyFree s l then refuse .notFound s
  else if n = 0 ∨ 1024 < n ∨ !allIdx l then refuse .badParam s
  else .ok (l.foldl (fun t i => assignTariff slot i t) s) 0 []

/-- The sweep of the slot at the front marks every record that names it (R262). DEDUCED: log entry 67. -/
def sweepDone (s : State) : State :=
  match s.tai.sweep with
  | [] => s
  | slot :: rest =>
    let l := (s.tai.recs.filter (fun e => e.2.tslot == slot)).map (·.1)
    let s1 := l.foldl (fun t i => syncPend i (setDl i { dl t i with tunconf := true, tseg := 0 } t)) s
    raise 63 slot l.length { s1 with tai := { s1.tai with sweep := rest } }

/-! ### Campaign commands (R264–R267) -/

def campaignLoadCmd (c : Ctx) (k ver size : Nat) (s : State) : CmdRes :=
  if 16 ≤ k then refuse .badParam s
  else if (camp s k).st ≠ .idle then refuse .refusedState s
  else if size = 0 ∨ 4 * 2 ^ 20 < size then refuse .badParam s
  else
    let img := c.xin.take size
    let b := (size + 1023) / 1024
    let v : Camp := { image := img, size := size, imgVer := ver, blocks := b, digest := Config.sha256 img }
    .ok (campMove k .loaded (setCamp k v s)) b []

/-- The members named by a target command: the list, or the bound indices of a KIND. -/
def targets (c : Ctx) (op kind n : Nat) (s : State) : List Nat :=
  if op < 2 then xinWords c n
  else (s.led.entries.filter (fun e => e.2.state != .free && e.2.kind.toNat == kind)).map (·.1)

def setMember (k i : Nat) (on : Bool) (s : State) : State :=
  let r := dl s i
  setDl i { r with cmemb := if on then setBit r.cmemb k else clrBit r.cmemb k } s

def campaignTargetCmd (c : Ctx) (k op kind n : Nat) (s : State) : CmdRes :=
  let l := targets c op kind n s
  if 16 ≤ k then refuse .badParam s
  else if (camp s k).st ≠ .loaded then refuse .refusedState s
  else if op < 2 ∧ anyFree s l then refuse .notFound s
  else if 4 ≤ op ∨ (op < 2 ∧ !allIdx l) ∨ (2 ≤ op ∧ 2 < kind) then refuse .badParam s
  else
    let t := l.foldl (fun t i => setMember k i (decide (op % 2 = 0)) t) s
    .ok t (members t k).length []

def campaignStartCmd (k deadline : Nat) (s : State) : CmdRes :=
  if 16 ≤ k then refuse .badParam s
  else if (camp s k).st ≠ .loaded ∨ members s k = [] then refuse .refusedState s
  else if deadline ≤ nowS s then refuse .badParam s
  else .ok (campBroadcast k (campMove k .announce (setCamp k { camp s k with deadline := deadline } s))) 0 []

def campaignActivateCmd (k : Nat) (s : State) : CmdRes :=
  if 16 ≤ k then refuse .badParam s
  else if (camp s k).st ≠ .repair ∨ safetyFault s then refuse .refusedState s
  else .ok (campSettle k (campBroadcast k (campMove k .activate s))) 0 []

/-- A campaign's members leave it: bit c cleared in every record, its repair entries removed (R267). -/
def clearMembers (k : Nat) (s : State) : State :=
  let reps := s.tai.repairs.filter (fun e => e.2.camp == k)
  let s1 := reps.foldl (fun t e => removeRepair e.2.idx e.1 t) s
  (members s1 k).foldl (fun t i => setMember k i false t) s1

/-- Queued and unsent TDFs of a campaign are recalled and counted (R267). -/
def recallCamp (k : Nat) (s : State) : State :=
  let r1_ := recallItems (fun f => f.camp == some k) (fun it => whatCamp s it.what == some k) s
  let s1 := r1_.2
  let m := (s1.lea.ports.map (fun q => (q.2.bcast.filter (fun b => b.1 == k)).length)).sum
  bump 0x80058 (r1_.1 + m) { s1 with
    lea := { s1.lea with ports := s1.lea.ports.map (fun q => (q.1, { q.2 with bcast := q.2.bcast.filter (fun b => b.1 != k) })) } }

def campaignAbortCmd (k : Nat) (s : State) : CmdRes :=
  if 16 ≤ k then refuse .badParam s
  else
    let st := (camp s k).st
    if st = .idle ∨ st = .closed ∨ st = .aborted then refuse .refusedState s
    else .ok (campBroadcast k (campMove k .aborted (clearMembers k (recallCamp k s)))) 0 []

/-- The image area is freed; counters stay until the next load (R267). -/
def freeImage (k : Nat) (s : State) : State :=
  campMove k .idle (setCamp k { camp s k with image := [], paths := [] } s)

def campaignReleaseCmd (k : Nat) (s : State) : CmdRes :=
  if 16 ≤ k then refuse .badParam s
  else if (camp s k).st ≠ .closed then refuse .refusedState s
  else .ok (freeImage k s) 0 []

/-- The place of a path in a campaign's pass. -/
def campPath (k : Camp) (p : Nat) : CampPath := tget {} k.paths p

/-- A pass complete on every campaign path: the next pass begins, or the campaign enters REPAIR (R267). -/
def passCheck (k : Nat) (s : State) : State :=
  let v := camp s k
  if v.st ≠ .multicast ∨ !(paths s).all (fun p => (campPath v p).done) then s
  else if v.pass < paramN s .tailrace 4 0 ∧ paths s ≠ [] then setCamp k { v with pass := v.pass + 1, paths := [] } s
  else campSettle k (campBroadcast k (campMove k .repair s))

/-- What follows at once where a campaign stands: a pass with nothing left to send, members all done (R267). -/
def resumeCamp (k : Nat) (s : State) : State := campSettle k (passCheck k s)

def campaignReloadCmd (c : Ctx) (k size : Nat) (s : State) : CmdRes :=
  if 16 ≤ k then refuse .badParam s
  else
    let v := camp s k
    let img := c.xin.take size
    if v.st ≠ .suspended ∨ (v.prior = .activate ∧ safetyFault s) then refuse .refusedState s
    else if Config.sha256 img ≠ v.digest ∨ size ≠ v.size then refuse .verifyFailed s
    else .ok (resumeCamp k (campMove k v.prior (setCamp k { v with image := img, paths := [] } s))) 0 []

/-! ### Passes and timers (R267, R268, R270) -/

def announceEnd (k : Nat) (s : State) : State :=
  let v := camp s k
  if v.st = .announce ∧ passed s v.since (paramN s .tailrace 5 0 * tickS) then
    passCheck k (campMove k .multicast (setCamp k { v with pass := 1, paths := [] } s))
  else s

/-- The campaign a path serves next: those in MULTICAST in turn (R268). -/
def nextCamp (p : Nat) (s : State) : Option Nat :=
  let from_ := tget 0 s.tai.turn p
  ((List.range 16).map (fun k => (from_ + k) % 16)).find?
    (fun k => (camp s k).st == .multicast && !(campPath (camp s k) p).done)

/-- FRAG_GAP of a path: none on PLC, eight gaps for the gateway path's eight fragments (R268). -/
def pathGap (p : Nat) (s : State) : Nat :=
  let g := paramN s .tailrace 3 0 * tickMs
  if p < 8 then g else if p < 12 then 0 else 8 * g

/-- A path may take a fragment now (R268, R277). -/
def pathReady (p : Nat) (s : State) : Bool :=
  let t := tget 0 s.tai.pathAt p
  isPath s p && !taiHeld s && (decide (t = 0) || passed s (t - 1) (pathGap p s)) &&
  (if p < 8 then !dark s .van else if p < 12 then !dark s .lea && decide ((lport s (p - 8)).bcast.length < 64) else true)

/-- Build a campaign's fragments from a place on, each with its broadcast DSEQ; nothing when the counter gives none (R253). -/
def buildFrags (c p block : Nat) : List Nat → State → Option (List (List Byte)) × State
  | [], s => (some [], s)
  | f :: t, s =>
    let r2_ := takeBcast s
    let d := r2_.1
    let s1 := r2_.2
    match d with
    | none => (none, s1)
    | some d =>
      let r3_ := bcastTtl p s1
      let ttl := r3_.1
      let s2 := r3_.2
      let b := tdfBroadcast (devKey s2 2) .fwFrag false ttl d (fragContent (camp s2 c) c block f)
      let r4_ := buildFrags c p block t s2
      let rest := r4_.1
      let s3 := r4_.2
      (rest.map (fun l => b :: l), s3)

/-- A path's place moves past what it sent. -/
def advancePath (k : Camp) (p n : Nat) : CampPath :=
  let q := campPath k p
  if q.frag + n < 8 then { q with frag := q.frag + n }
  else { block := q.block + 1, frag := 0, done := decide (k.blocks ≤ q.block + 1) }

/-- A campaign path sends its next fragment, the gateway path a block's eight (R268). -/
def fragSend (p : Nat) (s : State) : State :=
  if !pathReady p s then s
  else match nextCamp p s with
  | none => s
  | some c =>
    let q := campPath (camp s c) p
    let fs := if p < 12 then [q.frag] else (List.range 8).drop q.frag
    let r5_ := buildFrags c p q.block fs s
    let l := r5_.1
    let s1 := r5_.2
    match l with
    | none => s1
    | some l =>
      let s2 := bump 0x80030 l.length (pathPut c p l s1)
      let v := camp s2 c
      let s3 := setCamp c { v with paths := tset {} v.paths p (advancePath v p fs.length) } s2
      passCheck c { s3 with tai := { s3.tai with pathAt := tset 0 s3.tai.pathAt p (s.elapsed + 1), turn := tset 0 s3.tai.turn p (c + 1) } }

def deadlineEnd (k : Nat) (s : State) : State :=
  let v := camp s k
  if (v.st = .announce ∨ v.st = .multicast ∨ v.st = .repair ∨ v.st = .activate) ∧ v.deadline ≤ nowS s then
    let n := (members s k).length
    campClose k (clearMembers k (setCamp k { v with failed := v.failed + n } s))
  else s

def abortHoldEnd (k : Nat) (s : State) : State :=
  if (camp s k).st = .aborted ∧ passed s (camp s k).since (paramN s .tailrace 6 0 * tickS) then freeImage k s else s

def repairAgain (n : Nat) (s : State) : State :=
  let r := repair s n
  match r.parked with
  | some t =>
    if r.ranges ≠ [] ∧ passed s t (paramN s .tailrace 7 0 * tickS) then
      setRepair n { r with range := 0, block := 0, frag := 0, parked := none } s
    else s
  | none => s

/-! ### Setpoints (R271–R276) -/

def spMode (b : List Byte) : Nat := byteAt b 4
def spValue (b : List Byte) : Int := sgn32 (ofLe (slice b 8 4))

/-- Reserved and zero fields of a setpoint body (R271). DEDUCED: log entry 70. -/
def spForm (b : List Byte) : Bool :=
  decide (b.length = 24 ∧ byteAt b 5 < 2 ∧ (byteAt b 5 = 1 ∨ ofLe (slice b 6 2) = 0) ∧ ofLe (slice b 20 4) = 0)

/-- Seconds from now to a 32-bit seconds count. -/
def secsTo (s : State) (v : Nat) : Int := sgn32 (v + 2 ^ 32 - nowS s % 2 ^ 32)

/-- One channel's checks with its own limit table (R272), beyond the index's being bound. DEDUCED: log entry 70. -/
def spChecks (lim : Limits) (i : Nat) (b : List Byte) (s : State) : Bool :=
  let e := entry s i
  let v := (spValue b).natAbs
  let u := secsTo s (ofLe (slice b 16 4))
  let f := secsTo s (ofLe (slice b 12 4))
  decide (e.kind.toNat = 1 ∨ e.kind.toNat = 2) && decide (spMode b ≤ 4) &&
  (match spMode b with
   | 0 | 1 => decide (v ≤ (if e.kind.toNat = 1 then lim.pInv else lim.pBat) * 1000)
   | 2 => decide (v ≤ lim.q * 1000)
   | 3 => decide (v ≤ 10000)
   | _ => decide (v = 0)) &&
  decide (0 < u ∧ f < u ∧ u ≤ (paramN s .tailrace 11 0 : Int)) &&
  (match tget none s.tai.sps (dl s i).spx with
   | some o => decide ((dl s i).spx = 0xFFFF) || decide (o.seq < spSeq b)
   | none => true)

/-- Setpoint commands are accepted (TAI_STATUS.SP_EN). -/
def spEnabled (s : State) : Bool := !safetyFault s && !s.saf.latched.getLsbD 2

/-- The setpoint entry of an index that is replaced, or the lowest free one. -/
def spPlace (i : Nat) (s : State) : Option Nat :=
  if (dl s i).spx ≠ 0xFFFF then some (dl s i).spx
  else (List.range (s.tai.sps.length + 1)).find? (fun n => decide (n < 0xFFFF) && (tget none s.tai.sps n).isNone)

/-- Release (R275): the table entry, SPX, the flag and the route. -/
def spRelease (i n : Nat) (b f : List Byte) (s : State) : State :=
  let s1 := if (dl s i).spx = n then endSetpoint n 5 s else s
  let e : SpEntry := { idx := i, seq := spSeq b, untilS := ofLe (slice b 16 4), body := b, sentAt := s.elapsed, frame := some f }
  let s2 := setDl i { dl s1 i with spx := n } { s1 with tai := { s1.tai with sps := tset none s1.tai.sps n (some e) } }
  bump 0x80044 1 (setpointNow i (syncPend i s2))

def setpointCmd (i : Nat) (b : List Byte) (cmp : SpCompare) (s : State) : CmdRes :=
  if devKey s 3 = [] ∨ !spEnabled s then refuse .refusedState s
  else if (entry s i).state = .free then refuse .notFound s
  else
    let a := spForm b && spChecks s.tai.limA i b s
    let a' := spForm b && spChecks s.tai.limB i b s
    if a = a' ∧ !a then refuse .badParam s
    else if (dl s i).dseqEnd then refuse .refusedState s
    else match spPlace i s with
    | none => refuse .noSpace s
    | some n =>
      match spChannels i b (if a = a' then cmp else .lasting) s with
      | (none, t) => .fail .refusedState t
      | (some f, t) => if safetyFault t then .fail .refusedState t else .ok (spRelease i n b f t) 0 []

def setpointWithdrawCmd (i : Nat) (s : State) : CmdRes :=
  if (dl s i).spx = 0xFFFF then refuse .notFound s else .ok (endSetpoint (dl s i).spx 3 s) 0 []

/-- SP_RETRY: the setpoint goes again where its route may take it, through both channels (R275). -/
def spRetry (i : Nat) (cmp : SpCompare) (s : State) : State :=
  let n := (dl s i).spx
  match tget none s.tai.sps n with
  | none => s
  | some e =>
    if e.idx ≠ i ∨ !passed s e.sentAt (paramN s .tailrace 10 0 * tickS) then s
    else
      let again := { s with tai := { s.tai with sps := tset none s.tai.sps n (some { e with sentAt := s.elapsed }) } }
      let t := { again with tai := { again.tai with sps := tset none again.tai.sps n (some { e with sentAt := s.elapsed, frame := none }) } }
      match route s i with
      | .plc => again
      | .none => (sendNext true i again).2
      | _ =>
        if taiHeld s ∨ noUnicast s i ∨ (radioRoute (route s i) ∧ dark s .van) then again
        else
          match spChannels i e.body cmp t with
          | (none, u) => u
          | (some f, u) => setpointNow i { u with tai := { u.tai with
              sps := tmod none u.tai.sps n (fun x => x.map (fun y => { y with frame := some f })) } }

def spExpire (i : Nat) (s : State) : State :=
  let n := (dl s i).spx
  match tget none s.tai.sps n with
  | some e => if e.idx = i ∧ secsTo s e.untilS ≤ 0 then endSetpoint n 2 s else s
  | none => s

/-! ### Downlink records (R254) -/

def dlBytes (r : DlRec) : List Byte :=
  leBytes 4 r.dseq ++ leBytes 2 (r.gwId % 4096 + r.gwEth % 2 * 4096 + b2n r.gwValid * 32768) ++ leBytes 1 r.tslot
    ++ leBytes 1 r.tseg ++ leBytes 2 r.cmemb.toNat ++ leBytes 2 r.spx ++ leBytes 1 r.ufail
    ++ leBytes 1 (b2n r.tunconf + 2 * b2n r.floodOnly + 4 * b2n r.dseqEnd) ++ leBytes 2 r.rpx

def recordReadCmd (first count : Nat) (s : State) : CmdRes :=
  if 2 ^ 20 < first + count then refuse .badParam s
  else .ok s 0 (((List.range count).map (fun k => dlBytes (dl s (first + k)))).flatten)

/-! ### CONFIRM frames (R260–R269, R276) -/

def ranges (b : List Byte) : List (Nat × Nat) :=
  (List.range (byteAt b 3)).map (fun k => (ofLe (slice b (8 + 4 * k) 2), ofLe (slice b (10 + 4 * k) 2)))

/-- The repair entry of an index for a campaign. -/
def repairOf (i c : Nat) (s : State) : Option Nat := (chainOf s i).find? (fun n => (repair s n).camp == c)

def dropRepair (i c : Nat) (s : State) : State :=
  match repairOf i c s with
  | some n => removeRepair i n s
  | none => s

/-- A MISSING report creates or replaces the repair entry with its first four ranges (R269, R270). -/
def putRepair (i c : Nat) (rs : List (Nat × Nat)) (s : State) : State :=
  let rs4 := (rs.take 4).filter (fun r => decide (0 < r.2))
  let v : Repair := { idx := i, camp := c, ranges := rs4, parked := if rs4 = [] then some s.elapsed else none }
  match repairOf i c s with
  | some n => setRepair n { v with next := (repair s n).next } s
  | none =>
    match (List.range (s.tai.repairs.length + 1)).find? (fun n => decide (n < 0xFFFF) && decide (repair s n = {})) with
    | none => raise 61 i c (bump 0x80054 1 s)
    | some n => syncPend i (setDl i { dl s i with rpx := n } (setRepair n { v with next := (dl s i).rpx } s))

def ignored (s : State) : State := bump 0x80040 1 s
def acted (s : State) : State := bump 0x8003C 1 s

/-- A member has failed: its bit cleared, the member counted (R269). DEDUCED: log entry 69. -/
def memberFailed (i c : Nat) (s : State) : State :=
  let t := setMember c i false s
  campSettle c (setCamp c { camp t c with failed := (camp t c).failed + 1 } t)

def confirmTariff (i res ref : Nat) (rs : List (Nat × Nat)) (s : State) : State :=
  let r := dl s i
  if r.tslot = 0xFF ∨ (tariff s r.tslot).ver ≠ ref then ignored s
  else if res = 0 then
    modCold i (fun k => { k with tariffVer := ref }) (syncPend i (setDl i { r with tunconf := false } (acted s)))
  else
    match rs with
    | [] => acted s
    | (f, _) :: _ =>
      let n := nseg (tariff s r.tslot)
      if f < n then setDl i { r with tseg := f } (acted s)
      else
        let r9_ := drawFree 8 s
        let v := r9_.1
        let s1 := r9_.2
        setDl i { r with tseg := if n = 0 then 0 else v % n } (acted s1)

/-- DEDUCED: log entry 69. -/
def confirmFw (i kind res c ref : Nat) (rs : List (Nat × Nat)) (s : State) : State :=
  let k := camp s c
  if 16 ≤ c ∨ k.imgVer ≠ ref ∨ !(dl s i).cmemb.getLsbD c then ignored s
  else match kind, res with
  | 2, 0 =>
    if k.st = .multicast ∨ k.st = .repair ∨ k.st = .activate then
      let t := dropRepair i c (acted s)
      campSettle c (setCamp c { camp t c with ready := if k.ready.contains i then k.ready else i :: k.ready } t)
    else ignored s
  | 2, 1 => if k.st = .repair ∨ k.st = .activate then putRepair i c rs (acted s) else ignored s
  | 2, _ => if k.st = .idle then ignored s else memberFailed i c (dropRepair i c (acted s))
  | _, 0 =>
    if k.st = .activate then
      let t := setMember c i false (acted s)
      campSettle c (setCamp c { camp t c with active := k.active + 1 } t)
    else ignored s
  | _, _ => if k.st = .activate then memberFailed i c (acted s) else ignored s

def confirmSetpoint (i res ref : Nat) (s : State) : State :=
  let n := (dl s i).spx
  match tget none s.tai.sps n with
  | none => ignored s
  | some e =>
    if e.idx ≠ i ∨ e.seq ≠ ref then ignored s
    else if res = 0 then modCold i (fun k => { k with setpointSeq := ref }) (endSetpoint n 0 (acted s))
    else endSetpoint n 1 (acted s)

/-- Act on one CONFIRM plaintext (R260). -/
def confirm1 (i : Nat) (b : List Byte) (s : State) : State :=
  let kind := byteAt b 0
  let res := byteAt b 1
  let ref := ofLe (slice b 4 4)
  if b.length ≠ 8 + 4 * byteAt b 3 ∨ kind = 0 ∨ 4 < kind ∨ (if kind = 2 then 2 else 1) < res then ignored s
  else if kind = 1 then confirmTariff i res ref (ranges b) s
  else if kind = 3 then confirmSetpoint i res ref s
  else confirmFw i kind res (byteAt b 2) ref (ranges b) s

def confirmNext (s : State) : State :=
  match s.tai.confirms with
  | [] => s
  | (i, b) :: rest => confirm1 i b { s with tai := { s.tai with confirms := rest } }

/-! ### MAC outcomes (R256, R257) -/

/-- DEDUCED: log entry 71. -/
def macOutcome (s : State) : State :=
  match s.tai.outcomes with
  | [] => s
  | (num, ok, fp) :: rest =>
    let s0 := { s with tai := { s.tai with outcomes := rest } }
    match s.tai.items.find? (fun it => it.num == num) with
    | none => s0
    | some it =>
      let s1 := { s0 with tai := { s0.tai with items := s0.tai.items.filter (fun x => x.num != num) } }
      match whatIdx it.what with
      | none => s1
      | some i =>
        let r := dl s1 i
        let burst := s1.tai.bursts.find? (fun b => b.idx == i && b.item == num)
        let ended := fun (t : State) => { t with tai := { t.tai with bursts := t.tai.bursts.filter (fun b => !(b.idx == i && b.item == num)) } }
        if ok then
          let s2 := itemDelivered it.what (if it.port < 8 then bump 0x80020 1 (setDl i { r with ufail := 0 } s1) else s1)
          match burst with
          | some b => if fp ∨ paramN s2 .tailrace 0 0 ≤ b.sent then ended s2 else burstSend i b.sent b.sp s2
          | none => s2
        else
          let n := min 255 (r.ufail + 1)
          let r' := { r with ufail := n, floodOnly := r.floodOnly || decide (paramN s1 .tailrace 2 0 ≤ n) }
          ended (bump 0x80034 1 (if it.port < 8 then setDl i r' s1 else s1))

/-- The limit table is written to both channels' copies; AUTO_ACT may let a campaign on (R279, R267). -/
def tailConfigAfter (_ : Tab Int) (s : State) : State :=
  let l : Limits := { pInv := paramN s .tailrace 12 0, pBat := paramN s .tailrace 12 1, q := paramN s .tailrace 13 0 }
  campSettleAll ((List.range 16).foldl (fun t c => passCheck c t) { s with tai := { s.tai with limA := l, limB := l } })

/-! ### Meanings -/

/-- XLEN of a transfer of SIZE bytes (R378). -/
def sizeForm (c : Ctx) (size : Nat) : Bool := decide (c.xlen = (size + 3) / 4 * 4)

def execTailraceConfig (c : Ctx) (op : Byte) (ents : List CfgEntry) (s : State) : Res :=
  .next (command (.tailraceConfig c op ents) true (configure .tailrace op ents (fun _ _ => none) tailConfigAfter) s)
def execTariffLoad (c : Ctx) (slot : Byte) (ver size : U32) (s : State) : Res :=
  .next (command (.tariffLoad c slot ver size) (sizeForm c size.toNat) (tariffLoadCmd c slot.toNat ver.toNat size.toNat) s)
def execTariffAssign (c : Ctx) (slot : Byte) (n : U16) (s : State) : Res :=
  .next (command (.tariffAssign c slot n) (decide (c.xlen = 4 * n.toNat)) (tariffAssignCmd c slot.toNat n.toNat) s)
def execCampaignLoad (c : Ctx) (k : Byte) (imgVer size : U32) (s : State) : Res :=
  .next (command (.campaignLoad c k imgVer size) (sizeForm c size.toNat) (campaignLoadCmd c k.toNat imgVer.toNat size.toNat) s)
def execCampaignTarget (c : Ctx) (k op kind : Byte) (n : U16) (s : State) : Res :=
  .next (command (.campaignTarget c k op kind n) (decide (c.xlen = if op.toNat < 2 then 4 * n.toNat else 0)) (campaignTargetCmd c k.toNat op.toNat kind.toNat n.toNat) s)
def execCampaignStart (c : Ctx) (k : Byte) (deadline : U48) (s : State) : Res :=
  .next (command (.campaignStart c k deadline) true (campaignStartCmd k.toNat deadline.toNat) s)
def execCampaignActivate (c : Ctx) (k : Byte) (s : State) : Res := .next (command (.campaignActivate c k) true (campaignActivateCmd k.toNat) s)
def execCampaignAbort (c : Ctx) (k : Byte) (s : State) : Res := .next (command (.campaignAbort c k) true (campaignAbortCmd k.toNat) s)
def execCampaignRelease (c : Ctx) (k : Byte) (s : State) : Res := .next (command (.campaignRelease c k) true (campaignReleaseCmd k.toNat) s)
def execCampaignReload (c : Ctx) (k : Byte) (size : U32) (s : State) : Res :=
  .next (command (.campaignReload c k size) (sizeForm c size.toNat) (campaignReloadCmd c k.toNat size.toNat) s)
def execSetpoint (c : Ctx) (idx : Idx) (body : List Byte) (cmp : SpCompare) (s : State) : Res :=
  .next (command (.setpoint c idx body cmp) true (setpointCmd idx.toNat body cmp) s)
def execSetpointWithdraw (c : Ctx) (idx : Idx) (s : State) : Res :=
  .next (command (.setpointWithdraw c idx) true (setpointWithdrawCmd idx.toNat) s)
def execRecordRead (c : Ctx) (first count : U32) (s : State) : Res :=
  .next (command (.recordRead c first count) (decide (c.xlen = 16 * count.toNat)) (recordReadCmd first.toNat count.toNat) s)
def execConfirmProcess (s : State) : Res := .next (if halted s .tai 9 then s else confirmNext s)
def execPendFlagWrite (idx : Idx) (s : State) : Res := .next (if halted s .tai 9 then s else syncPend idx.toNat s)
def execTdfMacOutcome (s : State) : Res := .next (if halted s .tai 9 then s else macOutcome s)
def execTariffSweepDone (s : State) : Res := .next (if halted s .tai 9 then s else sweepDone s)
def execSetpointRetry (idx : Idx) (cmp : SpCompare) (s : State) : Res := .next (if halted s .tai 9 then s else spRetry idx.toNat cmp s)
def execSetpointExpire (idx : Idx) (s : State) : Res := .next (if halted s .tai 9 then s else spExpire idx.toNat s)
def execAnnounceElapsed (k : Fin 16) (s : State) : Res := .next (if halted s .tai 9 then s else announceEnd k.val s)
def execFragGapSend (path : Fin 13) (s : State) : Res := .next (if halted s .tai 9 then s else fragSend path.val s)
def execCampaignDeadline (k : Fin 16) (s : State) : Res := .next (if halted s .tai 9 then s else deadlineEnd k.val s)
def execAbortHoldElapsed (k : Fin 16) (s : State) : Res := .next (if halted s .tai 9 then s else abortHoldEnd k.val s)
def execRepairResend (n : U16) (s : State) : Res := .next (if halted s .tai 9 then s else repairAgain n.toNat s)

end Sys2Proof.Machine
end

