-- ==== Sys2Proof/Machine/Power.lean ====
section
/-! DEFINITION. Power states, wakes, resets, the boot chain, the loader's copies and the restore of a checkpoint (R435, R436, R441–R444,
R459, R490–R504, R517–R523). -/

namespace Sys2Proof.Machine

/-! ### Resets (R501, R502) -/

/-- PORn is low (R501): everything but OTP and the non-volatile arrays is cleared; the RTC, the bank and LG_STICKY, and WAKE_CONFIG's
values (R495), only when VDD_AON was lost. DEDUCED: log entry 92. -/
def powerClear (aonLost : Bool) (s : State) : State :=
  let t := clearCore (if s.pwr.wakeFault && !s.saf.safe then emit (.pin "SAFE_nFAULT" 1) (resetPins s) else resetPins s)
  let p : PwrState := { bkp := s.pwr.bkp, quietAt := s.elapsed }
  { t with
    pwr := if aonLost then { p with rtcAt := s.elapsed }
      else { p with mgmtAddr := s.pwr.mgmtAddr, wakeSrc := s.pwr.wakeSrc, rtcBase := s.pwr.rtcBase, rtcAt := s.pwr.rtcAt, rtcValid := s.pwr.rtcValid }
    log := if aonLost then {} else t.log
    brk := { lastGen := s.brk.lastGen, startAt := s.elapsed }
    svc := { t.svc with boot := .none, hostMoving := false }
    fan := { tbStart := s.elapsed } }

/-- PORn is released (R429, R503): UNIT_ID is sampled, PWR_EN rises, QUIET begins, the boot ROM waits for the PLL. A release finds PORn low
before it. DEDUCED: log entry 92. -/
def powerUp (unitId : Bool) (s : State) : State :=
  let t := if s.pwr.on then powerClear false s else s
  { t with
    pwr := { t.pwr with on := true, quiet := true, quietAt := s.elapsed, pwrEn := 0xF, resetCause := 1
                        waking := some { since := s.elapsed, at_ := s.elapsed } }
    dev := { t.dev with quiet := true }
    brk := { t.brk with unitId := unitId, startAt := s.elapsed }
    svc := { t.svc with boot := .rom } }

/-- R501's FIRMWARE reset: the control cores and the main firmware (its lock, session and health reply), and the
queue pairs as R339 leaves them; the function's PCIe configuration and power state, the fabric, the Ledger, the
recorder, the claim and every block's configuration stay. -/
def firmwareReset (s : State) : State :=
  let s1 := endDebug 2 (releaseLock s)
  { s1 with
    hop := { s1.hop with pairs := [], lastServed := [] }
    rc := (List.range 16).foldl (fun t p => tset 0 t (0x10028 + 0x40 * p) 0) s1.rc
    dev := { s1.dev with ready := false }
    svc := { s1.svc with boot := if s1.svc.boot = .firmware then .restart else s1.svc.boot, healthAt := s.elapsed }
    sec := { s1.sec with frozen := s1.sec.frozen &&& 0xFF0#12 }
    saf := { s1.saf with coresFrozen := 0 }
    pwr := { s1.pwr with resetCause := 8 } }

/-- A HOST reset in any of its forms (R339). DEDUCED: log entry 96. -/
def hostReset (s : State) : State :=
  let s1 := hostIfReset s
  { s1 with pwr := { s1.pwr with resetCause := 16 } }

/-- The reply a command has now is written before what follows it (R384). -/
def writeNow (w : Nat × Nat) (s : State) : State :=
  match (pair s w.1).inflight.findIdx? (fun e => decide (e.serial = w.2) && e.reply.isSome) with
  | some k => judgedReply w.1 k false s
  | none => s

/-- RESET (R384, R501). -/
def resetCmd (kind : Nat) (s : State) : CmdRes := if 3 ≤ kind then refuse .badParam s else .ok s 0 []

/-- The reset a RESET command's reply precedes (R502). -/
def resetNow (kind : Nat) (s : State) : State :=
  match kind with
  | 0 => hostReset s
  | 1 => firmwareReset s
  | _ => systemReset 4 (graFlush s)

/-- Whether a command of good form completes OK now (R365). -/
def completesOk (i : Instr) (body : State → CmdRes) (s : State) : Bool :=
  match hostCmd i with
  | none => false
  | some k =>
    startable k s && !(pcieHeld s && needsDma k) && (xfault k.c s).isNone && (gate k.op s).isNone &&
    (match body s with | .ok _ _ _ => true | _ => false)

/-- A command whose reply is written before its effect begins (R384). -/
def replyFirst (i : Instr) (body : State → CmdRes) (effect : State → State) (s : State) : State :=
  let t := command i true body s
  if completesOk i body s then effect (((hostCmd i).map (fun k => writeNow (jobOf k.c s) t)).getD t) else t

/-! ### Power states (R491, R492) -/

/-- A debug session holds a core halted (R468). -/
def coreHalted (s : State) : Bool := s.sec.session.any (fun d => d.halted != 0)

def pstateOf : Nat → PState
  | 0 => .run | 1 => .trim | 2 => .doze | 3 => .hush | _ => .off

/-- DEDUCED: log entry 94. -/
def powerStateCmd (target : Nat) (s : State) : CmdRes :=
  if 4 < target then refuse .badParam s
  else if (s.pwr.st ≠ .run ∧ s.pwr.st ≠ .trim) ∨ s.pwr.entry.isSome ∨ (2 ≤ target ∧ coreHalted s) then refuse .refusedState s
  else .ok s 0 []

/-- TRIM is entered once nothing is on air: the RAD and PLC groups are released (R491). DEDUCED: log entry 94. -/
def enterTrim (s : State) : State :=
  let s1 := setGroups (bits s.brk.groups 2 2 * 4) s
  enterState .trim { s1 with pwr := { s1.pwr with entry := none } }

/-- TRIM to RUN: ports restart with their kept configuration, Leat begins at step 0 (R491). -/
def leaveTrim (s : State) : State :=
  let s1 := enterState .run s
  leatQuietEnd ((List.range 8).foldl (fun t p => restartPort p t) s1)

/-- What a POWER_STATE reply precedes. -/
def powerStateNow (target : Nat) (s : State) : State :=
  let t := pstateOf target
  if t = s.pwr.st then s
  else match t with
  | .run => leaveTrim s
  | .trim =>
    let s1 := { s with pwr := { s.pwr with entry := some (.trim, 2, s.elapsed, false) } }
    if txIdle s1 then enterTrim s1 else s1
  | _ => { s with pwr := { s.pwr with entry := some (t, 2, s.elapsed, false) } }

/-- Every frame drawn from the staging ring has reached its fate (R492 step 3). -/
def lanesEmpty (s : State) : Bool :=
  s.ing.lanes.all (fun e => decide (e.2 = {}))

/-- Step 5 of R492: a checkpoint starts where the role is ACTIVE and CHK is READY; its failure does not stop the entry. -/
def entryCkpt (s : State) : State :=
  if s.brk.role ≠ .active ∨ s.gra.chk.st ≠ .ready ∨ s.brk.run.isSome then s
  else if chkFull s then raise 91 ((s.brk.lastGen + 1) % 2 ^ 32) 0 (bump 0xB001C 1 (exhaust true s))
  else startCkpt none s

/-- The awaited stage of the entry sequence ends, and the next begins (R492). -/
def entryStep (s : State) : State :=
  match s.pwr.entry with
  | none => s
  | some (t, k, t0, sb) =>
    let goTo := fun (n : Nat) (u : State) => { u with pwr := { u.pwr with entry := some (t, n, t0, sb) } }
    if k ≤ 2 then
      if !txIdle s then s
      else if t = .trim then enterTrim s
      else goTo 3 { s with ing := { s.ing with hrOpen := false } }
    else if t = .trim then enterTrim s
    else if k = 3 then (if lanesEmpty s then goTo 4 s else s)
    else if k = 4 then goTo 5 (entryCkpt (closeBatch s))
    else if k = 5 then
      if s.brk.run.isSome then s
      else
        let s1 := dropClaim 0 1 (graFlush s)
        goTo 6 { s1 with brk := { s1.brk with role := if s1.brk.role = .fault then .fault else .idle } }
    else enterState t { s with pwr := { s.pwr with entryMs := (s.elapsed - t0) / tickMs } }

/-! ### Wakes (R436, R444, R495–R498) -/

/-- An attempt fails; the fourth failure is a wake failure (R498). `pll`: the PLL did not lock, else PG_CORE did not rise. -/
def attemptFailed (pll : Bool) (s : State) : State :=
  match s.pwr.waking with
  | none => s
  | some w =>
    if w.pause ∨ !passed s w.at_ (if pll then 500 * tickUs else 3 * tickMs) then s
    else
      let n := w.tries + 1
      let s1 := raise 104 n (b2n pll) { s with pwr := { s.pwr with pwrEn := pwrEnOf s.pwr.st } }
      if n < 4 then { s1 with pwr := { s1.pwr with waking := some { w with tries := n, at_ := s.elapsed, pause := true } } }
      else
        let s2 := if safePin s then emit (.pin "SAFE_nFAULT" 0) s1 else s1
        let s3 := bump 0xD0018 1 { s2 with pwr := { s2.pwr with waking := none, wakeFail := true, wakeFault := true } }
        raise 105 (pwrWake s3) (b2n pll) s3

/-- 10 ms after a failed attempt the PMC tries again (R498). -/
def retryWake (s : State) : State :=
  match s.pwr.waking with
  | none => s
  | some w =>
    if !w.pause ∨ !passed s w.at_ (10 * tickMs) then s
    else { s with pwr := { s.pwr with
      waking := some { w with at_ := s.elapsed, pause := false }, pwrEn := 0xF
      wakeAttempts := if s.pwr.st = .run then s.pwr.wakeAttempts else w.tries + 1 } }

/-- The sequence has succeeded (R498): WAKE_FAIL is cleared, SAFE_nFAULT released unless the safe state holds it; the TB domain runs, and
a PACE window begins with it (R24). DESIGN CHOICE: log entry 129. -/
def seqGood (s : State) : State :=
  let s1 := if s.pwr.wakeFault && !s.saf.pinLow then emit (.pin "SAFE_nFAULT" 1) s else s
  { s1 with
    pwr := { s1.pwr with waking := none, wakeFail := false, wakeFault := false, pwrEn := 0xF, pgCore := true }
    dev := if s.pwr.waking.isSome then { s1.dev with verdRun := [], doneRun := [], paceAt := s.elapsed } else s1.dev }

/-- A watcher that fired with only one latch set found a line fault (R433, R436); its slot is not stated. -/
def watcherFault (s : State) : State :=
  if s.brk.fired && s.brk.oneLine then
    let r1_ := drawFree 32 s
    let n := r1_.1
    let t := r1_.2
    lineFault 3 n { t with brk := { t.brk with oneLine := false } }
  else s

/-- The token buckets are timed by TB, which stood in DOZE (R396). -/
def bucketsResume (s : State) : State :=
  { s with log := { s.log with buckets := s.log.buckets.map (fun e => (e.1, { e.2 with since := e.2.since + (s.elapsed - s.pwr.dozeAt) })) } }

/-- Resume from DOZE (R497). DEDUCED: log entry 87. -/
def resume (w : Waking) (s : State) : State :=
  let st := s.pwr.dozeFrom
  let b := s.brk
  let s1 := { s with
    pwr := { s.pwr with st := st, startFrom := .doze, wakeOk := true, wakeUs := (s.elapsed - w.since) / tickUs }
    brk := { b with role := if b.role = .fault then .fault else .listen, level := 0, next := none, hold := false, groups := 0, roundAt := 0, seen := 0
                    current := false, keep := !b.sawRound, armed := false, sawRound := false, startAt := w.since }
    ing := { s.ing with hrOpen := true } }
  let s2a := decReset 2 (resumeSeed (nandStart (bucketsResume s1)))
  let s2 := if dark s2a .flu ∨ !modClk s2a then fluOff s2a else s2a
  let s4 := watcherFault (resumeExport s2)
  raise 103 (pwrWake s4) s4.pwr.wakeUs (raise 102 (pstateCode st) 2 s4)

/-- A wake from HUSH: start-up from step 2 of R503 (R491). -/
def hushBoot (w : Waking) (s : State) : State :=
  let t := clearCore s
  let s1 := { t with
    pwr := { t.pwr with resetCause := 32, wakeOk := true, wakeUs := (s.elapsed - w.since) / tickUs, quietAt := w.since }
    brk := { t.brk with startAt := w.since } }
  raise 103 (pwrWake s1) s1.pwr.wakeUs (raise 102 0 3 s1)

/-- WAKE_COMPLETE (R496); in a start-up the PLL has locked. -/
def wakeDone (s : State) : State :=
  match s.pwr.waking with
  | none => s
  | some w =>
    if w.pause then s
    else
      let s1 := seqGood s
      match s.pwr.st with
      | .doze => resume w s1
      | .hush => hushBoot w s1
      | _ => { s1 with fan := fanStart s1 }

/-- Four AON periods of 30.518 µs. -/
def watchTicks : Nat := 4 * tickS / 32768

/-- CLAIM_WATCHER_FIRE (R436, R495): armed, and for four periods neither latch was set, or (`oneLine`) only one. DEDUCED: log entry 87. -/
def watcherFire (oneLine : Bool) (s : State) : State :=
  let b := s.brk
  if (s.pwr.st ≠ .doze ∧ s.pwr.st ≠ .hush) ∨ !b.armed ∨ bits s.pwr.wakeSrc 2 1 = 0 ∨ (!oneLine ∧ !passed s (b.roundAt - 1) watchTicks) then s
  else wake 4 { s with brk := { b with armed := false, fired := true, oneLine := oneLine } }

/-- WAKE_EVENT: 0 MGMT, 1 WAKEn, 2 the claim watcher that has fired. -/
def wakeEvent (cause : Nat) (s : State) : State :=
  if bits s.pwr.wakeSrc cause 1 = 0 ∨ (cause = 2 ∧ !s.brk.fired) then s else wake (2 ^ cause) s

/-- PROOF_TIMER (R435, R444). DEDUCED: log entry 95. -/
def proofWake (s : State) : State :=
  let h := paramN s .brake 3 0
  if s.pwr.st ≠ .hush ∨ s.brk.role ≠ .standby ∨ h = 0 ∨ s.pwr.waking.isSome ∨ s.pwr.wakeFail ∨ !passed s s.brk.standbyAt (h * 3600 * tickS) then s
  else wake 0 { s with brk := { s.brk with onProof := true } }

def wakeConfigCmd (addr src : Nat) (s : State) : CmdRes :=
  if addr < 8 ∨ 0x78 ≤ addr ∨ 8 ≤ src then refuse .badParam s
  else .ok { s with pwr := { s.pwr with mgmtAddr := addr, wakeSrc := src } } 0 []

/-! ### Backup power (R493) -/

def bkpRise (s : State) : State :=
  let s1 := if dark s .gra then s else graFlush s
  raise 106 1 0 { s1 with pwr := { s1.pwr with bkp := true } }

/-! ### Boot failure (R459, R522) -/

/-- What the checks of an image found, as the boot-failure event codes it (R471). -/
def imgCause : ImgCheck → Nat
  | .good | .signature => 0 | .gcm => 1 | .svn => 2

/-- The boot fails: cause 0x0C, SAFE_nFAULT, claim at zero, the record in the last-gasp bank. -/
def bootFail (type cause : Nat) (s : State) : State :=
  let s1 := { s with svc := { s.svc with boot := .failed }, dev := { s.dev with ready := false } }
  let s2 := bankRec { code := 101, cal := calRtc s1, p0 := type, p1 := cause } (raiseBit 101 s1)
  safeDrop (enterSafe 0xC s2)

/-! ### Configuration sets (R523) -/

/-- A set's configuration becomes the running one. -/
def applyConfig (cfg : Tab Int) (gws : Tab Gw) (he : Option (Nat × Nat × Nat)) (keys : Tab (List Byte)) (s : State) : State :=
  let old := s.cfg
  let t := tailConfigAfter old (secEnable old { s with cfg := cfg, ing := { s.ing with gws := gws, headEnd := he }, sec := { s.sec with devKeys := keys } })
  if intLen t = intLen s then t else fluRegrid (intLen s) t

/-- The valid set with the highest GEN whose FORMAT the firmware reads and which is no other trial's. DEDUCED: log entry 98. -/
def bestSet (format : Nat) (s : State) : Option (Bool × CfgSet) :=
  let ok := fun (c : Option CfgSet) => c.filter (fun x => decide (x.format ≤ format) && (!x.trial || s.svc.upd == .trial))
  match ok s.svc.cfgA, ok s.svc.cfgB with
  | some a, some b => if a.gen < b.gen then some (true, b) else some (false, a)
  | some a, none => some (false, a)
  | none, some b => some (true, b)
  | none, none => none

/-- The Weir enabled by the configuration set at start (R152). -/
def startWeir (en : Bool) (s : State) : State :=
  if en ∧ !s.wei.en then openNow { s with wei := { s.wei with en := true, grid := gridNow s } } else s

/-- Load the configuration set; a trial firmware of another FORMAT converts it into the other slot (R523, R526). DEDUCED: log entry 98. -/
def loadConfig (format : Nat) (s : State) : State :=
  match bestSet format s with
  | none => { s with svc := { s.svc with cfgFormat := format } }
  | some (inB, c) =>
    let s0 := c.cal.foldl (fun t e => setFluCh e.1 { fluCh t e.1 with user := e.2 } t) (applyConfig c.cfg c.gws c.headEnd c.devKeys s)
    let s1 := startWeir c.weirEn { s0 with wei := { s0.wei with frzCfg := weirCfg s0 } }
    if s.svc.upd = .trial ∧ c.format ≠ format then
      let n := { c with format := format, gen := c.gen + 1, trial := true, fwVer := s.svc.running.version }
      recordOnly 391 (c.format * 65536 + format) n.gen { s1 with svc := { s1.svc with
        cfgFormat := format, cfgA := if inB then some n else s1.svc.cfgA, cfgB := if inB then s1.svc.cfgB else some n } }
    else { s1 with svc := { s1.svc with cfgFormat := c.format } }

/-! ### Images (R459–R461, R508, R509) -/

/-- The checks of a stored container (R459–R461): GCM tag, digest, Dravrid signature, the owner's countersignature in the states that need
it, SVN. DEDUCED: log entry 97. -/
def imageCheck (s : State) (type : Nat) (c : List Byte) : ImgCheck :=
  let h := c.take 256
  let pub := slice c 256 97
  let slot := byteAt h 5
  let oik := if s.sec.burnedOut then List.replicate 32 0xFF else s.sec.oik.getD []
  let burned := if type = 1 then s.sec.svnLoader else s.sec.svnMain
  let owner := decide (slot < 4) && tget [] s.sec.owners slot == Config.sha384 pub && !s.sec.revoked.getLsbD slot &&
    Config.ecdsaP384 pub (slice h 0 0xC0) (slice c 353 96)
  if !headerOk h ∨ hdrType h ≠ type ∨ c.length ≠ containerLen h then .signature
  else match Config.gcmOpen oik (slice h 0x14 12) (slice h 0 0x20) (c.drop 449 ++ slice h 0x20 16) with
  | none => .gcm
  | some p =>
    if Config.sha384 p ≠ hdrDigest h ∨ !Config.ecdsaP384 Config.dravridKey (slice h 0 0x60) (slice h 0x60 96) then .signature
    else if (s.sec.lc = 1 ∨ s.sec.lc = 2 ∨ s.sec.lc = 3) ∧ !owner then .signature
    else if hdrSvn h < burned then .svn else .good

/-- The areas of the image store with their offsets and sizes (R508). -/
inductive StoreArea where
  | loader0 | loader1 | running | fallback | staging | configA | configB | journal | counters
  deriving DecidableEq, Repr

def storeArea : StoreArea → Nat × Nat
  | .loader0 => (0x0000000, 0x100000) | .loader1 => (0x0100000, 0x100000) | .running => (0x0200000, 0x900000)
  | .fallback => (0x0B00000, 0x900000) | .staging => (0x1400000, 0x900000) | .configA => (0x1D00000, 0x200000)
  | .configB => (0x1F00000, 0x200000) | .journal => (0x2100000, 0x10000) | .counters => (0x2110000, 0x40000)

/-- The 32-byte header of a configuration set (R523) and the set. DESIGN CHOICE: log entry 125. -/
def cfgSetBytes (c : CfgSet) : List Byte :=
  let b := Config.cfgBytes c.gen
  leBytes 2 0xCF53 ++ leBytes 2 c.format ++ leBytes 4 c.gen ++ leBytes 4 c.fwVer ++ leBytes 1 (b2n c.trial) ++ leBytes 4 b.length ++ zeros 11 ++
    leBytes 4 (crc32 b) ++ b

/-- What an area of the image store holds, before the sector encryption. -/
def storePlain (s : State) : StoreArea → List Byte
  | .loader0 => s.svc.loader0.bytes | .loader1 => s.svc.loader1.bytes | .running => s.svc.running.bytes | .fallback => s.svc.fallback.bytes
  | .staging => s.svc.staging | .configA => (s.svc.cfgA.map cfgSetBytes).getD [] | .configB => (s.svc.cfgB.map cfgSetBytes).getD []
  | .journal => s.svc.jnl0.flatten ++ zeros (32768 - 32 * s.svc.jnl0.length) ++ s.svc.jnl1.flatten
  | .counters => (s.ing.counters.map (·.2)).flatten

/-- A sector of an area as the store keeps it (R509): AES-256-XTS under the key derived with "STOR", the tweak the sector's number. -/
def storeSector (s : State) (a : StoreArea) (n : Nat) : List Byte :=
  let p := slice (storePlain s a) (4096 * n) 4096
  Config.xts (derivedKey s [0x53, 0x54, 0x4F, 0x52]) ((storeArea a).1 / 4096 + n) (p ++ zeros (4096 - p.length))

/-! ### The update machine at a start (R517–R522) -/

/-- The staged container as an image. -/
def stagedImage (s : State) : Image :=
  let v := s.svc
  { bytes := v.staging, version := hdrVersion v.header, svn := hdrSvn v.header, len := v.staging.length }

/-- The staged image is rejected. -/
def rejectImage (last : Nat) (s : State) : State :=
  recordOnly 387 (hdrVersion s.svc.header) last (journalPut false { s with svc := { s.svc with upd := .rejected, last := last } })

/-- A copy phase begins at its first chunk. -/
def startCopy (u : UpdSt) (s : State) : State :=
  journalPut false { s with svc := { s.svc with upd := u, chunk := 0, chunkRetry := false } }

/-- The trial ends: the loader runs REVERT, or for a loader on trial the other copy stays in use. -/
def revert (last : Nat) (s : State) : State :=
  let v := s.svc
  if v.trialLoader then
    let img := if v.loaderUse then v.loader1 else v.loader0
    recordOnly 390 img.version last (journalPut false { s with svc := { v with
      upd := .rejected, last := last, preferred := false, trialLoader := false, tries := 0, revertReq := none } })
  else startCopy .revert { s with svc := { v with revertReq := some last } }

/-- What VERIFY finds of the staged image: the update goes on in `first` (TYPE 2) or in LCOPY (TYPE 1). -/
def verifyStaged (staged : ImgCheck) (first : UpdSt) (s : State) : State :=
  match staged with
  | .good => startCopy (if hdrType s.svc.header = 1 then .lcopy else first) s
  | .svn => rejectImage 3 s
  | _ => rejectImage 2 s

/-- "Loader starts" (R516, R517). -/
def loaderUpdate (staged : ImgCheck) (s : State) : State :=
  let v := s.svc
  let ver := hdrVersion v.header
  match v.upd with
  | .armed | .verify =>
    if moving s then recordOnly 386 0 ver s
    else if s.pwr.bkp then recordOnly 386 1 ver s
    else if s.pwr.resetCause = 32 ∧ s.brk.onProof then recordOnly 386 3 ver s
    else if s.pwr.resetCause = 32 ∧ bits s.pwr.wakeCause 2 1 = 1 then recordOnly 386 2 ver s
    else if s.sec.lc = 3 then rejectImage 4 s
    else verifyStaged staged .save s
  | .trial =>
    if v.tries < 3 ∧ v.revertReq = none then
      recordOnly 388 (trialImage s).version (v.tries + 1) (journalPut false { s with svc := { v with tries := v.tries + 1 } })
    else revert (v.revertReq.getD 6) s
  | .confirming => confirm s
  | _ => s

/-- Chunks of the running phase (R518). -/
def chunksOf (s : State) : Nat :=
  let v := s.svc
  let n := match v.upd with
    | .save => v.running.len
    | .revert => v.fallback.len
    | _ => v.staging.length
  (n + 65535) / 65536

def copying (s : State) : Bool :=
  match s.svc.upd with
  | .save | .copy | .revert | .lcopy => true
  | _ => false

/-- The last chunk of a phase is in place (R517). -/
def copyDone (s : State) : State :=
  let v := s.svc
  let img := stagedImage s
  match v.upd with
  | .save => startCopy .copy { s with svc := { v with fallback := v.running } }
  | .copy =>
    recordOnly 388 img.version 1 (journalPut false { s with svc := { v with
      upd := .trial, running := img, tries := 1, trialLoader := false, preferred := false, revertReq := none } })
  | .lcopy =>
    systemReset 4 (journalPut false { s with svc := { v with
      upd := .trial, loader0 := if v.loaderUse then img else v.loader0, loader1 := if v.loaderUse then v.loader1 else img
      tries := 0, trialLoader := true, preferred := true, revertReq := none } })
  | .revert =>
    let last := v.revertReq.getD 6
    let keep := fun (c : Option CfgSet) => c.filter (fun x => !x.trial)
    recordOnly 390 v.fallback.version last (journalPut false { s with svc := { v with
      upd := .rejected, running := v.fallback, last := last, tries := 0, revertReq := none, cfgA := keep v.cfgA, cfgB := keep v.cfgB } })
  | _ => s

/-- LOADER_CHUNK_DONE (R518, R522): a chunk that fails its compare is written once more; a second failure is a boot failure, whose
cause code the spec does not state. -/
def chunkDone (ok : Bool) (s : State) : State :=
  let v := s.svc
  if v.boot ≠ .loader ∨ !copying s then s
  else if !ok then
    if v.chunkRetry then
      let r2_ := drawFree 32 s
      let n := r2_.1
      let t := r2_.2
      bootFail (if v.upd = .lcopy then 1 else 2) n t
    else { s with svc := { v with chunkRetry := true } }
  else
    let s1 := journalPut true { s with svc := { v with chunk := v.chunk + 1, chunkRetry := false } }
    if chunksOf s ≤ v.chunk + 1 then copyDone s1 else s1

/-! ### The boot chain (R459, R503) -/

/-- The start-up suite's result (R486, R435): a failing test is told of as test 7 (R488), its cause is latched; on proof-wake it is stored
too. -/
def suiteResult (code : Nat) (s0 : State) : State :=
  let s := if code = 0 then s0 else raise 125 7 code s0
  if code = 0 then s
  else if s.brk.role = .proof then
    safeDrop (enterSafe code { s with brk := { s.brk with proofValid := true, proofPass := false, proofCode := code, onProof := false } })
  else if safeCause code then safeDrop (enterSafe code s)
  else if code = 0xA then { s with saf := { s.saf with latched := setBit s.saf.latched 0xA } }
  else s

/-- The start-up suite finds the recorder's memory good, which a reset has cleared: a failure of it ends (R398, R486). -/
def recorderGood (suite : Nat) (s : State) : State :=
  if suite = 0xA ∨ !s.log.failed then s
  else { s with log := { s.log with failed := false, badWords := [], oldest := s.log.nextSeq } }

/-- The boot ROM starts the loader, from the preferred copy while a loader is on trial, or from a copy that verifies (R459, R519).
DEDUCED: log entry 97. -/
def bootRom (suite : Nat) (s : State) : State :=
  let v := s.svc
  let first := if v.preferred && v.upd == .trial && decide (v.tries ≤ 3) then !v.loaderUse else v.loaderUse
  let of := fun (one : Bool) => imageCheck s 1 (if one then v.loader1 else v.loader0).bytes
  let img := of first
  let alt := of (!first)
  let t := seqGood (if s.pwr.waking.isSome then { s with fan := fanStart s } else s)
  let t0 := if s.pwr.startFrom = .run then t else raise 102 0 (pstateCode s.pwr.startFrom) t
  let s0 := if s.pwr.resetCause = 32 then t else { t0 with pwr := { t0.pwr with startFrom := .run } }
  if s.sec.lc = 5 then { s0 with svc := { s0.svc with boot := .failed } }
  else if img ≠ .good ∧ alt ≠ .good then bootFail 1 (imgCause img) s0
  else
    let copy := if img = .good then first else !first
    let s1 := { s0 with svc := { s0.svc with boot := .loader }, dev := { s0.dev with loaderVer := (if copy then v.loader1 else v.loader0).version } }
    let b := s1.brk
    let s2 := nandStart { s1 with brk := { b with role := if b.onProof then .proof else .listen, level := 0, next := none, hold := false, groups := 0
                                                  roundAt := 0, seen := 0 } }
    loaderUpdate (imageCheck s (hdrType v.header) v.staging) (suiteResult suite (recorderGood suite (watcherFault s2)))

/-- The main firmware starts: configuration, firewall device rules, Headrace, READY (R459, R503 step 5). What the device rules cover the spec
does not print beyond master 4: here each master's covers all it reaches. DESIGN CHOICE: log entry 131. -/
def startFirmware (format : Nat) (s : State) : State :=
  let s1 := loadConfig format s
  { s1 with
    dev := { s1.dev with ready := true, fwVer := s1.svc.running.version }
    svc := { s1.svc with boot := .firmware, readyAt := s.elapsed, healthAt := s.elapsed }
    sec := { s1.sec with devRules := (List.range 12).map (fun m => { master := m, perm := 3, base := 0, size := 2 ^ 64 }) }
    ing := { s1.ing with hrOpen := true } }

/-- The loader boots the main firmware once no copy is under way (R522). DEDUCED: log entry 97. -/
def bootLoader (format : Nat) (s : State) : State :=
  let img := imageCheck s 2 s.svc.running.bytes
  let alt := imageCheck s 2 s.svc.fallback.bytes
  if copying s then s
  else if img = .good then startFirmware format s
  else if alt = .good then startCopy .revert { s with svc := { s.svc with revertReq := some 8 } }
  else bootFail 2 (imgCause img) s

/-- BOOT_CHAIN: the next stage of the boot. `suite` is the failing cause of the start-up suite or 0, `format` the FORMAT the main firmware
writes. -/
def bootChain (suite format : Nat) (s : State) : State :=
  match s.svc.boot with
  | .none | .firmware => s
  | .rom => if s.pwr.waking.any (·.pause) ∨ (s.pwr.wakeFail ∧ s.pwr.waking = none) then s else bootRom suite s
  | .loader => bootLoader format s
  | .restart => { s with dev := { s.dev with ready := true }, svc := { s.svc with boot := .firmware, healthAt := s.elapsed } }
  | .failed =>
    if s.sec.lc = 5 ∨ s.svc.upd ≠ .armed then s
    else
      let t := verifyStaged (imageCheck s (hdrType s.svc.header) s.svc.staging) .copy s
      if copying t then { t with svc := { t.svc with boot := .loader } } else t

/-! ### Restore (R131, R223, R254, R267, R437–R443) -/

/-- Counter reserves at the end of a restore (R131): the ceiling, or the greater of it and the other writer's value plus the gap. -/
def restoreReserves (k : Ckpt) (s : State) : Tab Reserve :=
  let own := decide (k.dev = Config.deviceId)
  let gap := fun (n : Nat) => if n = 0 then 2 ^ 32 else if n = 1 then 2 ^ 24 else 2 ^ 20
  [0, 1, 2].foldl (fun t n =>
    let r := reserve s n
    let v := if own then r.ceil else max r.ceil ((tget {} k.reserves n).val + gap n)
    tset {} t n { val := v, ceil := r.ceil, startDue := true, stopped := r.stopped, notSent := r.notSent }) s.ing.reserves

/-- The broadcast counter has come up at its end (R253). -/
def bcastEnded (s : State) : State := if 0xFFFFF000 ≤ (reserve s 2).val then raise 62 0xFFFFFFFF 0 s else s

/-- Non-FREE entries of a restored Ledger (R442). DEDUCED: log entry 88. -/
def restoreEntries (t : Tab Entry) : Tab Entry :=
  t.map (fun e => (e.1, if e.2.state = .free then e.2 else { e.2 with resync := true, baseline := false }))

/-- A downlink record after a restore (R254): its DSEQ 2²⁰ further, or at the end of its numbers. -/
def restoreDseq (r : DlRec) : DlRec :=
  if r.dseq + 2 ^ 20 < 0xFFFFF000 then { r with dseq := r.dseq + 2 ^ 20 } else { r with dseq := 0xFFFFF000, dseqEnd := true }

/-- Every index's record after a restore, and the event of each whose numbers have ended (R252, R254). -/
def restoreRecs (s : State) : State :=
  let spent := fun (r : DlRec) => decide (0xFFFFF000 ≤ r.dseq + 2 ^ 20)
  let t := s.tai
  let rest := if spent t.blank then (List.range (2 ^ 20)).filter (fun i => !t.recs.any (fun e => e.1 == i)) else []
  let ended := (t.recs.filter (fun e => spent e.2)).map (·.1) ++ rest
  ended.foldl (fun u i => raise 62 i 0 u)
    { s with tai := { t with
        blankDseq := (restoreDseq t.blank).dseq, blankEnd := (restoreDseq t.blank).dseqEnd
        recs := (t.recs.map (fun e => (e.1, restoreDseq e.2))).filter (fun e => decide (e.2 ≠ restoreDseq t.blank)) } }

/-- Campaigns after a restore (R267, R281): images are absent, and those in LOADED to ACTIVATE are SUSPENDED. -/
def restoreCamp (c : Nat) (s : State) : State :=
  let k := camp s c
  match k.st with
  | .loaded | .announce | .multicast | .repair | .activate => campMove c .suspended (setCamp c { k with prior := k.st, image := [] } s)
  | _ => setCamp c { k with image := [] } s

/-- The Weir of a restored checkpoint (R155, R437): what was open or late is marked START; no history. -/
def restoreWeir (w : WeirState) : WeirState :=
  { en := w.en, grid := w.grid, openIv := w.openIv, openStart := w.openIv.isSome, openStep := w.openStep, openParts := w.openParts
    openStale := w.openStale, late := w.late, closing := w.closing, lastClosed := w.lastClosed
    slots := (w.slots.filter (fun x => some x.interval == w.late || some x.interval == w.closing)).map
      (fun x => if some x.interval = w.late then { x with start := true } else x)
    nodes := w.nodes, checks := w.checks, classes := w.classes, frzClasses := w.frzClasses, frzCfg := w.frzCfg, suppress := w.suppress }

/-- Leat's ports of a generation (R223, R437): its slot tables and schedules; everything else of a port is the device's own. -/
def restorePorts (k own : Tab LPort) : Tab LPort :=
  [0, 1, 2, 3].foldl (fun t p =>
    let q := tget {} k p
    tset {} t p { tget {} own p with slots := q.slots, sched := q.nextSched.getD q.sched, nextSched := none }) own

/-- A wrapped slot's key and EUI-64 under this device's pair key (R441, R457): 32 bytes for an AES-128 key, 48 for an AES-256 key. -/
def unwrapSlot (s : State) (b : List Byte) : Option Vault :=
  (Config.keyUnwrap (pairKey s) (b.take (if b.drop 32 = zeros 16 then 32 else 48))).map (fun p =>
    { key := p.take (p.length - 8), eui := ofBe (p.drop (p.length - 8)) })

/-- The Key Vault store of a generation (R441 step 9): every slot unwrapped, the reverse map rebuilt from the EUI-64s (R47); a slot whose
unwrap fails raises its event and authenticates no frame until its key is loaded (R118). -/
def restoreVault (rows : Tab (List Byte)) (s : State) : State :=
  rows.foldl (fun t e => match unwrapSlot s e.2 with
    | some v => { t with sec := { t.sec with vault := tset none t.sec.vault e.1 (some v) }
                         led := { t.led with rev := if v.eui = 0 then t.led.rev else tset none t.led.rev v.eui (some e.1) } }
    | none => raise 15 e.1 0 { t with sec := { t.sec with vault := tset none t.sec.vault e.1 (some { key := [] }) }
                                      ing := { t.ing with unwrapBad := e.1 :: t.ing.unwrapBad } })
    { s with sec := { s.sec with vault := [], cache := [] }, led := { s.led with rev := [] }, ing := { s.ing with unwrapBad := [] } }

/-- The device takes the state of a generation (R442). TOPO_GEN is the generation's. DESIGN CHOICE: log entry 111. DEDUCED: log entry 88. -/
def restoreCkpt (k : Ckpt) (s : State) : State :=
  let s1 := applyConfig k.cfg k.gws k.headEnd k.devKeys s
  let s2 := { s1 with
    led := { k.led with entries := restoreEntries k.led.entries, dramMiB := s.led.dramMiB, poisoned := [], holdoff := [], walking := []
                        sweep := s.led.sweep, sweepAt := s.led.sweepAt, rebuilt := s.led.rebuilt, wrDrop := s.led.wrDrop }
    wei := restoreWeir k.wei
    lea := { s.lea with refOk := s.flu.refOk, phaseWr := [], ports := restorePorts k.lea.ports s.lea.ports }
    tai := { k.tai with items := [], itemNo := s.tai.itemNo, bursts := [], turn := []
                        confirms := [], outcomes := [], sweep := [], pathAt := [], limA := s1.tai.limA, limB := s1.tai.limB }
    brk := { s1.brk with ckptS := some k.startS, lastGen := max s1.brk.lastGen k.gen } }
  let s3 := restoreVault k.vault { s2 with ing := { s2.ing with reserves := restoreReserves k s2 } }
  let s4 := openNow (bcastEnded ((List.range 16).foldl (fun t c => restoreCamp c t) (restoreRecs (leatRestore s3))))
  { s4 with brk := { s4.brk with base := some (tablesOf k.dir s4) } }

/-- No complete generation (R443): every section takes its reset state, the running configuration that of the stored set (R523), the counters
that of the COUNTERS area (R131); a broadcast counter that came up at its end is told of (R253). -/
def restoreNothing (s : State) : State :=
  let s1 := { s with
    brk := { s.brk with base := none }, led := { dramMiB := s.led.dramMiB }, wei := {}
    lea := { s.lea with refOk := s.flu.refOk, phaseWr := [], ports := restorePorts [] s.lea.ports }
    tai := { limA := s.tai.limA, limB := s.tai.limB, itemNo := s.tai.itemNo }
    sec := { s.sec with vault := [], cache := [] }
    ing := { s.ing with reserves := resumeReserves s.ing.counters, unwrapBad := [] } }
  bcastEnded (match bestSet s.svc.cfgFormat s with
    | some (_, c) => startWeir c.weirEn (applyConfig c.cfg c.gws c.headEnd c.devKeys s1)
    | none => applyConfig [] [] none [] s1)

/-- RESTORING → ACTIVE (R435, R441 step 10): ACTIVE_LEVEL from the next round, QUIET ends, the takeover event. -/
def restored (gen cause : Nat) (s : State) : State :=
  let ms := (s.elapsed - s.brk.startAt) / tickMs
  let s1 := { s with brk := { s.brk with role := .active, current := true, keep := false, next := some (paramN s .brake 0 0)
                                         takeoverMs := ms, lastCkpt := s.elapsed } }
  quietEnd (raise 92 (gen % 2 ^ 32) (ms % 65536 + 65536 * cause) s1)

/-- Both generations fail, or the only one (R443): FAULT, claim zero, safe state. -/
def restoreFailed (s : State) : State :=
  let ms := (s.elapsed - s.brk.startAt) / tickMs
  let r3_ := drawFree 32 s
  let n := r3_.1
  let s1 := r3_.2
  safeDrop (enterSafe 0xB (raise 92 n (ms % 65536 + 65536) s1))

/-- RESTORE_COMPLETE: what the read of the newest complete generation and of the one before it found (R441–R443, R497). -/
def restoreComplete (newestOk prevOk : Bool) (s : State) : State :=
  if dark s .brk ∨ s.brk.role ≠ .restoring ∨ !s.brk.hold ∨ s.svc.boot ≠ .firmware ∨ s.gra.chk.st = .mounting then s
  else if s.brk.keep then
    let r4_ := drawFree 32 s
    let n := r4_.1
    let s1 := r4_.2
    let r5_ := drawFree 4 s1
    let c := r5_.1
    let s2 := r5_.2
    restored n c s2
  else
    let none_ := s.gra.chk.st == .absent || s.gra.chk.st == .unformatted
    match (if none_ then [] else s.chk) with
    | [] =>
      let r6_ := drawFree 32 s
      let n := r6_.1
      let s1 := r6_.2
      restored n 2 (restoreNothing s1)
    | [k] => if newestOk ∧ ckptSound s k then restored k.gen 0 (restoreCkpt k s) else restoreFailed s
    | k :: j :: _ =>
      if newestOk ∧ ckptSound s k then restored k.gen 0 (restoreCkpt k s)
      else if prevOk ∧ ckptSound s j then restored j.gen 1 (restoreCkpt j s)
      else restoreFailed s

/-! ### Meanings -/

def execPowerState (c : Ctx) (target : Byte) (s : State) : Res :=
  .next (replyFirst (.powerState c target) (powerStateCmd target.toNat) (powerStateNow target.toNat) s)
def execWakeConfig (c : Ctx) (addr src : Byte) (s : State) : Res := .next (command (.wakeConfig c addr src) true (wakeConfigCmd addr.toNat src.toNat) s)
def execReset (c : Ctx) (kind : Byte) (s : State) : Res := .next (replyFirst (.reset c kind) (resetCmd kind.toNat) (resetNow kind.toNat) s)
def execPowerOn (unitId : Bool) (s : State) : Res := .next (powerUp unitId s)
/-- RSTn low for at least 1 µs (R501). -/
def execSystemReset (s : State) : Res := .next (if s.pwr.on then systemReset 2 s else s)
/-- Function Level Reset, Hot Reset or link-down, while the link is there to show it (R339, R490). -/
def execHostReset (s : State) : Res := .next (if s.pwr.st = .hush ∨ s.pwr.st = .off then s else hostReset s)
def execBootChain (suite format : Byte) (s : State) : Res := .next (bootChain suite.toNat format.toNat s)
def execWakeEvent (cause : Fin 3) (s : State) : Res := .next (wakeEvent cause.val s)
def execWakeAttemptTimeout (pll : Bool) (s : State) : Res := .next (attemptFailed pll s)
def execWakeRetryTimer (s : State) : Res := .next (retryWake s)
def execWakeComplete (s : State) : Res := .next (wakeDone s)
def execPowerEntryStep (s : State) : Res := .next (entryStep s)
def execBkpActiveRise (s : State) : Res := .next (if s.pwr.bkp then s else bkpRise s)
/-- BKP_ACTIVE falls (R516). -/
def execBkpActiveFall (s : State) : Res := .next { s with pwr := { s.pwr with bkp := false } }
def execClaimWatcherFire (oneLine : Bool) (s : State) : Res := .next (watcherFire oneLine s)
def execRestoreComplete (newestOk prevOk : Bool) (s : State) : Res := .next (restoreComplete newestOk prevOk s)
def execProofTimer (s : State) : Res := .next (proofWake s)
def execLoaderChunkDone (ok : Bool) (s : State) : Res := .next (chunkDone ok s)
/-- PORn falls (R502); `aon`: VDD_AON goes too. -/
def execSupplyLoss (aon : Bool) (s : State) : Res := .next (powerClear aon s)

end Sys2Proof.Machine
end

