-- ==== Sys2Proof/Machine/Flags.lean ====
section
/-! DEFINITION. The status words: every flag and state code a register reports, computed from the state it stands for. -/

namespace Sys2Proof.Machine

/-- Bits 0 to `n - 1` of a word from a predicate. -/
def flagBits (n : Nat) (p : Nat → Bool) : Nat := ((List.range n).map (fun k => b2n (p k) * 2 ^ k)).sum

/-- A 16-bit pattern of a signed value. -/
def u16 (v : Int) : Nat := (v % 65536).toNat

/-! ### DEV, SAFE, PWR (R344, R487, R506) -/

def devStatus (s : State) : Nat := b2n s.dev.ready + 2 * b2n s.dev.quiet + 4 * b2n s.brk.hold + 8 * b2n s.saf.safe

def devAccessErr (s : State) : Nat := s.dev.accStatus + 2 ^ 16 * s.dev.accBus + 2 ^ 31 * b2n s.dev.accValid

def safeStatus (s : State) : Nat := b2n s.saf.safe + 2 * b2n (!safePin s) + 4 * (s.saf.first % 256)

/-- PWR_STATUS; ENTRY tells of the entry sequences of R492. -/
def pwrStatus (s : State) : Nat :=
  let p := s.pwr
  pstateCode p.st + 8 * (p.pwrEn % 16) + 128 * b2n p.pgCore + 256 * b2n p.bkp + 512 * b2n p.quiet + 1024 * b2n p.wakeFail
    + 2048 * b2n (p.entry.any (fun e => e.1 != .trim))

/-! ### HOP, EVT (R345, R358) -/

def pairCode : PairSt → Nat
  | .disabled => 0 | .enabled => 1 | .draining => 2 | .faulted => 3

def qpCtrl (q : QPair) : Nat := b2n q.en + 2 * q.prio + 8 * q.vector + 256 * b2n q.ien
def qpStatus (q : QPair) : Nat := pairCode q.st + 4 * q.inflight.length

/-- MSI-X pending bits: messages a mask withholds (R359). -/
def pba (s : State) : Nat := flagBits 32 (fun v => s.evt.owed.getLsbD v && vecMasked s v)

/-! ### FAN (R334) -/

def fanCode : FanSt → Nat
  | .unset => 0 | .acquire => 1 | .sync => 2 | .holdover => 3

def fanStatus (s : State) : Nat :=
  let f := s.fan
  fanCode f.st + 8 * f.rep + 64 * b2n (f.refStanding != [] || f.disagree != []) + 128 * b2n s.pwr.rtcValid
    + 256 * flagBits 4 (fun k => srcUsable s k && !f.disagree.contains k) + 4096 * flagBits 4 (fun k => f.disagree.contains k)
    + 65536 * b2n (param s .fantail 12 0 == 1 && f.st != .unset)

def fanUtc (s : State) : Nat := s.fan.utcOfs % 65536 + 65536 * b2n s.fan.leap61 + 131072 * b2n s.fan.leap59 + 262144 * b2n s.fan.fromPtp

/-! ### ING, WEI, VAN, LEA, TAI (R137, R178, R212, R247, R280) -/

def laneStatus (s : State) : Nat :=
  s.ing.run.toNat + 16 * s.ing.cmp.toNat + 256 * s.ing.wdog.toNat + 4096 * s.ing.cmd.toNat

def weiStatus (s : State) : Nat :=
  let w := s.wei
  b2n w.en + 2 * b2n w.late.isSome + 4 * b2n w.closing.isSome + 8 * b2n w.overrun + 256 * paramN s .weir 2 0

def verdictNodes (s : State) (v : Verdict) : Nat := (s.wei.nodes.filter (fun e => e.2.verdict == v)).length

/-- A radio port is clocked, configured with scripts, and not dark. -/
def vanUp (s : State) (p : Nat) : Bool :=
  !dark s .van && !unclockedPort s p && (vport s p).scripts != [] &&
  !(vport s p).idle

def vanStatus (s : State) : Nat :=
  flagBits 8 (vanUp s) + 256 * flagBits 8 (fun p => (vport s p).lock) + 65536 * b2n s.dev.quiet + 131072 * b2n s.van.ramp.isSome
    + 262144 * s.van.lastHint

def upCode : UpSt → Nat
  | .disabled => 0 | .search => 1 | .track => 2 | .lost => 3

def vanUpStatus (s : State) : Nat := upCode s.van.up + 4 * s.van.misses + 16 * s.van.regain + 64 * s.van.depth

/-- A power-line port is clocked, configured with a schedule, and not dark. -/
def leaUp (s : State) (p : Nat) : Bool := !dark s .lea && (lport s p).sched != []

def leaStatus (s : State) : Nat :=
  flagBits 4 (leaUp s) + 16 * flagBits 4 (fun p => (lport s p).lock) + 256 * flagBits 4 (leaRuns s)
    + 4096 * b2n s.dev.quiet + 8192 * b2n s.lea.refOk

/-- DEDUCED: log entry 23. -/
def taiStatus (s : State) : Nat :=
  b2n (spEnabled s) + 2 * b2n (s.pwr.on && (s.dev.quiet || !s.brk.hold)) + 4 * b2n (s.tai.sweep != []) + 8 * (s.tai.sweep.headD 0)

/-- State codes of eight campaigns from a first one. -/
def campWord (first : Nat) (s : State) : Nat := ((List.range 8).map (fun k => campCode (camp s (first + k)).st * 16 ^ k)).sum

/-! ### FLU (R309) -/

/-- DEDUCED: log entry 23. -/
def fluStatus (s : State) : Nat :=
  flagBits 12 (chanOk s) + 2 ^ 12 * b2n s.flu.settling.isSome + 2 ^ 13 * b2n s.flu.fade.isSome + 2 ^ 14 * b2n s.flu.bank
    + 2 ^ 15 * b2n s.flu.refOk + 2 ^ 16 * b2n (s.pwr.on && !grp s 2) + 2 ^ 17 * b2n (param s .flume 0 0 != 0)

def fluChStat (s : State) (c : Nat) : Nat :=
  let k := fluCh s c
  k.role + 4 * k.fault + 16 * b2n (k.role != 0 && (k.settling.isSome || s.flu.settling.isSome)) + 32 * paramN s .flume 2 (c * 256) + 128 * b2n (k.staged != [])
    + 256 * b2n k.otp.isSome

def fluPtStat (s : State) (p : Nat) : Nat :=
  let x := tget {} s.flu.pts p
  x.elems.length + 4 * b2n x.ref + 8 * b2n x.anchor.isSome + 16 * x.plaus

/-- Fade samples remaining. -/
def fadeLeft (s : State) : Nat := match s.flu.fade with | some (f, t) => f - (s.elapsed - t) / tickP32 | none => 0

/-! ### GRA, BRK, SEC, LOG (R401, R427, R447, R470) -/

def graStatus (s : State) : Nat :=
  chanCode s.gra.arc.st + 8 * chanCode s.gra.chk.st + 64 * b2n s.gra.hmrUse + 128 * b2n (s.gra.arc.st == .readOnly) + 256 * b2n s.brk.run.isSome

/-- ROLE; the 7 of STANDBY appears on the MGMT bus alone (R500). -/
def roleCode : Role → Nat
  | .listen => 0 | .contend => 1 | .restoring => 2 | .active => 3 | .idle => 4 | .proof => 5 | .fault => 6 | .standby => 7

def brkStatus (s : State) : Nat :=
  let b := s.brk
  roleCode b.role + 8 * b2n b.hold + 16 * b2n b.unitId + 32 * (b.groups % 16) + 512 * b2n b.peer + 1024 * b2n b.lineFault

def brkProof (s : State) : Nat := b2n s.brk.proofValid + 2 * b2n s.brk.proofPass + 256 * (s.brk.proofCode % 256)

/-- BRK_PEER_S. -/
def peerSecs (s : State) : Nat := if s.brk.peerAt = 0 then 0xFFFFFFFF else (s.elapsed - (s.brk.peerAt - 1)) / tickS

def secDebug (s : State) : Nat := match s.sec.session with | some d => d.level + 4 * d.entry + 8 * d.halted.toNat | none => 0

/-- DESIGN CHOICE: log entry 24. -/
def dbgLeft (s : State) : Nat := match s.sec.session with | some d => d.limit - (s.elapsed - d.at_) / tickS | none => 0

/-- SEC_KEYS (R470): a key field burned to all ones by an entry to RETURN or RETIRED (R451) is burned. DEDUCED: log entry 14. -/
def secKeys (s : State) : Nat :=
  let burned := fun (k : Option (List Byte)) => k.isSome || s.sec.burnedOut
  flagBits 4 (fun w => devKey s w != []) + 16 * b2n (burned s.sec.pairKey) + 32 * b2n (burned s.sec.ktk) + 64 * b2n (burned s.sec.oik)

def violInfo (s : State) : Nat := s.sec.violMaster + 16 * b2n s.sec.violWrite + 2 ^ 31 * b2n s.sec.violValid

def logStatus (s : State) : Nat :=
  let l := s.log
  b2n (!l.full && !l.failed) + 2 * b2n l.full + 4 * b2n l.freeze.isSome + 8 * b2n l.snap.isSome + 16 * b2n l.failed
    + 32 * b2n l.lgSticky + 64 * b2n (freezeMode s) + 128 * l.bank.length

/-- LOG_VIEW_SEQ. -/
def viewSeq (s : State) : Nat := if s.log.freeze.isSome then s.log.freezeBound else s.log.snap.getD 0

end Sys2Proof.Machine
end

