-- ==== Sys2Proof/Machine/Bar2.lean ====
section
/-! DEFINITION. What the host reads through BAR2: the entries, the node table, the status page, and what of a read comes from one instant
(R79–R82). -/

namespace Sys2Proof.Machine

/-! ### Places -/

/-- Entries in a state (R82). -/
def stateCount (s : State) (p : EState → Bool) : Nat := (s.led.entries.filter (fun e => p e.2.state)).length

/-- The aligned dword of the status page at an offset (R82). -/
def pageDword (s : State) : Nat → Nat
  | 0x00 => stateCount s (· != .free)
  | 0x04 => stateCount s (· == .present)
  | 0x08 => stateCount s (· == .absent)
  | 0x0C => stateCount s (· == .blocked)
  | 0x10 => s.led.topoGen.toNat
  | 0x14 => s.led.sweep.toNat
  | 0x18 => (param s .ledger 2 0).toNat
  | 0x1C => s.led.rebuilt
  | 0x20 => s.led.wrDrop
  | _ => 0

/-- The aligned dword of BAR2 at an offset (R79). The words of an entry whose stored words carry an uncorrectable error not yet
rebuilt are free values. DESIGN CHOICE: log entry 101. -/
def bar2Dword (s : State) (o : Nat) : Nat :=
  if o < 0x2000000 then
    (if s.led.poisoned.contains (o / 32) then Config.freeNat (s.free + o % 32 / 4) % 2 ^ 32 else entryWord (entry s (o / 32)) (o % 32 / 4))
  else if o < 0x2800000 then tableDword s (o - 0x2000000)
  else if o < 0x3FFF000 then 0
  else pageDword s (o - 0x3FFF000)

/-- The bytes of `n` dwords of BAR2 from an aligned offset, all of one instant. -/
def bar2Bytes (s : State) (o n : Nat) : List Byte := ((List.range n).map (fun w => leBytes 4 (bar2Dword s (o + 4 * w)))).flatten

/-- Size of the Ledger entry or node record that begins at an offset of BAR2 (R49, R72). -/
def recordAt (o : Nat) : Option Nat :=
  if o < 0x2000000 then (if o % 32 = 0 then some 32 else none)
  else if o < 0x2800000 then
    (regionAt (o - 0x2000000)).bind (fun r => if r.lvl ≠ 0 ∧ (o - 0x2000000 - r.base) % r.size = 0 then some r.size else none)
  else none

/-- The whole records a read request covers, with their sizes, where it covers nothing else; the first operand bounds their number. -/
def wholeRecords : Nat → Nat → Nat → Option (List (Nat × Nat))
  | 0, _, _ => none
  | fuel + 1, o, len =>
    if len = 0 then some []
    else match recordAt o with
      | none => none
      | some n => if len < n then none else (wholeRecords fuel (o + n) (len - n)).map (fun l => (o, n) :: l)

/-- The aligned 8-byte words a read touches. -/
def wordsOf (o len : Nat) : List (Nat × Nat) :=
  (List.range ((o + len + 7) / 8 - o / 8)).map (fun k => ((o / 8 + k) * 8, 8))

/-- What of a read request comes from a single instant each (R80): its whole records, or else its aligned 8-byte words. -/
def bar2Units (o len : Nat) : List (Nat × Nat) :=
  match wholeRecords (len + 1) o len with
  | some l => l
  | none => wordsOf o len

/-- A read that names an address and no length: the record that begins there, or the aligned 8-byte word that holds it, from this one
instant; a longer request is several of these, each of an instant of its own (R80). DESIGN CHOICE: log entry 101. -/
def bar2Read (a : Nat) (s : State) : State :=
  let u := (bar2Units a ((recordAt a).getD 1)).headD (a, 0)
  emit (.bar2 u.1 (bar2Bytes s u.1 (u.2 / 4))) { s with free := s.free + 8 }

end Sys2Proof.Machine
end

