-- ==== Sys2Proof/Machine/Registers.lean ====
section
/-! DEFINITION. The register space of BAR0, the MGMT bus, and debug access to both and to memory (R14, R32, R341–R345, R466,
R499, R500). -/

namespace Sys2Proof.Machine

/-! ### The map (R341) -/

/-- The block a BAR0 offset lies in. -/
def blkAt (a : Nat) : Option Blk :=
  [Blk.dev, .hop, .evt, .fan, .ing, .wei, .van, .lea, .tai, .flu, .gra, .brk, .sec, .pwr, .log, .que][a / 0x10000]?

/-- The place of an offset in a run of `n` registers from `base`, `step` apart. -/
def nth (base step n a : Nat) : Option Nat :=
  if base ≤ a ∧ (a - base) % step = 0 ∧ (a - base) / step < n then some ((a - base) / step) else none

def isIn (base step n a : Nat) : Bool := (nth base step n a).isSome

/-- The read-clear registers (R14), as the blocks' maps list them. DEDUCED: log entry 21. -/
def isRc (a : Nat) : Bool :=
  [0x30, 0x48, 0x108, 0x4F00C, 0x5004C, 0x50050, 0x50044, 0x9001C, 0x90018, 0xB001C, 0xC002C, 0xC0030, 0xD0018, 0xD001C, 0xE0018,
    0xE001C, 0xF0004].contains a ||
  isIn 0x10028 0x40 16 a || isIn 0x30038 4 5 a || isIn 0x40010 4 14 a || isIn 0x4004C 4 5 a || isIn 0x40100 4 8 a ||
  isIn 0x50010 4 9 a || isIn 0x60010 4 4 a || (List.range 11).any (fun k => isIn (0x60100 + 4 * k) 0x40 8 a) ||
  isIn 0x70004 4 3 a || (List.range 13).any (fun k => isIn (0x70100 + 4 * k) 0x40 4 a) || isIn 0x80020 4 15 a ||
  isIn 0x90108 0x10 12 a || isIn 0x9010C 0x10 12 a || isIn 0xA0014 4 3 a ||
  (List.range 7).any (fun k => isIn (0xA0110 + 4 * k) 0x40 2 a) || isIn 0xB0008 4 3 a ||
  (List.range 4).any (fun k => isIn (0xF0104 + 4 * k) 0x20 7 a)

/-! ### Reading (R14, R342) -/

/-- A dword of a window of bytes. -/
def dwordAt (l : List Byte) (ofs : Nat) : Nat := ofLe (slice l ofs 4)

/-- Seconds left of the health window, whole ones; 0 outside TRIAL (R525). DESIGN CHOICE: log entry 24. -/
def updWin (s : State) : Nat :=
  if s.svc.upd ≠ .trial then 0 else if s.dev.ready then 900 - (s.elapsed - s.svc.readyAt) / tickS else 900

/-- The waiting reply of DEV_SVC_IN. -/
def svcIn (s : State) : List Byte := s.svc.replies.headD []

def regDev (s : State) (a : Nat) : Nat :=
  match a with
  | 0x00 => 0x7810
  | 0x04 => Config.deviceId % 2 ^ 32
  | 0x08 => s.dev.fwVer
  | 0x0C => s.dev.loaderVer
  | 0x10 => 0x410
  | 0x14 => devStatus s
  | 0x20 => s.dev.scratch
  | 0x40 => devAccessErr s
  | 0x44 => s.dev.accAddr
  | 0x100 => safeStatus s
  | 0x104 => s.saf.latched.toNat
  | 0x10C => toU32 s.saf.tbPpm
  | 0x110 => s.saf.rotBank + 64 * b2n s.saf.rotStopped
  | 0x114 => s.saf.stestLast + 256 * s.saf.stestRes
  | 0x200 => updStatus s
  | 0x204 => b2n s.svc.hostMoving + 2 * b2n s.svc.holdConfirm
  | 0x208 => hdrVersion s.svc.header
  | 0x20C => s.svc.staging.length
  | 0x210 => updWin s
  | 0x224 => (svcIn s).length
  | _ => if 0x2000 ≤ a ∧ a < 0x3000 ∧ a % 4 = 0 then dwordAt (svcIn s) (a - 0x2000) else 0

def regHop (s : State) (a : Nat) : Nat :=
  if 0x400 ≤ a then 0
  else
    let q := pair s (a / 0x40)
    match a % 0x40 with
    | 0x00 => qpCtrl q
    | 0x04 => qpStatus q
    | 0x08 => q.hqBase % 2 ^ 32
    | 0x0C => q.hqBase / 2 ^ 32
    | 0x10 => q.bqBase % 2 ^ 32
    | 0x14 => q.bqBase / 2 ^ 32
    | 0x18 => q.size
    | 0x1C => q.agg
    | 0x20 => q.hqHead
    | 0x24 => q.bqTail
    | 0x2C => q.cause
    | _ => 0

def regEvt (s : State) (a : Nat) : Nat :=
  let e := s.evt
  match nth 0 4 128 a, nth 0x200 4 4 a, nth 0x280 4 32 a with
  | some n, _, _ => tget 0 e.route n
  | _, some k, _ => bits e.pend.toNat (32 * k) 32
  | _, _, some v => tget 0 e.holdoff v
  | none, none, none =>
    if a = 0x300 then flagBits 32 (fun v => e.owed.getLsbD v && (vecMasked s v || vecHeld s v))
    else if a = 0x9000 then pba s
    else if 0x8000 ≤ a ∧ a < 0x8200 ∧ a % 4 = 0 then
      (if a % 16 = 12 then b2n (!e.unmasked.getLsbD ((a - 0x8000) / 16)) else tget 0 e.msix (a - 0x8000))
    else 0

def regFan (s : State) (a : Nat) : Nat :=
  let f := s.fan
  match a with
  | 0x00 => fanStatus s
  | 0x08 => f.snapSec % 2 ^ 32
  | 0x0C => f.snapSec / 2 ^ 32
  | 0x10 => f.snapNsec
  | 0x14 => f.snapStamp
  | 0x18 => f.snapRaw % 2 ^ 32
  | 0x1C => f.snapRaw / 2 ^ 32
  | 0x20 => toU32 f.rate
  | 0x24 => toU32 f.lastErr
  | 0x28 => fanUtc s
  | 0x2C => f.gm % 2 ^ 32
  | 0x30 => f.gm / 2 ^ 32
  | 0x34 => (queue s 3).length
  | _ => 0

def regIng (s : State) (a : Nat) : Nat :=
  match a with
  | 0x00 => laneStatus s
  | 0x04 => s.ing.level
  | 0x48 => scMinAge s
  | 0xF000 => s.dev.paceWindow + 4 * b2n s.dev.paceEn
  | 0xF004 => s.dev.paceSeq
  | 0xF008 => s.dev.paceSpeed
  | 0xF00C => s.dev.paceMin
  | 0xF010 => s.dev.paceFloor
  | _ => match nth 0xF020 8 4 a, nth 0xF024 8 4 a with
    | some n, _ => tget 0 s.dev.verd n
    | _, some n => tget 0 s.dev.doneW n
    | none, none => 0

def regWei (s : State) (a : Nat) : Nat :=
  let w := s.wei
  match a with
  | 0x00 => weiStatus s
  | 0x04 => w.openIv.getD 0 % 2 ^ 32
  | 0x08 => w.lastClosed.getD 0 % 2 ^ 32
  | 0x0C => w.closeUs
  | 0x10 => w.closeMax
  | 0x34 => verdictNodes s .nodeLoss
  | 0x38 => verdictNodes s .nodeSurplus
  | 0x3C => verdictNodes s .theftSuspect
  | 0x40 => (queue s 1).length
  | 0x48 => w.tests.length
  | _ => 0

def regVan (s : State) (a : Nat) : Nat :=
  match a with
  | 0x00 => vanStatus s | 0x04 => vanUpStatus s | 0x08 => s.van.upBseq | 0x0C => s.van.bseqSent | _ => 0

def regLea (s : State) (a : Nat) : Nat :=
  match a, nth 0x134 0x40 4 a, nth 0x138 0x40 4 a with
  | 0, _, _ => leaStatus s
  | _, some n, _ => (lport s n).cycleMs
  | _, _, some n => ((lport s n).slots.filter (fun e => e.2.st != .free)).length
  | _, none, none => 0

def regTai (s : State) (a : Nat) : Nat :=
  match a with
  | 0x00 => taiStatus s
  | 0x04 => campWord 0 s
  | 0x08 => campWord 8 s
  | 0x0C => (s.tai.sps.filter (fun e => e.2.isSome)).length
  | 0x10 => s.tai.repairs.length
  | _ => 0

/-- The per-second registers of a point (R309). -/
def regPoint (s : State) (p r : Nat) : Nat :=
  let e := fun (k : Nat) => (tget [] s.flu.shown p).getD k {}
  if r < 0x30 then
    match r % 0x10 with
    | 0 => (e (r / 16)).vrms | 4 => (e (r / 16)).irms | 8 => toU32 (e (r / 16)).p | 12 => toU32 (e (r / 16)).q | _ => 0
  else
    match r with
    | 0x30 => u16 (e 1).vang + 65536 * u16 (e 2).vang
    | 0x34 => u16 (e 0).iang + 65536 * u16 (e 1).iang
    | 0x38 => u16 (e 2).iang
    | 0x3C => fluPtStat s p
    | _ => 0

def regFlu (s : State) (a : Nat) : Nat :=
  match a with
  | 0x00 => fluStatus s
  | 0x04 => fadeLeft s
  | 0x08 => s.flu.shownFreq
  | 0x0C => s.flu.period
  | 0x10 => 0x1F3128E6
  | 0x14 => 0x606275D6
  | 0x20 => s.flu.lastInt % 2 ^ 32
  | 0x24 => s.flu.liveSeq
  | _ => match nth 0x100 0x10 12 a, nth 0x104 0x10 12 a with
    | some c, _ => fluChStat s c
    | _, some c => toU32 (quotOpen (((s.flu.loads.filter (fun l => l.2.1 == c)).getLast?.map (·.2.2)).getD (fluCh s c).dc) (2 ^ 22))
    | none, none => if 0x400 ≤ a ∧ a < 0x600 then regPoint s ((a - 0x400) / 0x40) (a % 0x40) else 0

def regGra (s : State) (a : Nat) : Nat :=
  match a with
  | 0x00 => graStatus s
  | 0x04 => s.gra.wp % 2 ^ 32
  | 0x08 => s.gra.wp / 2 ^ 32
  | 0x0C => s.gra.cap
  | 0x10 => ringDepth s
  | 0x20 => if s.gra.chk.mounted then ((s.chk.head?).elim 0 (fun k => k.gen)) % 2 ^ 32 else 0
  | 0x24 => s.gra.rebuildMs
  | _ =>
    if 0x100 ≤ a ∧ a < 0x180 then
      let c := chan s (decide (0x140 ≤ a))
      match a % 0x40 with
      | 0 => c.spare | 4 => c.retired.length | 8 => peMaxOf c | 12 => peAvgOf (decide (0x140 ≤ a)) c | _ => 0
    else 0

def regBrk (s : State) (a : Nat) : Nat :=
  match a with
  | 0x00 => brkStatus s
  | 0x04 => claimByte s + 256 * s.brk.winner
  | 0x14 => s.brk.ckptMs
  | 0x18 => match s.brk.ckptS with | some t => nowS s - t | none => 0
  | 0x20 => s.brk.takeoverMs
  | 0x24 => peerSecs s
  | 0x28 => brkProof s
  | _ => 0

def regSec (s : State) (a : Nat) : Nat :=
  match a with
  | 0x00 => secLifecycle s
  | 0x04 => s.sec.lcCount
  | 0x08 => secDebug s
  | 0x0C => dbgLeft s
  | 0x10 => s.sec.svnLoader + 256 * s.sec.svnMain
  | 0x14 => secKeys s
  | 0x18 => s.sec.frozen.toNat
  | 0x1C => violInfo s
  | 0x20 => s.sec.violAddr % 2 ^ 32
  | 0x24 => s.sec.violAddr / 2 ^ 32
  | _ => 0

def regPwr (s : State) (a : Nat) : Nat :=
  match a with
  | 0x00 => pwrStatus s
  | 0x04 => pwrWake s
  | 0x08 => s.pwr.mgmtAddr + 256 * s.pwr.wakeSrc
  | 0x0C => s.pwr.resetCause
  | 0x10 => s.pwr.entryMs
  | 0x14 => s.pwr.wakeUs
  | 0x20 => s.pwr.quietMs
  | _ => 0

def regLog (s : State) (a : Nat) : Nat :=
  match a with
  | 0x00 => logStatus s
  | 0x04 => s.log.mem.length
  | 0x08 => s.log.oldest
  | 0x0C => logNewest s
  | 0x10 => viewSeq s
  | 0x14 => (queue s 4).length
  | _ => 0

def regQue (s : State) (a : Nat) : Nat :=
  match a, nth 0x100 0x20 7 a, nth 0x104 0x20 7 a with
  | 0, _, _ => s.que.poisonLast
  | _, some q, _ => (queue s q).length
  | _, _, some q => tget 0 s.que.hwm q
  | _, none, none => 0

/-- The registers that are no counter, by block. DEDUCED: log entry 33. -/
def regPlain (s : State) (b : Blk) (a : Nat) : Nat :=
  match b with
  | .dev => regDev s a | .hop => regHop s a | .evt => regEvt s a | .fan => regFan s a | .ing => regIng s a | .wei => regWei s a
  | .van => regVan s a | .lea => regLea s a | .tai => regTai s a | .flu => regFlu s a | .gra => regGra s a | .brk => regBrk s a
  | .sec => regSec s a | .pwr => regPwr s a | .log => regLog s a | .que => regQue s a | .ldg => 0

/-- The value of a BAR0 register; an offset that no map lists reads zero (R342). -/
def regValue (s : State) (a : Nat) : Nat :=
  match blkAt a with
  | none => 0
  | some b => cnt a s + regPlain s b (a % 0x10000)

/-- A read-clear register after its read: counters and high-water marks at zero, the lowest speed at its reset value.
DEDUCED: log entry 21. -/
def regClear (a : Nat) (s : State) : State :=
  let s1 := { s with rc := tset 0 s.rc a 0 }
  if a = 0x4F00C then { s1 with dev := { s1.dev with paceMin := 0xFFFF } }
  else if a = 0x50010 then { s1 with wei := { s1.wei with closeMax := 0 } }
  else match nth 0xF0104 0x20 7 a with
  | some q => { s1 with que := { s1.que with hwm := tset 0 s1.que.hwm q 0 } }
  | none => s1

/-- A BAR0 offset belongs to a dark block (R32). -/
def darkAt (s : State) (a : Nat) : Bool := (blkAt a).any (fun b => dark s b)

/-- RETIRED (R449): only identity is readable — DEV_ID and DEV_DEVICE_ID at BAR0, the identity register of the MGMT bus, IDENTIFY on the
Service Port, and the configuration header; every other register reads zero, or DENIED on a bus that has a status.
DEDUCED: log entry 139. -/
def hidden (s : State) : Bool := s.sec.lc == 5

/-- One dword read of BAR0 (R14, R32, R342): the value, and the state with what the read clears cleared. -/
def bar0Read (a : Nat) (s : State) : State :=
  if darkAt s a then emit (.regRead a 0xFFFFFFFF) (darkAccess 0 a s)
  else if hidden s ∧ a ≠ 0 ∧ a ≠ 4 then emit (.regRead a 0) s
  else emit (.regRead a (regValue s a)) (if isRc a then regClear a s else s)

/-! ### Writing (R14, R15, R342, R346) -/

/-- The registers of a pair that a write can change: only while it is DISABLED (R346). DEDUCED: log entry 29. -/
def hopWrite (p r v : Nat) (s : State) : State :=
  let q := pair s p
  if r = 0 then (if bit v 0 then pairEnable p v s else pairDisable p v s)
  else if q.st ≠ .disabled then s
  else match r with
  | 0x08 => setPair p { q with hqBase := q.hqBase / 2 ^ 32 * 2 ^ 32 + v } s
  | 0x0C => setPair p { q with hqBase := v * 2 ^ 32 + q.hqBase % 2 ^ 32 } s
  | 0x10 => setPair p { q with bqBase := q.bqBase / 2 ^ 32 * 2 ^ 32 + v } s
  | 0x14 => setPair p { q with bqBase := v * 2 ^ 32 + q.bqBase % 2 ^ 32 } s
  | 0x18 => setPair p { q with size := v % 256 } s
  | 0x1C => setPair p { q with agg := v % 2 ^ 24 } s
  | _ => s

/-- A dword of the MSI-X table; bit 0 of a vector's fourth is its mask. PRESUMED: log entry 20. -/
def msixWrite (o v : Nat) (s : State) : State :=
  if o % 4 ≠ 0 then s
  else if o % 16 ≠ 12 then { s with evt := { s.evt with msix := tset 0 s.evt.msix o v } }
  else if bit v 0 then { s with evt := { s.evt with unmasked := clrBit s.evt.unmasked (o / 16) } }
  else sendOwed (o / 16) { s with evt := { s.evt with unmasked := setBit s.evt.unmasked (o / 16) } }

def evtWrite (o v : Nat) (s : State) : State :=
  match nth 0 4 128 o, nth 0x200 4 4 o, nth 0x280 4 32 o with
  | some n, _, _ => { s with evt := { s.evt with route := tset 0 s.evt.route n (v % 32 + 256 * b2n (bit v 8)) } }
  | _, some k, _ => pendClear k v s
  | _, _, some n => { s with evt := { s.evt with holdoff := tset 0 s.evt.holdoff n (v % 65536) } }
  | none, none, none => if 0x8000 ≤ o ∧ o < 0x8200 then msixWrite (o - 0x8000) v s else s

/-- RW1C write of DEV_ACCESS_ERR (R34). -/
def accErrClear (v : Nat) (s : State) : State :=
  if bit v 31 then { s with dev := { s.dev with accValid := false } } else s

/-! ### Service Port messages through the window (R510, R511, R525) -/

/-- Debug access levels (R466). -/
def dbgNeeds : DbgAccess → Nat
  | .readReg _ | .readLog _ | .readBank => 1
  | .readMem _ _ | .writeMem _ _ | .halt _ | .step _ | .resume _ => 2
  | .test => 3

/-- The session standing, as an entry may use it: not while the port's bus master is frozen (R465–R467). DEDUCED: log entry 26. -/
def dbgSession (entry : Nat) (a : DbgAccess) (s : State) : Option Debug :=
  match s.sec.session with
  | some d => if d.entry = entry ∧ dbgNeeds a ≤ d.level ∧ !frozen s 5 then some d else none
  | none => none

/-- The session's state with its halted cores changed. -/
def setHalted (d : Debug) (h : BitVec 4) (s : State) : State := { s with sec := { s.sec with session := some { d with halted := h } } }

/-- Bytes of SRAM or DRAM as a debug session reads them: what one has written, free values elsewhere. DESIGN CHOICE: log entry 27. -/
def dbgBytes (addr len : Nat) (s : State) : List Byte :=
  (List.range len).map (fun k =>
    let v := tget 0 s.sec.dbgMem (addr + k)
    BitVec.ofNat 8 (if v = 0 then Config.freeNat (s.free + k) else v - 1))

/-- A memory access of the port that the firewall does not grant: master 5 freezes, which ends the session (R465, R467). -/
def dbgRefused (write : Bool) (addr : Nat) (s : State) : SvcRes :=
  { status := .denied, st := endDebug 5 (captureViolation 5 write addr s) }

/-- A memory access of the port to DRAM whose controller has lost its clock (R31, R32). -/
def memDark (addr : Nat) (s : State) : Bool := !memUp s && Config.dramAddr addr

/-- A debug access (R32, R466). DEDUCED: log entry 26. -/
def svcDebug (entry : Nat) (a : DbgAccess) (s : State) : SvcRes :=
  match dbgSession entry a s with
  | none => { status := .denied, st := s }
  | some d =>
    match a with
    | .readReg r =>
      if darkAt s r then { status := .poweredDown, payload := zeros 4, st := darkAccess 3 r s }
      else { status := .ok, payload := leBytes 4 (regValue s r), st := if isRc r then regClear r s else s }
    | .readLog first =>
      if dark s .log then { status := .poweredDown, payload := zeros 32, st := darkAccess 3 0xE0000 s }
      else
        let got := (s.log.mem.reverse.filter (fun r => decide (first ≤ r.seq))).take 127
        let bad := got.any (fun r => s.log.badWords.contains r.seq)
        let t := { s with free := s.free + 32 }
        { status := if bad then .poisoned else .ok, arg := got.length, payload := (got.map (readRec s)).flatten
          st := t }
    | .readBank => { status := .ok, payload := bankBytes s, st := s }
    | .readMem addr len =>
      if 4080 < len then { status := .badParam, st := s }
      else if !granted s 5 addr len false then dbgRefused false addr s
      else if memDark addr s then { status := .poweredDown, payload := zeros len, st := darkAccess 3 addr s }
      else { status := .ok, payload := dbgBytes addr len s, st := { s with free := s.free + len } }
    | .writeMem addr bytes =>
      if 4080 < bytes.length then { status := .badParam, st := s }
      else if !granted s 5 addr bytes.length true then dbgRefused true addr s
      else if memDark addr s then { status := .poweredDown, st := darkAccess 3 addr s }
      else { status := .ok, st := { s with sec := { s.sec with
          dbgMem := bytes.zipIdx.foldl (fun t b => tset 0 t (addr + b.2) (b.1.toNat + 1)) s.sec.dbgMem } } }
    | .halt c => { status := .ok, st := setHalted d (setBit d.halted c.val) s }
    | .step c => if d.halted.getLsbD c.val then { status := .ok, st := s } else { status := .refusedState, st := s }
    | .resume c => { status := .ok, st := setHalted d (clrBit d.halted c.val) s }
    | .test => { status := .denied, st := s }

/-- The level-3 accesses the spec names without an effect (R466). -/
def isTest (entry : Nat) (a : DbgAccess) (s : State) : Bool :=
  a == .test && svcOpen entry s && (dbgSession entry a s).isSome

/-- The bytes of DEV_SVC_OUT. -/
def svcOut (len : Nat) (s : State) : List Byte :=
  (((List.range ((len + 3) / 4)).map (fun k => leBytes 4 (tget 0 s.svc.outWin k))).flatten).take len

/-- A request of the pass-through entry from its bytes (R511, R512); `x` is what the payload of an exchange of R466 or R467 spells.
DESIGN CHOICE: log entry 19. DEDUCED: log entry 28. -/
def svcRequest (m : List Byte) (x : Option SvcExch) (s : State) : State :=
  let op := byteAt m 2
  let tag := BitVec.ofNat 16 (ofLe (slice m 4 2))
  let arg := dwordAt m 12
  let body := m.drop 16
  let bad := decide (m.length < 16 ∨ ofLe (slice m 0 2) ≠ 0x53C7 ∨ byteAt m 3 ≠ 0 ∨ ofLe (slice m 6 2) ≠ 0 ∨ dwordAt m 8 ≠ body.length)
  let run := fun (f : State → SvcRes) => svcRun 1 op tag f s
  if bad then run (fun t => { status := .badParam, st := t })
  else match op with
  | 1 => run svcIdentify
  | 2 => run (svcLock 1 body)
  | 3 => run (svcData 1 arg body)
  | 4 => svcDoneRun 1 tag (bit arg 0) s
  | 5 => run (svcRelease 1)
  | 6 => run svcDisarm
  | _ =>
    if 0x20 ≤ op ∧ op < 0x40 then
      match x with
      | some .challenge => run svcChallenge
      | some (.token level b) => run (svcToken 1 level.toNat b)
      | some (.provision p) => run (svcProvision p)
      | some (.access a) => run (svcDebug 1 a)
      | none => run (fun t => { status := .unknownOpcode, st := t })
    else run (fun t => { status := .unknownOpcode, st := t })

/-- A write to DEV_SVC_OUT_LEN submits the message in the window (R525); more than the window holds is refused. DEDUCED: log entry 28. -/
def svcSubmit (len : Nat) (x : Option SvcExch) (s : State) : State := svcRequest (if len ≤ 4096 then svcOut len s else []) x s

/-- The exchange of a level-3 test access is submitted. -/
def submitsTest (len : Nat) (x : Option SvcExch) (s : State) : Bool :=
  let m := svcOut len s
  !dark s .dev && decide (16 ≤ len ∧ len ≤ 4096 ∧ ofLe (slice m 0 2) = 0x53C7 ∧ byteAt m 3 = 0 ∧ ofLe (slice m 6 2) = 0 ∧
    dwordAt m 8 = len - 16 ∧ 0x20 ≤ byteAt m 2 ∧ byteAt m 2 < 0x40) &&
  (match x with | some (.access a) => isTest 1 a s | _ => false)

/-! ### The write of any register -/

def devWrite (o v : Nat) (s : State) : State :=
  match o with
  | 0x20 => { s with dev := { s.dev with scratch := v } }
  | 0x40 => accErrClear v s
  | 0x204 => healthTouch { s with svc := { s.svc with hostMoving := bit v 0, holdConfirm := bit v 1 } }
  | 0x214 => if v = 0xFA11BAC4 ∧ s.svc.upd = .trial then requestRevert 7 s else s
  | 0x220 => svcSubmit v none s
  | 0x228 => { s with svc := { s.svc with replies := s.svc.replies.tail } }
  | _ => if 0x1000 ≤ o ∧ o < 0x2000 ∧ o % 4 = 0 then { s with svc := { s.svc with outWin := tset 0 s.svc.outWin ((o - 0x1000) / 4) v } } else s

/-- What a write changes in a block that is not dark; read-only and unlisted offsets ignore it (R14, R342). DEDUCED: log entry 29. -/
def blkWrite (b : Blk) (o v : Nat) (s : State) : State :=
  match b with
  | .dev => devWrite o v s
  | .hop => if o < 0x400 then hopWrite (o / 0x40) (o % 0x40) v s else s
  | .evt => evtWrite o v s
  | .fan => if o = 4 then snapTake v s else s
  | .ing => if o = 0xF000 then paceCtrl v s
    else if o = 0xF010 then { s with dev := { s.dev with paceFloor := v % 65536 } } else s
  | .sec => if o = 0x1C ∧ bit v 31 then { s with sec := { s.sec with violValid := false } }
    else if o = 0x28 then fwReleaseWrite v s else s
  | _ => s

/-- A BAR0 write (R32, R342): partial ones are dropped and counted, those to a dark block captured. DEDUCED: log entry 22. -/
def bar0Write (a v : Nat) (be : Byte) (s : State) : State :=
  let s1 := if be ≠ 0xF then badAccess s else s
  match blkAt a with
  | none => s1
  | some b => if dark s b then darkAccess 0 a s1 else if be ≠ 0xF then s1 else blkWrite b (a % 0x10000) v s1

/-- A BAR2 write (R79): counted and discarded; a dark Ledger counts nothing (R32). DEDUCED: log entry 22. -/
def bar2Write_ (a : Nat) (s : State) : State :=
  if dark s .ldg then darkAccess 1 a s else { s with led := { s.led with wrDrop := sat32 (s.led.wrDrop + 1) } }

/-- An access on one of the buses of R34 to a block: to a dark one as R32 says; one that is not dark answers the host's reads as it always
does (R14, R80). DESIGN CHOICE: log entry 101. -/
def darkBlock (bus : Nat) (b : Blk) (write : Bool) (a : Nat) (s : State) : State :=
  if !dark s b && !(bus == 4 && memDark a s) then
    (if write then s else if bus = 0 then bar0Read a s else if bus = 1 ∧ b = .ldg ∧ !hidden s then bar2Read a s else s)
  else match bus with
  | 0 | 1 => if write then darkAccess bus a s else emit (.regRead a 0xFFFFFFFF) (darkAccess bus a s)
  | 2 => if write then darkAccess bus a s else emit (.mgmt [9, 0xFF]) (darkAccess bus a s)
  | _ => emit (.darkReply bus 9 (if write then [] else zeros 4)) (darkAccess bus a s)

/-! ### The MGMT bus (R499, R500) -/

/-- The role as the MGMT bus tells it, the watcher, and BRK_PROOF. -/
def mgmtBrake (s : State) : List Byte :=
  leBytes 4 (roleCode s.brk.role + 8 * b2n s.brk.armed + 16 * b2n s.brk.fired) ++ leBytes 4 (brkProof s)

/-- The bytes of an AON register. DEDUCED: log entry 25. -/
def mgmtAon (s : State) : Nat → Option (List Byte)
  | 0x00 => some (leBytes 4 0x7810 ++ leBytes 4 Config.deviceId)
  | 0x01 => some (leBytes 4 (pwrStatus s))
  | 0x02 => some (leBytes 4 (pwrWake s) ++ leBytes 4 s.pwr.resetCause)
  | 0x03 => some (leBytes 4 (b2n (!safePin s) + 2 * b2n s.pwr.wakeFault + 4 * (s.pwr.safeFirst % 256)))
  | 0x04 => some (mgmtBrake s)
  | 0x05 => some (leBytes 8 (rtcNow s / 32768 % 2 ^ 48 + rtcNow s % 32768 * 2 ^ 48 + b2n s.pwr.rtcValid * 2 ^ 63))
  | 0x06 => some (bankBytes s)
  | _ => none

/-- A MGMT read of `n` data bytes: the status byte, then the register's bytes, least significant first; beyond its end the bytes
are free. DEDUCED: log entry 25. -/
def mgmtRead_ (r n : Nat) (s : State) : State :=
  let serve := fun (l : List Byte) (t : State) =>
    emit (.mgmt ((0 : Byte) :: (List.range n).map (fun k => l.getD k (BitVec.ofNat 8 (Config.freeNat (s.free + k)))))) { t with free := s.free + n }
  if hidden s ∧ r ≠ 0 then emit (.mgmt ((14 : Byte) :: List.replicate n 0xFF)) s
  else match mgmtAon s r with
  | some l => serve l s
  | none =>
    if r = 8 ∨ r = 9 then
      (if dark s .dev then emit (.mgmt ((9 : Byte) :: List.replicate n 0xFF)) (darkAccess 2 r s)
       else serve (leBytes 4 (if r = 8 then devStatus s else s.dev.fwVer)) s)
    else emit (.mgmt ((2 : Byte) :: List.replicate n 0xFF)) s

/-! ### Meanings -/

def execStatus (c : Ctx) (s : State) : Res := .next (command (.status c) true (fun t => .ok t (devStatus t) []) s)
/-- DESIGN CHOICE: log entry 10. -/
def execDebugAccess (entry : Fin 2) (tag : U16) (access : DbgAccess) (s : State) : Res :=
  if isTest entry.val access s then .refused .testAccess else .next (svcRun entry.val 0x23 tag (svcDebug entry.val access) s)
def execDevAccessErrClear (value : U32) (s : State) : Res := .next (regWrite .dev 0x40 (accErrClear value.toNat) s)
def execDevSvcOutLenWrite (value : U32) (exch : Option SvcExch) (s : State) : Res :=
  if submitsTest value.toNat exch s then .refused .testAccess else .next (regWrite .dev 0x220 (svcSubmit value.toNat exch) s)
def execRcRegisterRead (space : Space) (addr : U32) (s : State) : Res :=
  .next (match space with
    | .bar0 => bar0Read addr.toNat s
    | .bar4 => if dark s .hop then emit (.regRead addr.toNat 0xFFFFFFFF) (darkAccess 0 addr.toNat s) else emit (.regRead addr.toNat 0) s
    | .config => emit (.regRead addr.toNat (cfgHeader s addr.toNat)) s)
/-- A host write without a row of its own (R336, R337, R342, R343): a doorbell page ignores what is neither of its doorbells, and Max_Payload
and Max_Read_Request beyond what the function supports are not taken. PRESUMED: log entry 20. -/
def hostWrite (w : HostWr) (s : State) : State :=
  let cfg := fun (f : PcieRegs → PcieRegs) => { s with hop := { s.hop with pcie := f s.hop.pcie } }
  match w with
  | .bar0 a v be => bar0Write a.toNat v.toNat be s
  | .bar4 a v be => regWrite .hop a.toNat (fun s =>
    if a.toNat % 4096 = 0 ∧ a.toNat < 65536 then hqTail (a.toNat / 4096) v.toNat be s
    else if a.toNat % 4096 = 4 ∧ a.toNat < 65536 then bqHead (a.toNat / 4096) v.toNat be s
    else s) s
  | .command v => cfg (fun p => { p with command := v.toNat })
  | .bar n base => cfg (fun p => { p with bars := p.bars.set n base.toNat })
  | .msixControl en m => msixControl en m s
  | .deviceControl mps mrrs => cfg (fun p => { p with mps := min mps.val 2, mrrs := mrrs.val })
  | .aerClear v => cfg (fun p => { p with aerUnc := (BitVec.ofNat 32 p.aerUnc &&& ~~~v).toNat })

def execRegisterWrite (w : HostWr) (s : State) : Res := .next (hostWrite w s)
def execBar2Write (addr : U32) (s : State) : Res := .next (bar2Write_ addr.toNat s)
def execDarkBlockAccess (bus : Fin 5) (blk : Blk) (write : Bool) (addr : U32) (s : State) : Res :=
  .next (darkBlock bus.val blk write addr.toNat s)
def execMgmtRead (reg : Byte) (count : Nat) (s : State) : Res := .next (mgmtRead_ reg.toNat count s)
/-- Only WAKE_RETRY takes a write, with 0xA5 (R498, R499). -/
def execMgmtWrite (reg value : Byte) (s : State) : Res := .next (if reg = 0x10 ∧ value = 0xA5 then wake 8 s else s)

end Sys2Proof.Machine
end

