-- ==== Sys2Proof/Machine/Dispatch.lean ====
section
/-! DEFINITION. One arm per command: the meaning each command has. -/

namespace Sys2Proof.Machine

def exec (i : Instr) (s : State) : Host.Outcome State Fault Refusal :=
  match i with
  | .status c => Sys2Proof.Machine.execStatus c s
  | .ingestConfig c op ents => Sys2Proof.Machine.execIngestConfig c op ents s
  | .gatewaySet c gwId op af addr => Sys2Proof.Machine.execGatewaySet c gwId op af addr s
  | .exportSet c op af port addr => Sys2Proof.Machine.execExportSet c op af port addr s
  | .configSave c => Sys2Proof.Machine.execConfigSave c s
  | .bind c idx eui kind leg => Sys2Proof.Machine.execBind c idx eui kind leg s
  | .unbind c idx => Sys2Proof.Machine.execUnbind c idx s
  | .block c idx => Sys2Proof.Machine.execBlock c idx s
  | .unblock c idx => Sys2Proof.Machine.execUnblock c idx s
  | .coldRead c idx => Sys2Proof.Machine.execColdRead c idx s
  | .coldWrite c idx ofs => Sys2Proof.Machine.execColdWrite c idx ofs s
  | .ledgerConfig c op ents => Sys2Proof.Machine.execLedgerConfig c op ents s
  | .strangerDrain c max bad => Sys2Proof.Machine.execStrangerDrain c max bad s
  | .relay c ndg => Sys2Proof.Machine.execRelay c ndg s
  | .hostPend c idx set => Sys2Proof.Machine.execHostPend c idx set s
  | .nodeActivate c lvl num parent => Sys2Proof.Machine.execNodeActivate c lvl num parent s
  | .nodeDeactivate c lvl num => Sys2Proof.Machine.execNodeDeactivate c lvl num s
  | .nodeSet c lvl field value num => Sys2Proof.Machine.execNodeSet c lvl field value num s
  | .attach c idx leg => Sys2Proof.Machine.execAttach c idx leg s
  | .rejectProposal c idx phase => Sys2Proof.Machine.execRejectProposal c idx phase s
  | .nodeMove c lvl num parent => Sys2Proof.Machine.execNodeMove c lvl num parent s
  | .weirConfig c op ents => Sys2Proof.Machine.execWeirConfig c op ents s
  | .weirEnable c en => Sys2Proof.Machine.execWeirEnable c en s
  | .lossClass c lvl cls p0 k1 k2 tolFix tolPpm => Sys2Proof.Machine.execLossClass c lvl cls p0 k1 k2 tolFix tolPpm s
  | .nodeClass c lvl cls num => Sys2Proof.Machine.execNodeClass c lvl cls num s
  | .checkBind c idx lvl num => Sys2Proof.Machine.execCheckBind c idx lvl num s
  | .checkUnbind c idx => Sys2Proof.Machine.execCheckUnbind c idx s
  | .intervalResults c interval first count => Sys2Proof.Machine.execIntervalResults c interval first count s
  | .affinityTest c mode n ncand => Sys2Proof.Machine.execAffinityTest c mode n ncand s
  | .affinityAbort c all n => Sys2Proof.Machine.execAffinityAbort c all n s
  | .weirReportDrain c max bad => Sys2Proof.Machine.execWeirReportDrain c max bad s
  | .vaneConfig c op ents => Sys2Proof.Machine.execVaneConfig c op ents s
  | .scriptLoad c port script ntx => Sys2Proof.Machine.execScriptLoad c port script ntx s
  | .channel c port => Sys2Proof.Machine.execChannel c port s
  | .leatConfig c op ents => Sys2Proof.Machine.execLeatConfig c op ents s
  | .scheduleLoad c port nstep => Sys2Proof.Machine.execScheduleLoad c port nstep s
  | .slotRead c port first count => Sys2Proof.Machine.execSlotRead c port first count s
  | .slotAssign c port slot idx => Sys2Proof.Machine.execSlotAssign c port slot idx s
  | .slotRelease c port slot => Sys2Proof.Machine.execSlotRelease c port slot s
  | .tmOverride c port slot op tm => Sys2Proof.Machine.execTmOverride c port slot op tm s
  | .tailraceConfig c op ents => Sys2Proof.Machine.execTailraceConfig c op ents s
  | .tariffLoad c slot ver size => Sys2Proof.Machine.execTariffLoad c slot ver size s
  | .tariffAssign c slot n => Sys2Proof.Machine.execTariffAssign c slot n s
  | .campaignLoad c camp imgVer size => Sys2Proof.Machine.execCampaignLoad c camp imgVer size s
  | .campaignTarget c camp op kind n => Sys2Proof.Machine.execCampaignTarget c camp op kind n s
  | .campaignStart c camp deadline => Sys2Proof.Machine.execCampaignStart c camp deadline s
  | .campaignActivate c camp => Sys2Proof.Machine.execCampaignActivate c camp s
  | .campaignAbort c camp => Sys2Proof.Machine.execCampaignAbort c camp s
  | .campaignRelease c camp => Sys2Proof.Machine.execCampaignRelease c camp s
  | .campaignReload c camp size => Sys2Proof.Machine.execCampaignReload c camp size s
  | .setpoint c idx body cmp => Sys2Proof.Machine.execSetpoint c idx body cmp s
  | .setpointWithdraw c idx => Sys2Proof.Machine.execSetpointWithdraw c idx s
  | .recordRead c first count => Sys2Proof.Machine.execRecordRead c first count s
  | .taiReportDrain c max bad => Sys2Proof.Machine.execTaiReportDrain c max bad s
  | .flumeConfig c op ents => Sys2Proof.Machine.execFlumeConfig c op ents s
  | .channelConfig c ch role invert scale => Sys2Proof.Machine.execChannelConfig c ch role invert scale s
  | .dcBlocker c ch set load dc => Sys2Proof.Machine.execDcBlocker c ch set load dc s
  | .coefLoad c bank crc => Sys2Proof.Machine.execCoefLoad c bank crc s
  | .bankSwap c f => Sys2Proof.Machine.execBankSwap c f s
  | .decimReset c => Sys2Proof.Machine.execDecimReset c s
  | .factoryCal c ch rcd => Sys2Proof.Machine.execFactoryCal c ch rcd s
  | .userCal c ch rcd => Sys2Proof.Machine.execUserCal c ch rcd s
  | .meteringPoint c point nelem ref alvl anum elems => Sys2Proof.Machine.execMeteringPoint c point nelem ref alvl anum elems s
  | .flumeIntervals c point first count => Sys2Proof.Machine.execFlumeIntervals c point first count s
  | .fantailConfig c op ents => Sys2Proof.Machine.execFantailConfig c op ents s
  | .timeSet c sec nsec => Sys2Proof.Machine.execTimeSet c sec nsec s
  | .timeForce c mode src sec nsec => Sys2Proof.Machine.execTimeForce c mode src sec nsec s
  | .utcOffset c ofs leap => Sys2Proof.Machine.execUtcOffset c ofs leap s
  | .ptpTransmit c port mode id len => Sys2Proof.Machine.execPtpTransmit c port mode id len s
  | .stampDrain c max bad => Sys2Proof.Machine.execStampDrain c max bad s
  | .granaryConfig c op ents => Sys2Proof.Machine.execGranaryConfig c op ents s
  | .hmrSet c size base => Sys2Proof.Machine.execHmrSet c size base s
  | .archiveRead c ofs hmrReads => Sys2Proof.Machine.execArchiveRead c ofs hmrReads s
  | .mediaStatus c ch => Sys2Proof.Machine.execMediaStatus c ch s
  | .format c ch confirm => Sys2Proof.Machine.execFormat c ch confirm s
  | .brakeConfig c op ents => Sys2Proof.Machine.execBrakeConfig c op ents s
  | .claimSet c op level => Sys2Proof.Machine.execClaimSet c op level s
  | .checkpoint c => Sys2Proof.Machine.execCheckpoint c s
  | .keyLoad c idx klen => Sys2Proof.Machine.execKeyLoad c idx klen s
  | .deviceKey c which klen => Sys2Proof.Machine.execDeviceKey c which klen s
  | .lifecycle c target => Sys2Proof.Machine.execLifecycle c target s
  | .firewallRule c rule master perm base size => Sys2Proof.Machine.execFirewallRule c rule master perm base size s
  | .firewallRelease c master => Sys2Proof.Machine.execFirewallRelease c master s
  | .powerState c target => Sys2Proof.Machine.execPowerState c target s
  | .wakeConfig c addr src => Sys2Proof.Machine.execWakeConfig c addr src s
  | .reset c kind => Sys2Proof.Machine.execReset c kind s
  | .logRead c start max bad => Sys2Proof.Machine.execLogRead c start max bad s
  | .logView c op bad => Sys2Proof.Machine.execLogView c op bad s
  | .logConfig c op ents => Sys2Proof.Machine.execLogConfig c op ents s
  | .logRestart c => Sys2Proof.Machine.execLogRestart c s
  | .lastgasp c op => Sys2Proof.Machine.execLastgasp c op s
  | .nop c params => Sys2Proof.Machine.execNop c params s
  | .laneStop c lane => Sys2Proof.Machine.execLaneStop c lane s
  | .laneRestart c lane pass => Sys2Proof.Machine.execLaneRestart c lane pass s
  | .selfTest c test arg code => Sys2Proof.Machine.execSelfTest c test arg code s
  | .faultClear c cause pass => Sys2Proof.Machine.execFaultClear c cause pass s
  | .queueFlush c qid => Sys2Proof.Machine.execQueueFlush c qid s
  | .identify entry tag => Sys2Proof.Machine.execIdentify entry tag s
  | .lock entry tag header => Sys2Proof.Machine.execLock entry tag header s
  | .data entry tag arg bytes => Sys2Proof.Machine.execData entry tag arg bytes s
  | .done entry tag reboot => Sys2Proof.Machine.execDone entry tag reboot s
  | .release entry tag => Sys2Proof.Machine.execRelease entry tag s
  | .disarm entry tag => Sys2Proof.Machine.execDisarm entry tag s
  | .debugChallenge entry tag => Sys2Proof.Machine.execDebugChallenge entry tag s
  | .debugToken entry tag level token => Sys2Proof.Machine.execDebugToken entry tag level token s
  | .provisioningSession entry tag what => Sys2Proof.Machine.execProvisioningSession entry tag what s
  | .debugAccess entry tag access => Sys2Proof.Machine.execDebugAccess entry tag access s
  | .hqTailWrite pair value be => Sys2Proof.Machine.execHqTailWrite pair value be s
  | .bqHeadWrite pair value be => Sys2Proof.Machine.execBqHeadWrite pair value be s
  | .qpEnable pair value => Sys2Proof.Machine.execQpEnable pair value s
  | .qpDisable pair value => Sys2Proof.Machine.execQpDisable pair value s
  | .evtPendClear word value => Sys2Proof.Machine.execEvtPendClear word value s
  | .devAccessErrClear value => Sys2Proof.Machine.execDevAccessErrClear value s
  | .secFwViolInfoClear value => Sys2Proof.Machine.execSecFwViolInfoClear value s
  | .fanSnapTake value => Sys2Proof.Machine.execFanSnapTake value s
  | .secFwReleaseWrite value => Sys2Proof.Machine.execSecFwReleaseWrite value s
  | .devUpdRevertWrite value => Sys2Proof.Machine.execDevUpdRevertWrite value s
  | .devUpdHoldWrite value => Sys2Proof.Machine.execDevUpdHoldWrite value s
  | .devSvcOutLenWrite value exch => Sys2Proof.Machine.execDevSvcOutLenWrite value exch s
  | .devSvcInAckWrite value => Sys2Proof.Machine.execDevSvcInAckWrite value s
  | .paceCtrlWrite value => Sys2Proof.Machine.execPaceCtrlWrite value s
  | .msixVectorUnmask vec => Sys2Proof.Machine.execMsixVectorUnmask vec s
  | .rcRegisterRead space addr => Sys2Proof.Machine.execRcRegisterRead space addr s
  | .registerWrite w => Sys2Proof.Machine.execRegisterWrite w s
  | .bar2Write addr => Sys2Proof.Machine.execBar2Write addr s
  | .darkBlockAccess bus blk write addr => Sys2Proof.Machine.execDarkBlockAccess bus blk write addr s
  | .mgmtRead reg count => Sys2Proof.Machine.execMgmtRead reg count s
  | .mgmtWrite reg value => Sys2Proof.Machine.execMgmtWrite reg value s
  | .powerOn unitId => Sys2Proof.Machine.execPowerOn unitId s
  | .systemReset => Sys2Proof.Machine.execSystemReset s
  | .hostReset => Sys2Proof.Machine.execHostReset s
  | .d3hotEntry => Sys2Proof.Machine.execD3hotEntry s
  | .d0Return => Sys2Proof.Machine.execD0Return s
  | .bootChain suite format => Sys2Proof.Machine.execBootChain suite format s
  | .wakeEvent cause => Sys2Proof.Machine.execWakeEvent cause s
  | .wakeAttemptTimeout pll => Sys2Proof.Machine.execWakeAttemptTimeout pll s
  | .wakeRetryTimer => Sys2Proof.Machine.execWakeRetryTimer s
  | .wakeComplete => Sys2Proof.Machine.execWakeComplete s
  | .powerEntryStep => Sys2Proof.Machine.execPowerEntryStep s
  | .bkpActiveRise => Sys2Proof.Machine.execBkpActiveRise s
  | .tiltMoving => Sys2Proof.Machine.execTiltMoving s
  | .usbDetach => Sys2Proof.Machine.execUsbDetach s
  | .clockLoss dom => Sys2Proof.Machine.execClockLoss dom s
  | .clockRestore dom => Sys2Proof.Machine.execClockRestore dom s
  | .stageWatchdogTrip unit stage rerun => Sys2Proof.Machine.execStageWatchdogTrip unit stage rerun s
  | .paceWindowEnd => Sys2Proof.Machine.execPaceWindowEnd s
  | .paceSpeedRefresh speed => Sys2Proof.Machine.execPaceSpeedRefresh speed s
  | .ingLoadRefresh => Sys2Proof.Machine.execIngLoadRefresh s
  | .headraceDatagram d => Sys2Proof.Machine.execHeadraceDatagram d s
  | .nackDatagram d => Sys2Proof.Machine.execNackDatagram d s
  | .laneDraw => Sys2Proof.Machine.execLaneDraw s
  | .sluiceVerdict lane agree poison => Sys2Proof.Machine.execSluiceVerdict lane agree poison s
  | .seenCacheInsert lane => Sys2Proof.Machine.execSeenCacheInsert lane s
  | .quernAuth lane => Sys2Proof.Machine.execQuernAuth lane s
  | .keyUnwrapDone lane ok => Sys2Proof.Machine.execKeyUnwrapDone lane ok s
  | .bolterRules lane => Sys2Proof.Machine.execBolterRules lane s
  | .ledgerUpdate lane bad => Sys2Proof.Machine.execLedgerUpdate lane bad s
  | .rateTokenRefill code => Sys2Proof.Machine.execRateTokenRefill code s
  | .entryRebuild idx => Sys2Proof.Machine.execEntryRebuild idx s
  | .rebuildFreeCleanup idx => Sys2Proof.Machine.execRebuildFreeCleanup idx s
  | .absenceSweep => Sys2Proof.Machine.execAbsenceSweep s
  | .seenCacheWalk => Sys2Proof.Machine.execSeenCacheWalk s
  | .gwAckSend => Sys2Proof.Machine.execGwAckSend s
  | .batchTimeout => Sys2Proof.Machine.execBatchTimeout s
  | .counterReserveRecord which => Sys2Proof.Machine.execCounterReserveRecord which s
  | .vanePpduReceived port ppdu => Sys2Proof.Machine.execVanePpduReceived port ppdu s
  | .iqSyncLoss port words => Sys2Proof.Machine.execIqSyncLoss port words s
  | .iqLock port words => Sys2Proof.Machine.execIqLock port words s
  | .ackCutoff port arriving => Sys2Proof.Machine.execAckCutoff port arriving s
  | .vaneTxEnd port => Sys2Proof.Machine.execVaneTxEnd port s
  | .csmaComplete port cca shr air => Sys2Proof.Machine.execCsmaComplete port cca shr air s
  | .vaneAckWaitExpiry port => Sys2Proof.Machine.execVaneAckWaitExpiry port s
  | .beaconDue port => Sys2Proof.Machine.execBeaconDue port s
  | .beaconDrop port => Sys2Proof.Machine.execBeaconDrop port s
  | .relayTime bad => Sys2Proof.Machine.execRelayTime bad s
  | .relayLateDrop port => Sys2Proof.Machine.execRelayLateDrop port s
  | .spiTransactionDone port miso => Sys2Proof.Machine.execSpiTransactionDone port miso s
  | .upstreamDeadline => Sys2Proof.Machine.execUpstreamDeadline s
  | .afeSyncLoss port words => Sys2Proof.Machine.execAfeSyncLoss port words s
  | .leatStepStart port => Sys2Proof.Machine.execLeatStepStart port s
  | .pollSend port idle => Sys2Proof.Machine.execPollSend port idle s
  | .responseReceived port rx => Sys2Proof.Machine.execResponseReceived port rx s
  | .responseLost port fch => Sys2Proof.Machine.execResponseLost port fch s
  | .phaseWrite => Sys2Proof.Machine.execPhaseWrite s
  | .discAnswerReceived port rx => Sys2Proof.Machine.execDiscAnswerReceived port rx s
  | .discoveryEnd port => Sys2Proof.Machine.execDiscoveryEnd port s
  | .idleStepEnd port => Sys2Proof.Machine.execIdleStepEnd port s
  | .plcAfeCalibrationDone port => Sys2Proof.Machine.execPlcAfeCalibrationDone port s
  | .tmRefreshDue port slot => Sys2Proof.Machine.execTmRefreshDue port slot s
  | .confirmProcess => Sys2Proof.Machine.execConfirmProcess s
  | .pendFlagWrite idx => Sys2Proof.Machine.execPendFlagWrite idx s
  | .tdfMacOutcome => Sys2Proof.Machine.execTdfMacOutcome s
  | .tariffSweepDone => Sys2Proof.Machine.execTariffSweepDone s
  | .setpointRetry idx cmp => Sys2Proof.Machine.execSetpointRetry idx cmp s
  | .setpointExpire idx => Sys2Proof.Machine.execSetpointExpire idx s
  | .announceElapsed camp => Sys2Proof.Machine.execAnnounceElapsed camp s
  | .fragGapSend path => Sys2Proof.Machine.execFragGapSend path s
  | .campaignDeadline camp => Sys2Proof.Machine.execCampaignDeadline camp s
  | .abortHoldElapsed camp => Sys2Proof.Machine.execAbortHoldElapsed camp s
  | .repairResend entry => Sys2Proof.Machine.execRepairResend entry s
  | .modulatorStuck ch bits => Sys2Proof.Machine.execModulatorStuck ch bits s
  | .channelRestore ch bits => Sys2Proof.Machine.execChannelRestore ch bits s
  | .msyncRise => Sys2Proof.Machine.execMsyncRise s
  | .settlingEnd => Sys2Proof.Machine.execSettlingEnd s
  | .fadeComplete => Sys2Proof.Machine.execFadeComplete s
  | .flumeSecondEnd bits => Sys2Proof.Machine.execFlumeSecondEnd bits s
  | .zeroCrossing phase bits => Sys2Proof.Machine.execZeroCrossing phase bits s
  | .flumeIntervalClose badCal badBank bits => Sys2Proof.Machine.execFlumeIntervalClose badCal badBank bits s
  | .weirPartAccumulate => Sys2Proof.Machine.execWeirPartAccumulate s
  | .intervalEnd => Sys2Proof.Machine.execIntervalEnd s
  | .lateWindowEnd => Sys2Proof.Machine.execLateWindowEnd s
  | .closeComplete us again bad => Sys2Proof.Machine.execCloseComplete us again bad s
  | .affinityTestEnd idx => Sys2Proof.Machine.execAffinityTestEnd idx s
  | .ptpMessageReceived port domain transport frac msg => Sys2Proof.Machine.execPtpMessageReceived port domain transport frac msg s
  | .delayReqSend frac => Sys2Proof.Machine.execDelayReqSend frac s
  | .ptpTransparentForward ingress frame residence => Sys2Proof.Machine.execPtpTransparentForward ingress frame residence s
  | .ppsInEdge frac => Sys2Proof.Machine.execPpsInEdge frac s
  | .sourceLost src => Sys2Proof.Machine.execSourceLost src s
  | .switchHoldElapsed => Sys2Proof.Machine.execSwitchHoldElapsed s
  | .ppsOutPulse => Sys2Proof.Machine.execPpsOutPulse s
  | .rtcLoad => Sys2Proof.Machine.execRtcLoad s
  | .leapSecondEnd => Sys2Proof.Machine.execLeapSecondEnd s
  | .hopperFetch pair packets => Sys2Proof.Machine.execHopperFetch pair packets s
  | .binReplyWrite pair pick parityBad => Sys2Proof.Machine.execBinReplyWrite pair pick parityBad s
  | .binAggTimer pair => Sys2Proof.Machine.execBinAggTimer pair s
  | .holdoffExpiry vec => Sys2Proof.Machine.execHoldoffExpiry vec s
  | .queueFlushBoundary qid => Sys2Proof.Machine.execQueueFlushBoundary qid s
  | .queueScrubVisit qid bad => Sys2Proof.Machine.execQueueScrubVisit qid bad s
  | .queueStall qid => Sys2Proof.Machine.execQueueStall qid s
  | .freezeTimeout bad => Sys2Proof.Machine.execFreezeTimeout bad s
  | .nandProgramDone ch what block ok => Sys2Proof.Machine.execNandProgramDone ch what block ok s
  | .nandEraseDone ch block ok => Sys2Proof.Machine.execNandEraseDone ch block ok s
  | .nandReadDone ch ppn corr patrol => Sys2Proof.Machine.execNandReadDone ch ppn corr patrol s
  | .journalTimer => Sys2Proof.Machine.execJournalTimer s
  | .arcFlushTimer => Sys2Proof.Machine.execArcFlushTimer s
  | .patrolRead ch => Sys2Proof.Machine.execPatrolRead ch s
  | .targetNotReady ch target => Sys2Proof.Machine.execTargetNotReady ch target s
  | .mountRebuildComplete ch ms found media => Sys2Proof.Machine.execMountRebuildComplete ch ms found media s
  | .hmrDmaError page => Sys2Proof.Machine.execHmrDmaError page s
  | .checkpointComplete ok => Sys2Proof.Machine.execCheckpointComplete ok s
  | .ckptPeriodTimer => Sys2Proof.Machine.execCkptPeriodTimer s
  | .busIdle => Sys2Proof.Machine.execBusIdle s
  | .claimRoundEnd seen presence => Sys2Proof.Machine.execClaimRoundEnd seen presence s
  | .claimLineFault cause slot => Sys2Proof.Machine.execClaimLineFault cause slot s
  | .claimWatcherFire oneLine => Sys2Proof.Machine.execClaimWatcherFire oneLine s
  | .restoreComplete newestOk prevOk => Sys2Proof.Machine.execRestoreComplete newestOk prevOk s
  | .proofTimer => Sys2Proof.Machine.execProofTimer s
  | .peerSilent => Sys2Proof.Machine.execPeerSilent s
  | .tokenLockoutEnd => Sys2Proof.Machine.execTokenLockoutEnd s
  | .debugLimitExpiry => Sys2Proof.Machine.execDebugLimitExpiry s
  | .comparatorSelfCheck stuck again gap => Sys2Proof.Machine.execComparatorSelfCheck stuck again gap s
  | .tbRateCheck cycles => Sys2Proof.Machine.execTbRateCheck cycles s
  | .tbMonitorStop => Sys2Proof.Machine.execTbMonitorStop s
  | .heartbeatMiss core restarted => Sys2Proof.Machine.execHeartbeatMiss core restarted s
  | .bankRotation bad again => Sys2Proof.Machine.execBankRotation bad again s
  | .safeNfaultReadback read again => Sys2Proof.Machine.execSafeNfaultReadback read again s
  | .safeStateClaimDrop => Sys2Proof.Machine.execSafeStateClaimDrop s
  | .loaderChunkDone ok => Sys2Proof.Machine.execLoaderChunkDone ok s
  | .healthConfirm => Sys2Proof.Machine.execHealthConfirm s
  | .trialWindowExpiry => Sys2Proof.Machine.execTrialWindowExpiry s
  | .trialTimerReset => Sys2Proof.Machine.execTrialTimerReset s
  | .stagingLockIdle => Sys2Proof.Machine.execStagingLockIdle s
  | .afeSyncLock port words => Sys2Proof.Machine.execAfeSyncLock port words s
  | .bkpActiveFall => Sys2Proof.Machine.execBkpActiveFall s
  | .tiltRelease => Sys2Proof.Machine.execTiltRelease s
  | .safeStateDrillEnd pass => Sys2Proof.Machine.execSafeStateDrillEnd pass s
  | .ptpFrameEgress port frac => Sys2Proof.Machine.execPtpFrameEgress port frac s
  | .dmaTransferCompletion pair what result => Sys2Proof.Machine.execDmaTransferCompletion pair what result s
  | .sramScrub found => Sys2Proof.Machine.execSramScrub found s
  | .rampEnd => Sys2Proof.Machine.execRampEnd s
  | .usbAttach => Sys2Proof.Machine.execUsbAttach s
  | .supplyLoss aon => Sys2Proof.Machine.execSupplyLoss aon s

end Sys2Proof.Machine
end

