-- ==== Sys2Proof/Machine/Step.lean ====
section
/-! DEFINITION. One step: the command at the front of the queue runs, or, on an empty queue, one TB period passes. -/

namespace Sys2Proof.Machine

/-- The waiting command at the front is taken and run with the rest of the queue; an empty queue lets one TB period of 2.5 ns pass
(log entry 1). DESIGN CHOICE: log entries 1, 7, 31. -/
def step (s : State) : Host.Outcome State Fault Refusal :=
  match s.pending with
  | [] => .next (tick s)
  | i :: rest => exec i { s with pending := rest }

/-- The command a table word spells, put at the front of the queue; unchanged where the word spells none. -/
def State.withFetchWord (s : State) (nbits w : Nat) : State :=
  match decodeTableWord nbits w with
  | some i => { s with pending := i :: s.pending }
  | none => s

end Sys2Proof.Machine
end

