-- ==== Sys2Proof/Safety.lean ====
section
/-! DEFINITION. The invariants of the block and the conditions under which a command runs, in the terms the statements use. -/

namespace Sys2Proof.Machine

/-- A host command runs its body and its transfer goes through (R355, R351, R365, R366, R464, R465): it is the packet that starts next in its
pair, its own transfer has not failed, the DMA engine that carries its transfer or fills its Host Map Region may run (R338) and may write the
host buffers of an "out" transfer, the group is not gated and its block not dark. -/
def accepts (i : Instr) (s : State) : Bool :=
  match hostCmd i with
  | none => false
  | some k => startable k s && (!pcieHeld s || !needsDma k) && (xfault k.c s).isNone && (gate k.op s).isNone &&
      (outBuffers k.c s).all (fun b => granted s 4 b.1 b.2 true)

/-- The state conditions under which a configuration set is taken (R135, R152, R372, R426): the export ring's size only while export
is paused, COLD_SIZE only while every entry is FREE, INT_LEN and HISTORY only while the Weir is disabled, ARC_RING only while the ring
is empty. -/
def settable (g : Grp) (ents : List CfgEntry) (s : State) : Bool :=
  match g with
  | .device => !sets ents 11 || s.ing.paused
  | .ledger => !sets ents 2 || s.led.entries.all (fun e => e.2.state == .free)
  | .weir => !s.wei.en || (!sets ents 0 && !sets ents 2)
  | .granary => !sets ents 4 || decide (ringDepth s = 0)
  | _ => true

/-- The configuration commands, by group (R367). -/
def cfgCommands : List (Grp × (Ctx → Byte → List CfgEntry → Instr)) :=
  [(.device, .ingestConfig), (.ledger, .ledgerConfig), (.weir, .weirConfig), (.vane, .vaneConfig), (.leat, .leatConfig),
   (.tailrace, .tailraceConfig), (.flume, .flumeConfig), (.fantail, .fantailConfig), (.granary, .granaryConfig),
   (.brake, .brakeConfig), (.recorder, .logConfig)]

/-- The pending bit of an event source (R357). -/
def raised (c : Nat) (s : State) : Bool := s.evt.pend.getLsbD c

/-- Groups are enabled only while the claim is held (R432, R434). -/
def Gated (s : State) : Prop := s.brk.hold = false → s.brk.groups = 0

end Sys2Proof.Machine
end

