-- ==== Sys2Proof/Certificates/Slice0/Obligations.lean ====
section
/-! DEFINITION. The statements for the provers. -/

open Sys2Proof Sys2Proof.Machine

/-- For every command c and state s, the step of s with c at the front of its queue is exec of c on s with the queue's rest, and
the step of a state with an empty queue lets one TB period of 2.5 ns pass (the model's choice, log entry 1): only the time base,
the count of PPS edges that did not come (R334) and a decimator reset that waits for its MOD_CLK edge (R289, log entry 117) can change, and
the time value is that of the next period whether or not the anchor follows, as it does within a second. Every command in every state
answers a next state, but the level-3 test access that the spec names without an effect (R466, log entry 10), and that only from its two
entries. (10_hopper_host_interface.md R348, R361) -/
def Obligations.step_runs_front : Prop :=
  (∀ (c : Instr) (l : List Instr) (s : State), step { s with pending := c :: l } = exec c { s with pending := l }) ∧
  (∀ s : State, s.pending = [] → s.flu.resetDue = none → ∃ t, step s = .next t ∧
    t = { s with elapsed := s.elapsed + 1, fan := t.fan, rc := t.rc } ∧ (∀ a, a ≠ 0x30048 → cnt a t = cnt a s) ∧
    nowFix t = nowFix { s with elapsed := s.elapsed + 1 } ∧
    ((rawCount { s with elapsed := s.elapsed + 1 } + 2 ^ 48 - s.fan.baseRaw) % 2 ^ 48 < tickS → t.fan = s.fan)) ∧
  (∀ s : State, s.pending = [] → ∃ t, step s = .next t ∧ t.elapsed = s.elapsed + 1 ∧ t.pending = []) ∧
  ∀ (c : Instr) (s : State), (∃ t, exec c s = .next t) ∨ (exec c s = .refused .testAccess ∧
    ((∃ e g a, c = .debugAccess e g a ∧ isTest e.val a s = true) ∨ ∃ v x, c = .devSvcOutLenWrite v x ∧ submitsTest v.toNat x s = true))

/-- HQ_TAIL_WRITE, BQ_HEAD_WRITE, QP_ENABLE and QP_DISABLE on a host interface alight. A whole-dword HQ_TAIL write below the queue's size
gives an enabled pair its new tail; on a pair that is not enabled it changes nothing; one of the queue's size or more, and any partial
doorbell write, changes nothing but DEV_BAD_ACCESS, which counts it. A whole-dword BQ_HEAD write of the value k slots on from the device's
head view releases k replies, for k up to the unreleased ones; on a full ring, where BQ_TAIL is the head view, that value releases them all
(the model's reading, log entry 18); with IEN set and replies left it signals the pair's vector at once; a value beyond BQ_TAIL or not below
the queue's size changes nothing. EN written 1 to a DISABLED pair with aligned bases and both LOG2 sizes 4 to 12 enables it with heads,
tails and CAUSE zero and next BSEQ 1; otherwise EN reads 0 and CAUSE is 3; on any other pair it changes PRIO, VECTOR and IEN alone, and
signals the vector where notification then falls due. EN written 0 moves an ENABLED or FAULTED pair to DRAINING, a FAULTED one without its
unwritten replies; a DISABLED or DRAINING one keeps its state. PRIO, VECTOR and IEN are taken from the same write; no other state
changes. On a dark host interface each of the four is captured and changes nothing else. (R343, R348, R353, R354, R346, R32) -/
def Obligations.doorbells_and_pairs : Prop :=
 ((∀ (p : Fin 16) (v : U32) (s : State), dark s .hop = false → bits v.toNat 0 12 < hqSize (pair s p.val) →
    (pair s p.val).st = .enabled →
    exec (.hqTailWrite p v 0xF) s = .next (setPair p.val { pair s p.val with hqTail := bits v.toNat 0 12 } s)) ∧
  (∀ (p : Fin 16) (v : U32) (s : State), dark s .hop = false → bits v.toNat 0 12 < hqSize (pair s p.val) →
    (pair s p.val).st ≠ .enabled → exec (.hqTailWrite p v 0xF) s = .next s) ∧
  (∀ (p : Fin 16) (v : U32) (be : Byte) (s : State), dark s .hop = false →
    be ≠ 0xF ∨ hqSize (pair s p.val) ≤ bits v.toNat 0 12 → exec (.hqTailWrite p v be) s = .next (bump 0x30 1 s)) ∧
  (∀ (p : Fin 16) (v : U32) (be : Byte) (s : State), dark s .hop = false → be ≠ 0xF → exec (.bqHeadWrite p v be) s = .next (bump 0x30 1 s)) ∧
  (∀ (p : Fin 16) (v : U32) (s : State) (k : Nat), dark s .hop = false → k ≤ (pair s p.val).unreleased → k < bqSize (pair s p.val) →
    (k = 0 → (pair s p.val).unreleased ≠ bqSize (pair s p.val)) →
    bits v.toNat 0 12 = ((pair s p.val).bqTail + bqSize (pair s p.val) - (pair s p.val).unreleased % bqSize (pair s p.val) + k)
      % bqSize (pair s p.val) →
    let t := setPair p.val { pair s p.val with unreleased := (pair s p.val).unreleased - k } s
    exec (.bqHeadWrite p v 0xF) s = .next
      (if (pair s p.val).ien = true ∧ k < (pair s p.val).unreleased then
        signal (pair s p.val).vector (setPair p.val { pair s p.val with unreleased := (pair s p.val).unreleased - k, unsig := 0 } t)
      else t)) ∧
  (∀ (p : Fin 16) (v : U32) (s : State), dark s .hop = false → (pair s p.val).unreleased = bqSize (pair s p.val) →
    (pair s p.val).bqTail < bqSize (pair s p.val) → bits v.toNat 0 12 = (pair s p.val).bqTail →
    exec (.bqHeadWrite p v 0xF) s = .next (setPair p.val { pair s p.val with unreleased := 0 } s)) ∧
  (∀ (p : Fin 16) (v : U32) (s : State), dark s .hop = false → bqSize (pair s p.val) ≤ bits v.toNat 0 12 →
    exec (.bqHeadWrite p v 0xF) s = .next s) ∧
  (∀ (p : Fin 16) (v : U32) (s : State) (k : Nat), dark s .hop = false → (pair s p.val).unreleased < k → k < bqSize (pair s p.val) →
    bits v.toNat 0 12 = ((pair s p.val).bqTail + bqSize (pair s p.val) - (pair s p.val).unreleased % bqSize (pair s p.val) + k)
      % bqSize (pair s p.val) → exec (.bqHeadWrite p v 0xF) s = .next s) ∧
  ∀ (p : Fin 16) (v : U32) (be : Byte) (s : State), dark s .hop = true →
    exec (.hqTailWrite p v be) s = .next (darkAccess 0 (0x1000 * p.val) s) ∧
    exec (.bqHeadWrite p v be) s = .next (darkAccess 0 (0x1000 * p.val + 4) s)) ∧
 ((∀ (p : Fin 16) (v : U32) (s : State), dark s .hop = false → (pair s p.val).st = .disabled →
    let q := ctrlFields v.toNat (pair s p.val)
    let ok : Prop := q.hqBase % 4096 = 0 ∧ q.bqBase % 4096 = 0 ∧ 4 ≤ bits q.size 0 4 ∧ bits q.size 0 4 ≤ 12 ∧
      4 ≤ bits q.size 4 4 ∧ bits q.size 4 4 ≤ 12
    (ok → exec (.qpEnable p v) s = .next (setPair p.val { q with
      en := true, st := .enabled, hqHead := 0, hqTail := 0, bqTail := 0, unreleased := 0, bseq := 1, unsig := 0, cause := 0
      inflight := [] } s)) ∧
    (¬ ok → exec (.qpEnable p v) s = .next (setPair p.val { q with en := false, cause := 3 } s))) ∧
  (∀ (p : Fin 16) (v : U32) (s : State), dark s .hop = false → (pair s p.val).st ≠ .disabled →
    let q := ctrlFields v.toNat (pair s p.val)
    let t := setPair p.val q s
    exec (.qpEnable p v) s = .next (if binDue q = true then signal q.vector (setPair p.val { q with unsig := 0 } t) else t)) ∧
  (∀ (p : Fin 16) (v : U32) (s : State), dark s .hop = false →
    let q := { ctrlFields v.toNat (pair s p.val) with en := false }
    ((pair s p.val).st = .enabled → exec (.qpDisable p v) s = .next (setPair p.val { q with st := .draining } s)) ∧
    ((pair s p.val).st = .faulted → exec (.qpDisable p v) s = .next (setPair p.val { q with
      st := .draining, inflight := (pair s p.val).inflight.filter (fun e => e.reply.isNone && e.bad.isNone) } s)) ∧
    ((pair s p.val).st = .disabled ∨ (pair s p.val).st = .draining → exec (.qpDisable p v) s = .next (setPair p.val q s))) ∧
  ∀ (p : Fin 16) (v : U32) (s : State), dark s .hop = true →
    exec (.qpEnable p v) s = .next (darkAccess 0 (0x10000 + 0x40 * p.val) s) ∧
    exec (.qpDisable p v) s = .next (darkAccess 0 (0x10000 + 0x40 * p.val) s))

/-- When Hopper may fetch and it is the pair's turn, the firewall grants master 4 its ring's slots and what the packets' transfers
read, and ks are the packets fetched (at most 4, within what is due and both in-flight limits, and none after one that asks to leave RUN or
TRIM), HOPPER_FETCH takes exactly them in slot order into the pair, marks its turn and leaves every other pair and every other part of the
state alone. A reply that is due, granted and with the pair open, is written whole to the Bin slot of the tail, which then advances with
BSEQ; the oldest reply is overwritten and counted when the ring is full. A draining pair with nothing in flight is disabled when Bin turns
to it. (R346, R348, R349, R350, R352, R353, R354, R366) -/
def Obligations.fetch_and_reply : Prop :=
  (∀ (p : Fin 16) (ks : List Packet) (s : State), fetching s = true → myTurn p.val s = true →
    let q := pair s p.val
    (∀ h ≤ q.hqHead + hqSize q, granted s 4 (q.hqBase + 64 * h) 64 false = true) →
    (∀ k ∈ ks, ∀ a ∈ transferAccesses k, a.2.2 = false → granted s 4 a.1 a.2.1 false = true) →
    let n := min (min 4 ((q.hqTail + hqSize q - q.hqHead) % hqSize q)) (min (64 - q.inflight.length) (512 - allInflight s))
    let last := ((ks.take n).findIdx? (fun k => (fetchOne k 0 {}).inflight.any leavesRun)).getD n
    let fs := (ks.take n).take (last + 1)
    ∃ t, exec (.hopperFetch p ks) s = .next t ∧ t = { s with hop := t.hop } ∧
      t.hop = { s.hop with pairs := t.hop.pairs, lastServed := tset 15 s.hop.lastServed q.prio p.val, serial := s.hop.serial + fs.length } ∧
      pair t p.val = fs.zipIdx.foldl (fun q k => fetchOne k.1 (s.hop.serial + k.2 + 1) q) q ∧ ∀ o, o ≠ p.val → pair t o = pair s o) ∧
  (∀ (p : Fin 16) (pick k : Nat) (bad : Bool) (e : Inflight) (r : Reply) (s : State),
    doneAt (pair s p.val).inflight pick = some k → (pair s p.val).inflight[k]? = some e → answered (pair s p.val).inflight k = some r →
    binOpen p.val s = true → granted s 4 ((pair s p.val).bqBase + 16 * (pair s p.val).bqTail) 16 true = true →
    ∃ t, exec (.binReplyWrite p pick bad) s = .next t ∧
      (∃ l l', t.out = l ++ .bin p.val (pair s p.val).bqTail
        (replyBytes e.tag r (pair s p.val).hqHead p.val (pair s p.val).bseq bad) :: l' ++ s.out) ∧
      (pair t p.val).bqTail = ((pair s p.val).bqTail + 1) % bqSize (pair s p.val) ∧
      (pair t p.val).bseq = ((pair s p.val).bseq + 1) % 65536 ∧
      (pair t p.val).inflight = ldel (pair s p.val).inflight k ∧
      (pair t p.val).unreleased = min ((pair s p.val).unreleased + 1) (bqSize (pair s p.val)) ∧
      cnt (0x10028 + 0x40 * p.val) t = if bqSize (pair s p.val) ≤ (pair s p.val).unreleased then
        sat32 (cnt (0x10028 + 0x40 * p.val) s + 1) else cnt (0x10028 + 0x40 * p.val) s) ∧
  ∀ (p : Fin 16) (pick : Nat) (bad : Bool) (s : State), (pair s p.val).st = .draining → (pair s p.val).inflight = [] →
    binOpen p.val s = true →
    exec (.binReplyWrite p pick bad) s = .next (setPair p.val { pair s p.val with st := .disabled } s)

/-- AGG_TIME past the oldest unsignalled reply of a pair with IEN set, its vector is signalled and the count restarts. A PCIe
error on the fetch or Bin write of an enabled pair makes it FAULTED with CAUSE 1 or 2 and raises the Bin-fault event; one on a
command's transfer marks that command DMA_FAULT, or POISONED for a poisoned completion, which stands in Advanced Error Reporting. D3hot
entry stops the function and changes nothing else; the return to D0 ends it, and on a host interface alight, clocked and not frozen, with
every Bin slot granted, leaves no reply due on any enabled or draining pair; it touches only the host interface, its signals, what an
overrun raises and what a refused write captures. (R337, R338, R346, R351, R354, R465) -/
def Obligations.bin_signals_and_dma_faults : Prop :=
  (∀ (p : Fin 16) (s : State), (pair s p.val).ien = true → 0 < (pair s p.val).unsig →
    passed s (pair s p.val).unsigAt (bits (pair s p.val).agg 8 16 * tickUs) = true →
    exec (.binAggTimer p) s = .next (signal (pair s p.val).vector (setPair p.val { pair s p.val with unsig := 0 } s))) ∧
  (∀ (p : Fin 16) (w : DmaWhat) (r : DmaResult) (s : State), r ≠ .good → w = .fetch ∨ w = .binWrite → (pair s p.val).st = .enabled →
    ∃ t, exec (.dmaTransferCompletion p w r) s = .next t ∧ (pair t p.val).st = .faulted ∧
      (pair t p.val).cause = (if w = .fetch then 1 else 2) ∧ (pair t p.val).inflight = (pair s p.val).inflight ∧
      (r = .poisoned → bit t.hop.pcie.aerUnc 12 = true) ∧ raised 112 t = true) ∧
  (∀ (p : Fin 16) (tag : U16) (n : Nat) (r : DmaResult) (s : State), r ≠ .good → findInflight (pair s p.val).inflight tag = some n →
    ∃ t, exec (.dmaTransferCompletion p (.transfer tag) r) s = .next t ∧ t = { s with hop := { s.hop with
        pairs := t.hop.pairs, pcie := { s.hop.pcie with
          aerUnc := if r = .poisoned then s.hop.pcie.aerUnc ||| 2 ^ 12 else s.hop.pcie.aerUnc } } } ∧
      pair t p.val = { pair s p.val with
        inflight := lmod (pair s p.val).inflight n (fun e => { e with xfault := some (if r = .poisoned then .poisoned else .dmaFault) }) } ∧ ∀ o, o ≠ p.val → pair t o = pair s o) ∧
  (∀ s : State, exec .d3hotEntry s = .next { s with hop := { s.hop with d3hot := true } }) ∧
  ∀ s : State, ∃ t, exec .d0Return s = .next t ∧ t.hop.d3hot = false ∧
    (t = { s with hop := t.hop, evt := t.evt, out := t.out, rc := t.rc, log := t.log, que := t.que, gra := t.gra, sec := t.sec }) ∧
    (frozen s 4 = false → s.dev.unclocked.contains .pcie = false → dark s .hop = false → (∀ a, granted s 4 a 16 true = true) →
      ∀ p < 16, (pair s p).st = .enabled ∨ (pair s p).st = .draining → doneAt (pair t p).inflight 0 = none)

/-- An RW1C write of EVT_PEND clears exactly the bits written 1 of its word; on a dark event block it is captured, as is a write of a
vector's mask. Clearing a vector's mask, or the end of its HOLDOFF, sends the message it owes when nothing else withholds it, and clears
what it owes; where it owes none, or something still withholds it, only the mask changes. Clearing the function mask sends what every vector
owes that nothing else withholds. A host reset returns every pair, its overrun count, the routing, the pending bits and the MSI-X table to
reset, ends the use of a Host Map Region, records its cause and touches nothing else; in HUSH and OFF, where the link is down, there is
none. (R339, R357, R358, R359, R412, R32) -/
def Obligations.events_and_vectors : Prop :=
  (∀ (k : Fin 4) (v : U32) (s : State), dark s .evt = false → exec (.evtPendClear k v) s = .next { s with evt := { s.evt with
    pend := s.evt.pend &&& ~~~(BitVec.ofNat 128 v.toNat <<< (32 * k.val)) } }) ∧
  (∀ (k : Fin 4) (v : U32) (s : State), dark s .evt = false → ∃ t, exec (.evtPendClear k v) s = .next t ∧ ∀ c < 128,
    t.evt.pend.getLsbD c = (s.evt.pend.getLsbD c && !(decide (c / 32 = k.val) && v.getLsbD (c % 32)))) ∧
  (∀ (k : Fin 4) (v : U32) (s : State), dark s .evt = true → exec (.evtPendClear k v) s = .next (darkAccess 0 (0x20200 + 4 * k.val) s)) ∧
  (∀ (v : Fin 32) (s : State), dark s .evt = false → let t := { s with evt := { s.evt with unmasked := setBit s.evt.unmasked v.val } }
    exec (.msixVectorUnmask (some v)) s = .next (if s.evt.owed.getLsbD v.val = true ∧ s.hop.pcie.funcMask = false ∧
      vecHeld s v.val = false ∧ msgHeld s = false then sendMsg v.val t else t)) ∧
  (∀ (v : Fin 32) (s : State), dark s .evt = true →
    exec (.msixVectorUnmask (some v)) s = .next (darkAccess 0 (0x2800C + 16 * v.val) s)) ∧
  (∀ s : State, ∃ t, exec (.msixVectorUnmask none) s = .next t ∧ t.hop.pcie.funcMask = false ∧
    ∀ v < 32, (s.evt.unmasked.getLsbD v = true → vecHeld s v = false → msgHeld s = false → t.evt.owed.getLsbD v = false) ∧
      (s.evt.unmasked.getLsbD v = false ∨ vecHeld s v = true ∨ msgHeld s = true → t.evt.owed.getLsbD v = s.evt.owed.getLsbD v)) ∧
  (∀ (v : Fin 32) (s : State), exec (.holdoffExpiry v) s = .next (if s.evt.owed.getLsbD v.val = true ∧ vecMasked s v.val = false ∧
    vecHeld s v.val = false ∧ msgHeld s = false then sendMsg v.val s else s)) ∧
  (∀ (v : Fin 32) (s : State), (sendMsg v.val s).evt.owed.getLsbD v.val = false ∧
    (sendMsg v.val s).out = .msix v.val (tget 0 s.evt.msix (16 * v.val) + tget 0 s.evt.msix (16 * v.val + 4) * 2 ^ 32)
      (tget 0 s.evt.msix (16 * v.val + 8)) :: s.out) ∧
  (∀ s : State, s.pwr.st ≠ .hush → s.pwr.st ≠ .off → ∃ t, exec .hostReset s = .next t ∧ t = { s with
    hop := { serial := s.hop.serial }, evt := {}, gra := { s.gra with hmrUse := false, hmrEnded := s.gra.hmrEnded || s.gra.hmrUse }
    pwr := { s.pwr with resetCause := 16 }, rc := t.rc } ∧
    ∀ a, cnt a t = if ∃ p ∈ List.range 16, a = 0x10028 + 0x40 * p then 0 else cnt a s) ∧
  ∀ s : State, s.pwr.st = .hush ∨ s.pwr.st = .off → exec .hostReset s = .next s

/-- A read of a BAR0 dword of a block not dark returns its value; a read-clear register then counts from zero and every other
counter stands; in RETIRED only the identity registers read, and the others read zero. A BAR4 read returns zero, and a read of the
configuration header its dword. A read on a dark block returns 0xFFFF_FFFF, counts in DEV_ACCESS_CNT, captures the first access with
POWERED_DOWN, its bus and address, and logs the powered-down event; so does an access on any bus, a read over MGMT answering
POWERED_DOWN and 0xFF, one by the Service Port or a control core POWERED_DOWN with zero data. Beyond that it changes only what an
event's record may. An access to a block that is not dark is no such access: a write over it is another command's, and so is a read of
the host's; one by a control core to DRAM is dark with the memory clock. A BAR2 read of the powered Ledger returns the 32 bytes of the
entry that begins there, all of one instant, zeros in the area beyond the node table, and TOPO_GEN with the sweep count at their place of
the status page. (R14, R17, R32, R34, R49, R79, R80, R82, R336, R342, R343, R449) -/
def Obligations.register_reads : Prop :=
  (∀ (a : U32) (s : State), darkAt s a.toNat = false → hidden s = false ∨ a = 0 ∨ a = 4 → ∃ t, exec (.rcRegisterRead .bar0 a) s = .next t ∧
    t.out = .regRead a.toNat (regValue s a.toNat) :: s.out ∧
    (isRc a.toNat = true → cnt a.toNat t = 0) ∧ (∀ b, b ≠ a.toNat → cnt b t = cnt b s) ∧
    (isRc a.toNat = false → t = { s with out := t.out })) ∧
  (∀ (a : U32) (s : State), darkAt s a.toNat = false → s.sec.lc = 5 → a ≠ 0 → a ≠ 4 →
    exec (.rcRegisterRead .bar0 a) s = .next (emit (.regRead a.toNat 0) s)) ∧
  (∀ (a : U32) (s : State), darkAt s a.toNat = true →
    exec (.rcRegisterRead .bar0 a) s = .next (emit (.regRead a.toNat 0xFFFFFFFF) (darkAccess 0 a.toNat s))) ∧
  (∀ (a : U32) (s : State), (dark s .hop = false → exec (.rcRegisterRead .bar4 a) s = .next (emit (.regRead a.toNat 0) s)) ∧
    exec (.rcRegisterRead .config a) s = .next (emit (.regRead a.toNat (cfgHeader s a.toNat)) s)) ∧
  (∀ (bus : Fin 5) (b : Blk) (w : Bool) (a : U32) (s : State), dark s b = true ∨ (bus = 4 ∧ memDark a.toNat s = true) →
    exec (.darkBlockAccess bus b w a) s = .next
      (if 3 ≤ bus.val then emit (.darkReply bus.val 9 (if w then [] else zeros 4)) (darkAccess bus.val a.toNat s)
       else if w then darkAccess bus.val a.toNat s
       else emit (if bus.val = 2 then .mgmt [9, 0xFF] else .regRead a.toNat 0xFFFFFFFF) (darkAccess bus.val a.toNat s))) ∧
  (∀ (bus : Fin 5) (b : Blk) (w : Bool) (a : U32) (s : State), dark s b = false → bus ≠ 4 ∨ memDark a.toNat s = false →
    (w = true ∨ 2 ≤ bus.val → exec (.darkBlockAccess bus b w a) s = .next s) ∧
    (w = false → bus = 0 → exec (.darkBlockAccess bus b w a) s = exec (.rcRegisterRead .bar0 a) s)) ∧
  (∀ (b : Blk) (a : U32) (s : State), dark s b = false → ∃ t, exec (.darkBlockAccess 1 b false a) s = .next t ∧
    t = { s with out := t.out, free := t.free } ∧ (b ≠ .ldg ∨ hidden s = true → t = s) ∧ (b = .ldg → hidden s = false →
      (∀ i : Idx, a.toNat = 32 * i.toNat → s.led.poisoned.contains i.toNat = false →
        t.out = .bar2 a.toNat (entryBytes (entry s i.toNat)) :: s.out) ∧
      (0x2800000 ≤ a.toNat → a.toNat < 0x3FFF000 → t.out = .bar2 (a.toNat / 8 * 8) (zeros 8) :: s.out) ∧
      (a.toNat = 0x3FFF010 → t.out = .bar2 0x3FFF010 (leBytes 4 s.led.topoGen.toNat ++ leBytes 4 s.led.sweep.toNat) :: s.out))) ∧
  ∀ (bus a : Nat) (s : State), ∃ t, darkAccess bus a s = t ∧ cnt 0x48 t = sat32 (cnt 0x48 s + 1) ∧
    t.dev = (if s.dev.accValid then s.dev else { s.dev with accStatus := 9, accBus := bus, accValid := true, accAddr := a }) ∧
    t = { s with dev := t.dev, rc := t.rc, evt := t.evt, hop := t.hop, out := t.out, log := t.log, gra := t.gra, que := t.que
                 free := t.free } ∧ t.gra.arc = s.gra.arc ∧ t.gra.chk = s.gra.chk

/-- A whole-dword write of DEV_SCRATCH, an EVT_ROUTE word or a disabled pair's HQ size and aggregation registers changes exactly
that register; a write of a pair that is not DISABLED to them changes nothing. A partial write changes only DEV_BAD_ACCESS,
which counts it. A write of a dark block is captured and changes nothing else. A BAR4 write at a doorbell is that doorbell's, and one
elsewhere is ignored. The writes of configuration space change Command, a BAR, MSI-X Message Control, the payload and request sizes, and
the error bits written 1, each that alone. A BAR2 write is discarded and counted in
LDG_WR_DROP. Writing 1 to VALID of DEV_ACCESS_ERR or SEC_FW_VIOL_INFO re-arms that capture, and 0 leaves it. A write of 1 to TAKE captures the present
time value, its stamp and the counter as one instant. A write of another WINDOW to PACE_CTRL clears the lane counters, restarts
the window and leaves PACE_SEQ; one of the same WINDOW leaves them running. SEC_FW_RELEASE takes 0xF1EE_0004 as the release of a
frozen master 4, which it tells of, and counts any other value in SEC_TOKEN_FAIL. Each changes nothing beyond that. (R14, R32,
R79, R336, R337, R342, R343, R346, R357, R358, R317, R465) -/
def Obligations.register_writes_and_captures : Prop :=
 ((∀ (v : U32) (s : State), dark s .dev = false →
    exec (.registerWrite (.bar0 0x20 v 0xF)) s = .next { s with dev := { s.dev with scratch := v.toNat } }) ∧
  (∀ (n : Fin 128) (v : U32) (s : State), dark s .evt = false →
    exec (.registerWrite (.bar0 (BitVec.ofNat 32 (0x20000 + 4 * n.val)) v 0xF)) s = .next { s with evt := { s.evt with
      route := tset 0 s.evt.route n.val (v.toNat % 32 + 256 * b2n (bit v.toNat 8)) } }) ∧
  (∀ (p : Fin 16) (v : U32) (s : State), dark s .hop = false → (pair s p.val).st = .disabled →
    exec (.registerWrite (.bar0 (BitVec.ofNat 32 (0x10018 + 0x40 * p.val)) v 0xF)) s =
      .next (setPair p.val { pair s p.val with size := v.toNat % 256 } s) ∧
    exec (.registerWrite (.bar0 (BitVec.ofNat 32 (0x1001C + 0x40 * p.val)) v 0xF)) s =
      .next (setPair p.val { pair s p.val with agg := v.toNat % 2 ^ 24 } s)) ∧
  (∀ (p : Fin 16) (v : U32) (s : State), dark s .hop = false → (pair s p.val).st ≠ .disabled →
    exec (.registerWrite (.bar0 (BitVec.ofNat 32 (0x10018 + 0x40 * p.val)) v 0xF)) s = .next s) ∧
  (∀ (a v : U32) (be : Byte) (s : State), be ≠ 0xF → darkAt s a.toNat = false →
    exec (.registerWrite (.bar0 a v be)) s = .next (bump 0x30 1 s)) ∧
  (∀ (a v : U32) (s : State), darkAt s a.toNat = true → exec (.registerWrite (.bar0 a v 0xF)) s = .next (darkAccess 0 a.toNat s)) ∧
  (∀ (a v : U32) (be : Byte) (s : State), dark s .hop = false →
    (∀ p : Fin 16, a.toNat = 4096 * p.val → exec (.registerWrite (.bar4 a v be)) s = exec (.hqTailWrite p v be) s) ∧
    (∀ p : Fin 16, a.toNat = 4096 * p.val + 4 → exec (.registerWrite (.bar4 a v be)) s = exec (.bqHeadWrite p v be) s) ∧
    (a.toNat % 4096 ≠ 0 → a.toNat % 4096 ≠ 4 → exec (.registerWrite (.bar4 a v be)) s = .next s)) ∧
  (∀ (v : U16) (n : Fin 3) (base : U64) (mps mrrs : Fin 6) (c : U32) (s : State),
    let cfg := fun (r : PcieRegs) => ({ s with hop := { s.hop with pcie := r } } : State)
    exec (.registerWrite (.command v)) s = .next (cfg { s.hop.pcie with command := v.toNat }) ∧
    exec (.registerWrite (.bar n base)) s = .next (cfg { s.hop.pcie with bars := s.hop.pcie.bars.set n base.toNat }) ∧
    exec (.registerWrite (.deviceControl mps mrrs)) s = .next (cfg { s.hop.pcie with mps := min mps.val 2, mrrs := mrrs.val }) ∧
    exec (.registerWrite (.aerClear c)) s = .next (cfg { s.hop.pcie with aerUnc := (BitVec.ofNat 32 s.hop.pcie.aerUnc &&& ~~~c).toNat })) ∧
  (∀ (e m : Bool) (s : State), ∃ t, exec (.registerWrite (.msixControl e m)) s = .next t ∧ t.hop.pcie.msixEn = e ∧ t.hop.pcie.funcMask = m ∧
    t = { s with hop := t.hop, evt := t.evt, out := t.out } ∧ (e = false ∨ m = true → t.evt = s.evt ∧ t.out = s.out)) ∧
  (∀ (a : U32) (s : State), dark s .ldg = true → exec (.bar2Write a) s = .next (darkAccess 1 a.toNat s)) ∧
  ∀ (a : U32) (s : State), dark s .ldg = false →
    exec (.bar2Write a) s = .next { s with led := { s.led with wrDrop := sat32 (s.led.wrDrop + 1) } }) ∧
 ((∀ (v : U32) (s : State), dark s .dev = false → bit v.toNat 31 = true →
    exec (.devAccessErrClear v) s = .next { s with dev := { s.dev with accValid := false } }) ∧
  (∀ (v : U32) (s : State), dark s .dev = false → dark s .sec = false → bit v.toNat 31 = false →
    exec (.devAccessErrClear v) s = .next s ∧ exec (.secFwViolInfoClear v) s = .next s) ∧
  (∀ (v : U32) (s : State), dark s .fan = false → bit v.toNat 0 = false → exec (.fanSnapTake v) s = .next s) ∧
  (∀ (v : U32) (s : State), dark s .sec = false → bit v.toNat 31 = true →
    exec (.secFwViolInfoClear v) s = .next { s with sec := { s.sec with violValid := false } }) ∧
  (∀ (v : U32) (s : State), dark s .fan = false → bit v.toNat 0 = true →
    exec (.fanSnapTake v) s = .next { s with fan := { s.fan with
      snapSec := nowS s % 2 ^ 48, snapNsec := nowNs s % 1000000000, snapStamp := nowStamp s, snapRaw := rawCount s } }) ∧
  (∀ (v : U32) (s : State), dark s .ing = false →
    (bits v.toNat 0 2 ≠ s.dev.paceWindow → exec (.paceCtrlWrite v) s = .next { s with dev := { s.dev with
      paceWindow := bits v.toNat 0 2, paceEn := bit v.toNat 2, verd := [], doneW := [], verdRun := [], doneRun := []
      paceAt := s.elapsed } }) ∧
    (bits v.toNat 0 2 = s.dev.paceWindow → exec (.paceCtrlWrite v) s = .next { s with dev := { s.dev with paceEn := bit v.toNat 2 } })) ∧
  (∀ s : State, dark s .sec = false → frozen s 4 = true → (∀ a, granted s 4 a 16 true = true) →
    ∃ t, exec (.secFwReleaseWrite 0xF1EE0004) s = .next t ∧
    frozen t 4 = false ∧ (∀ m, m ≠ 4 → frozen t m = frozen s m) ∧ raised 97 t = true) ∧
  ∀ (v : U32) (s : State), dark s .sec = false → v ≠ 0xF1EE0004 → exec (.secFwReleaseWrite v) s = .next (bump 0xC002C 1 s))

/-- A MGMT read of an AON register answers OK and its bytes, least significant first, so does one of a DEV register while DEV is not dark;
one of an unlisted register BAD_PARAM and 0xFF; one of a DEV register while DEV is dark POWERED_DOWN and 0xFF; in RETIRED only the
identity register reads, and any other is DENIED. A MGMT write acts only on
WAKE_RETRY with 0xA5, where in DOZE or HUSH with no wake in progress it latches the wake and raises PWR_EN. STATUS returns READY, QUIET,
CLAIM and SAFE in bits 0 to 3 of RESULT; NOP returns its first four parameter bytes. Neither changes anything else. (R344, R370, R386,
R449, R498, R499, R500) -/
def Obligations.mgmt_and_status : Prop :=
  (∀ (r : Byte) (n : Nat) (s : State), s.sec.lc = 5 → r ≠ 0 →
    exec (.mgmtRead r n) s = .next (emit (.mgmt ((14 : Byte) :: List.replicate n 0xFF)) s)) ∧
  (∀ (r : Byte) (n : Nat) (l : List Byte) (s : State), s.sec.lc ≠ 5 ∨ r = 0 → mgmtAon s r.toNat = some l ∨
      (dark s .dev = false ∧ (r = 8 ∧ l = leBytes 4 (devStatus s) ∨ r = 9 ∧ l = leBytes 4 s.dev.fwVer)) → n ≤ l.length →
    exec (.mgmtRead r n) s = .next (emit (.mgmt ((0 : Byte) :: l.take n)) { s with free := s.free + n })) ∧
  (∀ (r : Byte) (n : Nat) (s : State), s.sec.lc ≠ 5 → 10 ≤ r.toNat ∨ r.toNat = 7 →
    exec (.mgmtRead r n) s = .next (emit (.mgmt ((2 : Byte) :: List.replicate n 0xFF)) s)) ∧
  (∀ (r : Byte) (n : Nat) (s : State), s.sec.lc ≠ 5 → r = 8 ∨ r = 9 → dark s .dev = true →
    exec (.mgmtRead r n) s = .next (emit (.mgmt ((9 : Byte) :: List.replicate n 0xFF)) (darkAccess 2 r.toNat s))) ∧
  (∀ s : State, (s.pwr.st = .doze ∨ s.pwr.st = .hush) → s.pwr.entry = none → s.pwr.waking = none →
    ∃ t, exec (.mgmtWrite 0x10 0xA5) s = .next t ∧ t = { s with pwr := t.pwr, dev := { s.dev with quiet := true } } ∧
      t.pwr.pwrEn = 0xF ∧ t.pwr.quiet = true ∧ t.pwr.waking.isSome = true ∧ t.pwr.wakeCause = 8 ∧ t.pwr.wakeAttempts = 1 ∧
      t.pwr.st = s.pwr.st) ∧
  (∀ (r v : Byte) (s : State), r ≠ 0x10 ∨ v ≠ 0xA5 → exec (.mgmtWrite r v) s = .next s) ∧
  (∀ (c : Ctx) (s : State), accepts (.status c) s = true → exec (.status c) s = .next (finish c .ok
    (b2n s.dev.ready + 2 * b2n s.dev.quiet + 4 * b2n s.brk.hold + 8 * b2n s.saf.safe) [] s)) ∧
  ∀ (c : Ctx) (params : List Byte) (s : State), accepts (.nop c params) s = true → params.length ≤ 40 →
    exec (.nop c params) s = .next (finish c .ok (ofLe (params.take 4)) [] s)

/-- On an entry that is there, IDENTIFY answers the identity words; a LOCK with a good header, no lock standing, no refusal and
no image armed or on trial takes the lock with STAGING empty (or as it stood for the same incomplete image); DATA at the staged
offset within the container appends; DONE with every byte staged arms the image, releases the lock and answers the container's
length; RELEASE by the owner leaves IDLE or INCOMPLETE; DISARM of an armed image returns to IDLE and journals it. A reply goes out on the USB
entry or joins the replies waiting in DEV_SVC_IN. While MOVING or ON_BACKUP stands LOCK, DATA and DONE by a good header or the
owner answer REFUSED_STATE, and in OWNER_LOCKED a LOCK with a good header answers DENIED; each such refusal leaves the update
state, the lock and STAGING as they were. A LOCK whose header fails its checks answers BAD_PARAM and changes nothing. In RETIRED only
IDENTIFY is served: the others answer DENIED and change nothing but the owner's last message. (R449, R460, R510, R511, R512, R513, R514, R515, R516, R517, R526) -/
def Obligations.service_port_and_refusals : Prop :=
 ((∀ (e : Fin 2) (tag : U16) (s : State), svcOpen e.val s = true → exec (.identify e tag) s = .next (svcReply e.val 1 tag
    { status := .ok, arg := updStatus s, st := s
      payload := leBytes 4 0x7810 ++ leBytes 4 Config.deviceId ++ leBytes 4 (secLifecycle s) ++ leBytes 4 s.dev.loaderVer ++
        leBytes 4 s.dev.fwVer })) ∧
  (∀ (e : Fin 2) (tag : U16) (h : List Byte) (s : State), svcOpen e.val s = true → headerOk h = true → s.sec.lc ≠ 3 → s.sec.lc ≠ 5 → moving s = false →
    s.pwr.bkp = false → s.svc.upd ≠ .trial → s.svc.upd ≠ .armed → s.svc.lock = none →
    let keep := s.svc.upd = .incomplete ∧ s.svc.header ≠ [] ∧ hdrDigest s.svc.header = hdrDigest h
    (keep → exec (.lock e tag h) s = .next (svcReply e.val 2 tag { status := .ok, arg := s.svc.staging.length, st := { s with
      svc := { s.svc with lock := some e.val, lastMsg := s.elapsed, upd := .receiving } } })) ∧
    (¬ keep → exec (.lock e tag h) s = .next (svcReply e.val 2 tag { status := .ok, st := { s with
      svc := { s.svc with lock := some e.val, lastMsg := s.elapsed, upd := .receiving, header := h, staging := [] } } }))) ∧
  (∀ (e : Fin 2) (tag : U16) (a : U32) (b : List Byte) (s : State), svcOpen e.val s = true → s.sec.lc ≠ 5 → s.svc.lock = some e.val → moving s = false →
    s.pwr.bkp = false → frozen s 5 = false → a.toNat = s.svc.staging.length → a.toNat + b.length ≤ containerLen s.svc.header →
    exec (.data e tag a b) s = .next (svcReply e.val 3 tag { status := .ok, arg := s.svc.staging.length + b.length, st := { s with
      svc := { s.svc with staging := s.svc.staging ++ b } } })) ∧
  (∀ (e : Fin 2) (tag : U16) (s : State), svcOpen e.val s = true → s.sec.lc ≠ 5 → s.svc.lock = some e.val → moving s = false → s.pwr.bkp = false →
    containerLen s.svc.header ≤ s.svc.staging.length → ∃ t, exec (.done e tag false) s = .next t ∧
      t.svc.upd = .armed ∧ t.svc.lock = none ∧ t.svc.staging = s.svc.staging ∧ t.svc.header = s.svc.header ∧ t.svc.running = s.svc.running) ∧
  (∀ (e : Fin 2) (tag : U16) (s : State), svcOpen e.val s = true → s.sec.lc ≠ 5 → s.svc.lock = some e.val →
    exec (.release e tag) s = .next (svcReply e.val 5 tag { status := .ok, arg := s.svc.staging.length, st := { s with svc := { s.svc with
      lock := none
      upd := if s.svc.upd = .receiving then (if s.svc.staging = [] then .idle else .incomplete) else s.svc.upd } } })) ∧
  (∀ (e : Fin 2) (tag : U16) (s : State), svcOpen e.val s = true → s.sec.lc ≠ 5 → s.svc.upd = .armed →
    ∃ t, exec (.disarm e tag) s = .next (svcReply e.val 6 tag { status := .ok, st := t }) ∧ t = { s with svc := t.svc } ∧
      t.svc.upd = .idle ∧ t.svc.header = [] ∧ t.svc.staging = [] ∧ t.svc.lock = s.svc.lock ∧ t.svc.running = s.svc.running ∧
      journalInForce t = some (journalRecord false t)) ∧
  ∀ (op : Nat) (tag : U16) (r : SvcRes),
    svcReply 0 op tag r = { heard 0 r.st with out := .svc 0 (svcMessage op tag r.status r.arg r.payload) :: (heard 0 r.st).out } ∧
    svcReply 1 op tag r = { heard 1 r.st with svc := { (heard 1 r.st).svc with
      replies := (heard 1 r.st).svc.replies ++ [svcMessage op tag r.status r.arg r.payload] } }) ∧
 (∀ (e : Fin 2) (tag : U16) (s : State), svcOpen e.val s = true → s.sec.lc = 5 →
    let no := fun (op : Nat) => svcReply e.val op tag { status := .denied, st := s }
    (∀ h, exec (.lock e tag h) s = .next (no 2)) ∧ (∀ a b, exec (.data e tag a b) s = .next (no 3)) ∧
    (∀ r, exec (.done e tag r) s = .next (no 4)) ∧ exec (.release e tag) s = .next (no 5) ∧ exec (.disarm e tag) s = .next (no 6)) ∧
 (∀ (e : Fin 2) (tag : U16) (s : State), svcOpen e.val s = true → s.sec.lc ≠ 5 →
    (∀ h : List Byte, headerOk h = false → exec (.lock e tag h) s = .next (svcReply e.val 2 tag { status := .badParam, st := s })) ∧
    (∀ h : List Byte, headerOk h = true → s.sec.lc = 3 → ∃ u t, u = svcReply e.val 2 tag { status := .denied, st := t } ∧
      exec (.lock e tag h) s = .next u ∧ t.svc = s.svc) ∧
    (∀ h : List Byte, headerOk h = true → s.sec.lc ≠ 3 → moving s = true ∨ s.pwr.bkp = true →
      ∃ u t, u = svcReply e.val 2 tag { status := .refusedState, st := t } ∧ exec (.lock e tag h) s = .next u ∧ t.svc = s.svc) ∧
    (s.svc.lock = some e.val → moving s = true ∨ s.pwr.bkp = true →
      (∀ (a : U32) (b : List Byte), ∃ u t, u = svcReply e.val 3 tag { status := .refusedState, arg := s.svc.staging.length, st := t } ∧
        exec (.data e tag a b) s = .next u ∧ t.svc = s.svc) ∧
      ∀ r : Bool, ∃ u t, u = svcReply e.val 4 tag { status := .refusedState, st := t } ∧ exec (.done e tag r) s = .next u ∧ t.svc = s.svc))

/-- TILTn low for 100 ms, its return and DEV_UPD_HOLD set and clear the MOVING conditions; BKP_ACTIVE falling ends ON_BACKUP;
VBUS attaches the USB entry in RUN and TRIM, and a detach ends it and releases a lock it owns. 60 s without a message of the
owner releases the lock. 300 s of health within the window confirm the trial image and burn its SVN, the 900 s window's end or
the revert word in TRIAL journals a revert request and resets, and the trial timer resets at 960 s. (R507, R510, R515, R516,
R520, R521, R525) -/
def Obligations.update_pins_and_timers : Prop :=
  (∀ s : State, exec .tiltMoving s = .next { s with svc := { s.svc with tilt := true } } ∧
    exec .tiltRelease s = .next { s with svc := { s.svc with tilt := false } } ∧
    exec .bkpActiveFall s = .next { s with pwr := { s.pwr with bkp := false } }) ∧
  (∀ (v : U32) (s : State), dark s .dev = false → exec (.devUpdHoldWrite v) s = .next { s with svc := { s.svc with
    hostMoving := bit v.toNat 0, holdConfirm := bit v.toNat 1, healthAt := s.elapsed } }) ∧
  (∀ (v : U32) (s : State), dark s .dev = false →
    exec (.devSvcInAckWrite v) s = .next { s with svc := { s.svc with replies := s.svc.replies.tail } }) ∧
  (∀ s : State, s.pwr.st = .run ∨ s.pwr.st = .trim → exec .usbAttach s = .next { s with svc := { s.svc with usb := true } }) ∧
  (∀ s : State, ∃ t, exec .usbDetach s = .next t ∧ t.svc.usb = false ∧
    (s.svc.lock = some 0 → t.svc.lock = none) ∧ (s.svc.lock ≠ some 0 → t.svc = { s.svc with usb := false }) ∧
    (∀ d, s.sec.session = some d → d.entry = 0 → t.sec.session = none ∧ raised 99 t = true)) ∧
  (∀ (o : Nat) (s : State), s.svc.lock = some o → passed s s.svc.lastMsg (60 * tickS) = true →
    exec .stagingLockIdle s = .next (releaseLock s) ∧ (releaseLock s).svc.lock = none ∧ (releaseLock s).svc.staging = s.svc.staging) ∧
  (∀ s : State, s.svc.upd = .trial → healthy s = true → passed s s.svc.healthAt (300 * tickS) = true →
    passed s s.svc.readyAt (900 * tickS + 1) = false → ∃ t, exec .healthConfirm s = .next t ∧ t.svc.upd = .idle ∧ t.svc.last = 1 ∧
      (s.svc.trialLoader = false → t.sec.svnMain = max s.sec.svnMain s.svc.running.svn ∧ t.sec.svnLoader = s.sec.svnLoader)) ∧
  (∀ s : State, s.svc.upd = .trial → passed s s.svc.readyAt (900 * tickS) = true → ∃ t, exec .trialWindowExpiry s = .next t ∧
    t.svc.revertReq = some 5 ∧ t.pwr.resetCause = 4 ∧ t.svc.boot = .rom) ∧
  (∀ s : State, dark s .dev = false → s.svc.upd = .trial → ∃ t, exec (.devUpdRevertWrite 0xFA11BAC4) s = .next t ∧
    t.svc.revertReq = some 7 ∧ t.pwr.resetCause = 4 ∧ t.svc.boot = .rom) ∧
  ∀ s : State, s.svc.upd = .trial → passed s s.svc.readyAt (960 * tickS) = true → ∃ t, exec .trialTimerReset s = .next t ∧
    t.svc.revertReq = s.svc.revertReq ∧ t.pwr.resetCause = 4 ∧ t.svc.boot = .rom

/-- Outside a trial and the loader's states, with the lifecycle not OWNER_LOCKED, CONFIG_SAVE writes the running configuration
with GEN one above both sets' into slot A when its GEN is at most slot B's, otherwise into slot B, leaves the other slot alone,
and returns the new GEN. Nothing else changes. (R370, R523) -/
def Obligations.configuration_save : Prop :=
  ∀ (c : Ctx) (s : State), accepts (.configSave c) s = true → s.sec.lc ≠ 3 → s.svc.upd = .idle →
    let g := max (cfgGen s.svc.cfgA) (cfgGen s.svc.cfgB) + 1
    ∃ k : CfgSet, k.gen = g ∧ k.trial = false ∧ k.cfg = s.cfg ∧ k.gws = s.ing.gws ∧ k.headEnd = s.ing.headEnd ∧ k.devKeys = s.sec.devKeys ∧ k.weirEn = s.wei.en ∧
    exec (.configSave c) s = .next (finish c .ok g [] { s with
      svc := if cfgGen s.svc.cfgA ≤ cfgGen s.svc.cfgB then { s.svc with cfgA := some k } else { s.svc with cfgB := some k } })

/-- KEY_LOAD in PROVISIONED, FIELD or OWNER_LOCKED with a transfer of KLEN + 8 bytes that unwraps puts the key into slot IDX
with the entry's EUI-64 (zero while FREE), and steps a bound index's KEY256 and KEY_GEN. DEVICE_KEY in PROVISIONED or FIELD
replaces the key WHICH names and tells of it. A lifecycle transition with a row and valid tokens counts, is told of and ends the
session; FIREWALL_RULE writes or removes its owner rule, under which a control core's or engine's own next access (log entry 13) may freeze that
master alone; FIREWALL_RELEASE releases a frozen master 0 to 3 or 5. (R383, R451,
R453, R456, R457, R458, R463, R465) -/
def Obligations.keys_and_lifecycle : Prop :=
  (∀ (c : Ctx) (i : Idx) (klen : Byte) (k : List Byte) (s : State), accepts (.keyLoad c i klen) s = true → s.sec.lc = 1 ∨ s.sec.lc = 2 ∨ s.sec.lc = 3 →
    klen = 16 ∨ klen = 32 → c.xlen = klen.toNat + 8 → Config.keyUnwrap (s.sec.ktk.getD []) c.xin = some k →
    ∃ t, exec (.keyLoad c i klen) s = .next (finish c .ok 0 [] t) ∧
      tget none t.sec.vault i.toNat = some { key := k, eui := if (entry s i.toNat).state = .free then 0 else euiOf s i.toNat } ∧
      t.sec.cache = s.sec.cache.filter (fun x => x != i.toNat) ∧
      entry t i.toNat = (if (entry s i.toNat).state = .free then entry s i.toNat else
        { entry s i.toNat with key256 := klen == 32, keyGen := (entry s i.toNat).keyGen + 1 }) ∧
      ∀ j, j ≠ i.toNat → entry t j = entry s j ∧ tget none t.sec.vault j = tget none s.sec.vault j) ∧
  (∀ (c : Ctx) (w klen : Byte) (k : List Byte) (s : State), accepts (.deviceKey c w klen) s = true → s.sec.lc = 1 ∨ s.sec.lc = 2 →
    w.toNat ≤ 3 → klen = 32 ∨ klen = 16 ∧ (w = 1 ∨ w = 2) → c.xlen = klen.toNat + 8 →
    Config.keyUnwrap (s.sec.ktk.getD []) c.xin = some k → ∃ t, exec (.deviceKey c w klen) s = .next (finish c .ok 0 [] t) ∧
      devKey t w.toNat = k ∧ (∀ v, v ≠ w.toNat → devKey t v = devKey s v) ∧ raised 100 t = true) ∧
  (∀ (c : Ctx) (s : State), accepts (.lifecycle c 2) s = true → c.xlen = 244 → s.sec.lc = 1 → tokenLocked s = false →
    tokenFault s 1 2 (lcNonce s) (c.xin.take 241) = none → 1 ≤ tokSigner (c.xin.take 241) →
    exec (.lifecycle c 2) s = .next (finish c .ok 0 [] (lcStep 2 s))) ∧
  (∀ (n : Nat) (s : State), (lcStep n s).sec.lc = n ∧ (lcStep n s).sec.lcCount = s.sec.lcCount + 1 ∧ (lcStep n s).sec.session = none ∧
    raised 94 (lcStep n s) = true) ∧
  (∀ (c : Ctx) (rule master perm : Byte) (base size : U64) (s : State), accepts (.firewallRule c rule master perm base size) s = true → s.sec.lc = 1 ∨ s.sec.lc = 2 →
    32 ≤ rule.toNat → rule.toNat ≤ 63 → master.toNat ≤ 11 → perm.toNat ≤ 3 → base.toNat % 4096 = 0 → size.toNat % 4096 = 0 →
    ∃ t, exec (.firewallRule c rule master perm base size) s = .next (finish c .ok 0 [] t) ∧
      t.sec.rules = tset none s.sec.rules rule.toNat (if size.toNat = 0 then none else
        some { master := master.toNat, perm := perm.toNat, base := base.toNat, size := size.toNat }) ∧
      (∀ m, m ≠ master.toNat → frozen t m = frozen s m) ∧ (frozen t master.toNat = frozen s master.toNat ∨ raised 96 t = true) ∧
      (master.toNat = 4 ∨ master.toNat = 5 → t = { s with sec := { s.sec with rules := t.sec.rules } })) ∧
  ∀ (c : Ctx) (m : Byte) (s : State), accepts (.firewallRelease c m) s = true → s.sec.lc ≤ 3 → m.toNat ≤ 5 → m.toNat ≠ 4 → frozen s m.toNat = true →
    exec (.firewallRelease c m) s = .next (finish c .ok 0 [] (releaseMaster m.toNat 0 s)) ∧ frozen (releaseMaster m.toNat 0 s) m.toNat = false ∧
    raised 97 (releaseMaster m.toNat 0 s) = true

/-- On an entry that is there DEBUG_CHALLENGE outside RETIRED answers a fresh challenge and holds it; in BLANK a token exchange
at level 1 or 2, with no session standing and no claim held, opens the session at that level; provisioning in BLANK with slot 0,
KTK and OIK burns them and enters PROVISIONED. A session reads registers and the last-gasp bank at level 1, and at level 2 halts
and resumes cores and reads granted memory (bytes nothing wrote are free values). Its LIMIT ends it with its event; the 60 s
after eight rejections end the refusal of tokens. In a level-3 session on an entry that is there, a boundary-scan, memory-BIST
or test-mode access is refused as testAccess: R466 names these accesses and gives them no effect. The DEV_SVC_OUT_LEN write that
submits one through the window stops the same way; a write that submits an IDENTIFY message answers it. (R449, R451, R453, R466,
R467, R469, R470) -/
def Obligations.debug_sessions_and_test_accesses : Prop :=
 ((∀ (e : Fin 2) (tag : U16) (s : State), svcOpen e.val s = true → s.sec.lc ≠ 5 → exec (.debugChallenge e tag) s = .next
    (svcReply e.val 0x20 tag { status := .ok, payload := Config.random s.free, st := { s with free := s.free + 1, sec := { s.sec with
      challenge := some (Config.random s.free, s.elapsed) } } })) ∧
  (∀ (e : Fin 2) (tag : U16) (l : Byte) (tok : List Byte) (s : State), svcOpen e.val s = true → s.sec.lc = 0 → l = 1 ∨ l = 2 →
    s.sec.session = none → s.brk.hold = false → frozen s 4 = false → ∃ t, exec (.debugToken e tag l tok) s = .next t ∧
      t.sec.session = some { level := l.toNat, entry := e.val, at_ := s.elapsed, limit := 28800 } ∧ raised 98 t = true) ∧
  (∀ (e : Fin 2) (tag : U16) (p : Provision) (s : State), svcOpen e.val s = true → s.sec.lc = 0 → p.owners.any (fun o => o.1.val == 0) = true →
    p.owners.all (fun o => decide (o.2.length = 48)) = true → p.ktk.length = 32 → p.oik.length = 32 →
    p.pair.any (fun k => decide (k.length ≠ 32)) = false → ∃ t, exec (.provisioningSession e tag p) s = .next t ∧
      t.sec.lc = 1 ∧ t.sec.ktk = some p.ktk ∧ t.sec.oik = some p.oik ∧ t.sec.pairKey = p.pair ∧ raised 94 t = true) ∧
  (∀ (e : Fin 2) (tag : U16) (d : Debug) (s : State), svcOpen e.val s = true → s.sec.lc ≠ 5 → s.sec.session = some d → d.entry = e.val → 1 ≤ d.level →
    frozen s 5 = false →
    (∀ r, darkAt s r = false → exec (.debugAccess e tag (.readReg r)) s = .next (svcReply e.val 0x23 tag
      { status := .ok, payload := leBytes 4 (regValue s r), st := if isRc r then regClear r s else s })) ∧
    exec (.debugAccess e tag .readBank) s = .next (svcReply e.val 0x23 tag { status := .ok, payload := bankBytes s, st := s }) ∧
    (2 ≤ d.level →
      (∀ k, exec (.debugAccess e tag (.halt k)) s = .next (svcReply e.val 0x23 tag { status := .ok, st := { s with sec := { s.sec with
        session := some { d with halted := setBit d.halted k.val } } } })) ∧
      (∀ k, exec (.debugAccess e tag (.resume k)) s = .next (svcReply e.val 0x23 tag { status := .ok, st := { s with sec := { s.sec with
        session := some { d with halted := clrBit d.halted k.val } } } })) ∧
      ∀ a n, n ≤ 4080 → granted s 5 a n false = true → memDark a s = false → ∃ l, l.length = n ∧ exec (.debugAccess e tag (.readMem a n)) s =
        .next (svcReply e.val 0x23 tag { status := .ok, payload := l, st := { s with free := s.free + n } }))) ∧
  (∀ (d : Debug) (s : State), s.sec.session = some d → passed s d.at_ (d.limit * tickS) = true → ∃ t, exec .debugLimitExpiry s = .next t ∧
    t.sec = { s.sec with session := none } ∧ raised 99 t = true) ∧
  ∀ (a : Nat) (s : State), s.sec.lockout = some a → passed s a (60 * tickS) = true →
    exec .tokenLockoutEnd s = .next { s with sec := { s.sec with lockout := none } }) ∧
 ((∀ (e : Fin 2) (tag : U16) (d : Debug) (s : State), svcOpen e.val s = true → s.sec.session = some d → d.entry = e.val → 3 ≤ d.level →
    frozen s 5 = false → exec (.debugAccess e tag .test) s = .refused .testAccess) ∧
  (∀ (v : U32) (s : State), submitsTest v.toNat (some (.access .test)) s = true →
    exec (.devSvcOutLenWrite v (some (.access .test))) s = .refused .testAccess) ∧
  ∀ (tag : U16) (s : State), dark s .dev = false → svcOpen 1 s = true →
    svcOut 16 s = leBytes 2 0x53C7 ++ [1, 0] ++ leBytes 2 tag.toNat ++ zeros 10 →
    exec (.devSvcOutLenWrite 16 none) s = .next (svcReply 1 1 tag (svcIdentify s)))

/-- For each group with a parameter table: a get of a known PID and SCOPE completes OK with the value that stands in RESULT and
changes nothing else; a set of one to four distinct entries, each within range, that passes the checks across parameters and the
DRAM budget with its state condition met, completes OK with COUNT and leaves exactly the configuration those entries give; an
entry out of range, or one named twice, is answered BAD_PARAM with nothing applied. (R367, R135, R372, R177, R211, R246, R279,
R308, R333, R426, R446, R400) -/
def Obligations.configuration_commands : Prop :=
  ∀ gi ∈ cfgCommands, ∀ (c : Ctx) (s : State),
    (∀ e : CfgEntry, accepts (gi.2 c 1 [e]) s = true → (paramSpec gi.1 e.pid.toNat e.scope.toNat).isSome = true →
      exec (gi.2 c 1 [e]) s = .next (finish c .ok (cfgResult (param s gi.1 e.pid.toNat e.scope.toNat)) [] s)) ∧
    (∀ ents : List CfgEntry, accepts (gi.2 c 0 ents) s = true → ents ≠ [] → ents.length ≤ 4 → settable gi.1 ents s = true → entriesOk gi.1 ents = true →
      cfgOk gi.1 (cfgGet (cfgAfter gi.1 ents s.cfg) gi.1) s = true → dramFits (cfgAfter gi.1 ents s.cfg) s = true →
      ∃ t, exec (gi.2 c 0 ents) s = .next (finish c .ok ents.length [] t) ∧ t.cfg = cfgAfter gi.1 ents s.cfg) ∧
    ∀ ents : List CfgEntry, accepts (gi.2 c 0 ents) s = true → ents ≠ [] → ents.length ≤ 4 → settable gi.1 ents s = true → entriesOk gi.1 ents = false →
      exec (gi.2 c 0 ents) s = .next (reply c .badParam 0 c.xin.length s)

/-- In RUN or TRIM with Brake alight, a contender that samples its own claim in slots 1 to 8 wins (so do both devices with equal claims, each
of which sees its own): it holds the claim at the level that round took, a device in ACTIVE enables all four groups (in TRIM FLUME and
CHK), a contender with current state becomes ACTIVE, any other RESTORING with CHK only; the first win is told of. One that samples a
greater claim loses: claim zero, every group released, role STANDBY, HUSH entered, and a held claim's loss told of. One that samples a
lesser byte has pulled a slot low that reads high: a line fault, the claim zero and every group released. A loser in RESTORING, for which
R435 has no row, stops holding the claim and stays (the model's reading, log entry 85). A listener with no deep debug
session that sees a claim goes to STANDBY and HUSH. (R430, R431, R432, R433, R434, R435, R448, R491) -/
def Obligations.claim_rounds : Prop :=
  (∀ (seen : Byte) (pr : Bool) (s : State), s.pwr.st = .run ∨ s.pwr.st = .trim → dark s .brk = false → s.brk.role ≠ .proof →
    seen ≠ 0 → seen.toNat = claimByte (takeLevel s) →
    let role := if s.brk.role = .contend then (if s.brk.current then .active else .restoring) else s.brk.role
    ∃ t, exec (.claimRoundEnd seen pr) s = .next t ∧ t.brk.hold = true ∧ t.brk.role = role ∧
      t.brk.level = (takeLevel s).brk.level ∧ t.brk.winner = seen.toNat ∧
      t.brk.groups = (if role = .active then (if s.pwr.st = .trim then 0xC else 0xF) else 8) ∧
      (s.brk.hold = false → raised 88 t = true)) ∧
  (∀ (seen : Byte) (s : State), s.pwr.st = .run ∨ s.pwr.st = .trim → dark s .brk = false → s.brk.role = .restoring →
    claimByte (takeLevel s) ≠ 0 → claimByte (takeLevel s) < seen.toNat →
    ∃ t, exec (.claimRoundEnd seen true) s = .next t ∧ t.brk.hold = false ∧ t.brk.groups = 0 ∧ t.brk.role = .restoring ∧
      t.brk.winner = seen.toNat ∧ (s.brk.hold = true → raised 89 t = true)) ∧
  (∀ (seen : Byte) (s : State), s.pwr.st = .run ∨ s.pwr.st = .trim → dark s .brk = false → s.brk.role = .active ∨ s.brk.role = .contend →
    claimByte (takeLevel s) ≠ 0 → claimByte (takeLevel s) < seen.toNat →
    ∃ t, exec (.claimRoundEnd seen true) s = .next t ∧ t.brk.hold = false ∧ t.brk.groups = 0 ∧ t.brk.level = 0 ∧
      t.brk.role = .standby ∧ t.brk.winner = seen.toNat ∧ t.pwr.st = .hush ∧ (s.brk.hold = true → raised 89 t = true)) ∧
  (∀ (seen : Byte) (pr : Bool) (s : State), s.pwr.st = .run ∨ s.pwr.st = .trim → dark s .brk = false →
    claimByte (takeLevel s) < 256 → seen.toNat < claimByte (takeLevel s) →
    ∃ t, exec (.claimRoundEnd seen pr) s = .next t ∧ t.brk.hold = false ∧ t.brk.groups = 0 ∧ t.brk.level = 0 ∧ t.brk.role = .fault ∧
      t.brk.lineFault = true ∧ t.saf.safe = true ∧ raised 90 t = true) ∧
  ∀ (seen : Byte) (pr : Bool) (s : State), s.pwr.st = .run ∨ s.pwr.st = .trim → dark s .brk = false → seen ≠ 0 →
    claimByte (takeLevel s) = 0 → s.brk.role = .listen → deepDebug s = false →
    ∃ t, exec (.claimRoundEnd seen pr) s = .next t ∧ t.brk.hold = false ∧ t.brk.groups = 0 ∧ t.brk.role = .standby ∧ t.pwr.st = .hush

/-- A line fault outside FAULT drops the claim to zero, releases every group, enters FAULT and the safe state and is told of.
The drop of R480 step 4, once transmitters are idle or 8 ms have passed, does the same and tells of the safe state. CLAIM_SET
drop in ACTIVE leaves IDLE with no claim and no group, and in CONTEND or RESTORING no claim and no group in that role (log entry 85);
raise at an active level in ACTIVE takes that level from the next round and changes nothing else, and in IDLE with no round running it
contends. A listening device with no deep debug session whose bus has been idle for LISTEN_US contends at LEVEL
1. (R382, R429, R433, R435, R480, R481) -/
def Obligations.claim_faults_and_drops : Prop :=
  (∀ (cause : Fin 4) (slot : Fin 10) (s : State), dark s .brk = false → s.brk.role ≠ .fault →
    ∃ t, exec (.claimLineFault cause slot) s = .next t ∧ t.brk.hold = false ∧ t.brk.groups = 0 ∧ t.brk.level = 0 ∧
      t.brk.role = .fault ∧ t.brk.lineFault = true ∧ t.saf.safe = true ∧ t.saf.latched.getLsbD 4 = true ∧ raised 90 t = true) ∧
  (∀ (t0 c : Nat) (s : State), s.saf.dropDue = some (t0, c) → txIdle s = true ∨ passed s t0 (8 * tickMs) = true →
    ∃ t, exec .safeStateClaimDrop s = .next t ∧ t.brk.hold = false ∧ t.brk.groups = 0 ∧ t.brk.level = 0 ∧ t.brk.role = .fault ∧
      t.saf.dropDue = none ∧ raised 121 t = true) ∧
  (∀ (c : Ctx) (l : Byte) (s : State), accepts (.claimSet c 0 l) s = true → s.brk.role = .active →
    ∃ t, exec (.claimSet c 0 l) s = .next (finish c .ok 0 [] t) ∧ t.brk.role = .idle ∧ t.brk.hold = false ∧ t.brk.groups = 0 ∧
      t.brk.level = 0 ∧ (s.brk.hold = true → raised 89 t = true)) ∧
  (∀ (c : Ctx) (l : Byte) (s : State), accepts (.claimSet c 0 l) s = true → s.brk.role = .contend ∨ s.brk.role = .restoring →
    ∃ t, exec (.claimSet c 0 l) s = .next (finish c .ok 0 [] t) ∧ t.brk.role = s.brk.role ∧ t.brk.hold = false ∧ t.brk.groups = 0 ∧
      t.brk.level = 0) ∧
  (∀ (c : Ctx) (l : Byte) (s : State), accepts (.claimSet c 1 l) s = true → s.brk.role = .idle → roundsRun s = false → s.saf.safe = false →
    deepDebug s = false → 2 ≤ l.toNat → l.toNat ≤ 127 →
    exec (.claimSet c 1 l) s = .next (finish c .ok 0 [] { s with brk := { s.brk with role := .contend, next := some l.toNat } })) ∧
  (∀ (c : Ctx) (l : Byte) (s : State), accepts (.claimSet c 1 l) s = true → s.brk.role = .active → s.saf.safe = false → deepDebug s = false →
    2 ≤ l.toNat → l.toNat ≤ 127 →
    exec (.claimSet c 1 l) s = .next (finish c .ok 0 [] { s with brk := { s.brk with next := some l.toNat } })) ∧
  ∀ s : State, dark s .brk = false → s.brk.role = .listen → deepDebug s = false → s.svc.boot = .loader ∨ s.svc.boot = .firmware →
    s.brk.roundAt = 0 ∨ passed s (s.brk.roundAt - 1) (paramN s .brake 1 0 * tickUs) = true →
    exec .busIdle s = .next { s with brk := { s.brk with
      role := .contend, level := 1, next := none, seen := 0, onProof := false, current := false } }

/-- In ACTIVE with CHK ready, not full and no checkpoint running, CHECKPOINT and the expiry of CKPT_PERIOD each start one of the
next generation with a snapshot of the state, the tables as they stand and the table pages that changed. A page program of it places the
next changed table page; the one that ends its stream notes END and seals the commit record with the pair key's CMAC. A good read-back of
its anchor then completes it as the newest of the two generations kept, and what it took is what the next one compares with; a bad one
gives it up, counts and tells of the failure and keeps the generations there were. BRK_PEER_S past PEER_SILENT raises the peer-silent event
once. (R382, R425, R438, R439, R440, R444, R448) -/
def Obligations.checkpoints : Prop :=
  (∀ (c : Ctx) (s : State), accepts (.checkpoint c) s = true → s.brk.role = .active → s.gra.chk.st = .ready → s.brk.run = none → chkFull s = false →
    ∃ t, exec (.checkpoint c) s = .next t ∧ t.snap = some (snapshot (s.brk.lastGen + 1) s) ∧ t.chk = s.chk ∧ t.led = s.led ∧ t.tai = s.tai ∧
      t.brk = { s.brk with run := some { gen := s.brk.lastGen + 1, at_ := s.elapsed, cmd := some (jobOf c s), pages := tablePages s
                                         tables := tablesOf ((s.brk.base.map (·.dir)).getD []) s, changed := changedPages s }
                           lastGen := s.brk.lastGen + 1, lastCkpt := s.elapsed }) ∧
  (∀ s : State, s.brk.role = .active → s.gra.chk.st = .ready → s.brk.run = none → chkFull s = false → paramN s .brake 2 0 ≠ 0 →
    passed s s.brk.lastCkpt (paramN s .brake 2 0 * tickS) = true →
    ∃ t, exec .ckptPeriodTimer s = .next t ∧ t.snap = some (snapshot (s.brk.lastGen + 1) s) ∧ t.chk = s.chk ∧ t.led = s.led ∧ t.tai = s.tai ∧
      t.brk = { s.brk with run := some { gen := s.brk.lastGen + 1, at_ := s.elapsed, cmd := none, pages := tablePages s
                                         tables := tablesOf ((s.brk.base.map (·.dir)).getD []) s, changed := changedPages s }
                           lastGen := s.brk.lastGen + 1, lastCkpt := s.elapsed }) ∧
  (∀ (r : CkptRun) (k : Ckpt) (b p x : Nat) (s : State), s.brk.run = some r → s.snap = some k → r.done = false → r.open_ = some (b, p) →
    p < pagesPer s.gra.chk → s.gra.chk.st = .ready → halted s .gra 10 = false →
    (∀ q rest, r.changed = q :: rest → ∃ t, exec (.nandProgramDone true .ckpt x true) s = .next t ∧ t.snap = some k ∧
      t.brk = { s.brk with run := some { r with
        changed := rest, placed := tset none r.placed q (some (b * pagesPer s.gra.chk + p)), open_ := some (b, p + 1) } }) ∧
    (r.changed = [] → partCount ≤ r.part → r.stream.length ≤ 16384 * (r.sp + 1) → ∃ t r' g head,
      exec (.nandProgramDone true .ckpt x true) s = .next t ∧ t.brk = { s.brk with run := some r' } ∧ r'.done = true ∧ r'.sp = r.sp + 1 ∧
      t.snap = some g ∧ g = { k with endS := nowS s, endNs := nowNs s, extents := r'.extents, len := r.stream.length, commit := g.commit } ∧
      g.commit = head ++ Config.cmac (pairKey s) head)) ∧
  (∀ (r : CkptRun) (k : Ckpt) (s : State), halted s .gra 10 = false → s.brk.run = some r → s.snap = some k → r.done = true →
    ∃ t, exec (.checkpointComplete true) s = .next t ∧ t.chk = (k :: s.chk).take 2 ∧ t.snap = none ∧
    t.brk = { s.brk with run := none, ckptMs := (s.elapsed - r.at_) / tickMs, ckptS := some k.startS
                         base := some { r.tables with dir := k.dir } }) ∧
  (∀ (r : CkptRun) (k : Ckpt) (s : State), halted s .gra 10 = false → s.brk.run = some r → s.snap = some k → r.done = true →
    ∃ t, exec (.checkpointComplete false) s = .next t ∧
    t.chk = s.chk ∧ t.snap = none ∧ t.brk = { s.brk with run := none } ∧ cnt 0xB001C t = sat32 (cnt 0xB001C s + 1) ∧ raised 91 t = true) ∧
  ∀ s : State, s.brk.role = .active → paramN s .brake 4 0 ≠ 0 → s.brk.peerAt ≠ 0 → s.brk.peerRaised = false →
    passed s (s.brk.peerAt - 1) (paramN s .brake 4 0 * 3600 * tickS + tickS) = true →
    ∃ t, exec .peerSilent s = .next t ∧ t.brk = { s.brk with peerRaised := true } ∧ raised 93 t = true

/-- POWER_STATE to DOZE, HUSH or OFF from RUN with no entry running and no core halted answers OK and starts the entry sequence,
leaving the state as it is until its end; to TRIM with nothing on air it releases RAD and PLC, keeps FLUME and CHK, and is told
of. The entry's last step enters the target, which sets PWR_EN as R490 gives and is told of; before it, with no checkpoint
running, the claim goes to zero and the role leaves for IDLE (FAULT stays). WAKE_CONFIG within its ranges sets address and
sources and nothing else. (R384, R490, R491, R492, R495) -/
def Obligations.power_states : Prop :=
  (∀ (c : Ctx) (k : Byte) (s : State), accepts (.powerState c k) s = true → s.pwr.st = .run → s.pwr.entry = none → 2 ≤ k.toNat → k.toNat ≤ 4 →
    coreHalted s = false → ∃ t, exec (.powerState c k) s = .next t ∧ t.pwr.st = .run ∧
      t.pwr.entry = some (pstateOf k.toNat, 2, s.elapsed, false) ∧ t.brk = s.brk) ∧
  (∀ (c : Ctx) (s : State), accepts (.powerState c 1) s = true → s.pwr.st = .run → s.pwr.entry = none → txIdle s = true → s.pwr.heldWake = 0 →
    ∃ t, exec (.powerState c 1) s = .next t ∧ t.pwr.st = .trim ∧ t.pwr.entry = none ∧ grp t 0 = false ∧ grp t 1 = false ∧
      grp t 2 = grp s 2 ∧ grp t 3 = grp s 3 ∧ t.brk.hold = s.brk.hold ∧ raised 102 t = true) ∧
  (∀ (k : PState) (t0 : Nat) (sb : Bool) (s : State), s.pwr.entry = some (k, 6, t0, sb) → k = .doze ∨ k = .hush ∨ k = .off →
    ∃ t, exec .powerEntryStep s = .next t ∧ t.pwr.st = k ∧ t.pwr.entry = none ∧ raised 102 t = true ∧ t.sec.session = none ∧
      (s.pwr.heldWake = 0 → t.pwr.pwrEn = (if k = .doze then 0xE else 0))) ∧
  (∀ (k : PState) (t0 : Nat) (sb : Bool) (s : State), s.pwr.entry = some (k, 5, t0, sb) → k ≠ .trim → s.brk.run = none →
    ∃ t, exec .powerEntryStep s = .next t ∧ t.pwr.entry = some (k, 6, t0, sb) ∧ t.brk.hold = false ∧ t.brk.groups = 0 ∧ t.brk.level = 0 ∧
      t.brk.role = (if s.brk.role = .fault then .fault else .idle)) ∧
  ∀ (c : Ctx) (a src : Byte) (s : State), accepts (.wakeConfig c a src) s = true → 8 ≤ a.toNat → a.toNat < 0x78 → src.toNat < 8 →
    exec (.wakeConfig c a src) s = .next (finish c .ok 0 [] { s with pwr := { s.pwr with mgmtAddr := a.toNat, wakeSrc := src.toNat } })

/-- A SYSTEM reset by RSTn or by command returns everything outside AON, OTP, the image store and NAND to reset: configuration,
Ledger, recorder memory, queues, pairs, routing and the claim; it keeps OTP, the last-gasp bank, complete checkpoints and the
staged image, records its cause and restarts start-up from step 2; a FAILED recorder waits for the suite of that start-up (R398).
RESET of kind HOST touches the host interface alone and FIRMWARE the pairs, the core freezes and READY: D3hot and the PCIe
configuration stay. The loss of supplies does as much, and the loss of VDD_AON clears the RTC and
the bank too. PORn's release starts the boot with UNIT_ID sampled. (R334, R339, R501, R502, R503, R506) -/
def Obligations.resets : Prop :=
  (∀ s : State, s.pwr.on = true → ∃ t, exec .systemReset s = .next t ∧ t.pwr.resetCause = 2 ∧
    t.cfg = [] ∧ t.rc = [] ∧ t.hop = {} ∧ t.evt = {} ∧ t.que = {} ∧ t.wei = {} ∧ t.van = {} ∧ t.lea = {} ∧ t.tai = {} ∧ t.saf = {} ∧
    t.led = { dramMiB := s.led.dramMiB } ∧ t.log.mem = [] ∧ t.log.nextSeq = 1 ∧
    (s.sec.session = none → t.log = { bank := s.log.bank, lgSticky := s.log.lgSticky, failed := s.log.failed }) ∧ t.sec = otpSec s.sec ∧
    t.chk = s.chk ∧ t.svc.staging = s.svc.staging ∧ t.svc.running = s.svc.running ∧ t.svc.boot = .rom ∧ t.dev = { quiet := true, paceAt := s.elapsed } ∧
    t.brk.hold = false ∧ t.brk.groups = 0 ∧ t.brk.level = 0 ∧ t.pwr.waking = some { since := s.elapsed, at_ := s.elapsed }) ∧
  (∀ (c : Ctx) (k : Byte) (s : State), accepts (.reset c k) s = true → k.toNat ≤ 2 → ∃ t, exec (.reset c k) s = .next t ∧
    t.pwr.resetCause = (if k = 0 then 16 else if k = 1 then 8 else 4) ∧ t.hop.pairs = [] ∧
    (k = 0 → t.hop.d3hot = false ∧ t.hop.pcie = {} ∧ t.evt = {} ∧ t.led = s.led ∧ t.brk = s.brk ∧ t.ing = s.ing) ∧
    (k = 1 → t.hop.d3hot = s.hop.d3hot ∧ t.hop.pcie = s.hop.pcie ∧ t.dev = { s.dev with ready := false } ∧ t.sec.frozen = s.sec.frozen &&& 0xFF0#12 ∧ t.sec.session = none ∧ t.led = s.led ∧
      t.brk = s.brk ∧ t.svc.lock = none) ∧
    (k = 2 → t.cfg = [] ∧ t.hop = {} ∧ t.evt = {} ∧ t.brk.hold = false ∧ t.svc.boot = .rom)) ∧
  (∀ (aon : Bool) (s : State), ∃ t, exec (.supplyLoss aon) s = .next t ∧ t.cfg = [] ∧ t.brk.hold = false ∧ t.brk.groups = 0 ∧
    t.pwr.on = false ∧ t.sec = otpSec s.sec ∧ t.chk = s.chk ∧ t.svc.running = s.svc.running ∧
    t.log.bank = (if aon then [] else s.log.bank) ∧ t.pwr.rtcValid = (if aon then false else s.pwr.rtcValid) ∧
    t.pwr.mgmtAddr = (if aon then 0x5A else s.pwr.mgmtAddr)) ∧
  ∀ (u : Bool) (s : State), s.pwr.on = false → exec (.powerOn u) s = .next { s with
    pwr := { s.pwr with on := true, quiet := true, quietAt := s.elapsed, pwrEn := 0xF, resetCause := 1
                        waking := some { since := s.elapsed, at_ := s.elapsed } }
    dev := { s.dev with quiet := true }
    brk := { s.brk with unitId := u, startAt := s.elapsed }
    svc := { s.svc with boot := .rom } }

/-- An enabled wake event in DOZE or HUSH with none in progress latches the wake and raises PWR_EN; the armed watcher, four AON
periods after the last round, fires as one, and so does PROOF_PERIOD spent in STANDBY. A failed attempt pauses and is told of,
and 10 ms later the PMC tries again; the fourth failure is a wake failure with SAFE_nFAULT low. A completed wake from HUSH boots
from step 2, one from DOZE resumes the state it was entered from with Brake listening, no claim and no group. (R436, R444, R495,
R496, R497, R498) -/
def Obligations.wakes : Prop :=
  (∀ (k : Fin 3) (s : State), s.pwr.st = .doze ∨ s.pwr.st = .hush → s.pwr.entry = none → s.pwr.waking = none → s.pwr.wakeFail = false →
    bits s.pwr.wakeSrc k.val 1 = 1 → (k.val = 2 → s.brk.fired = true) → exec (.wakeEvent k) s = .next { s with
      pwr := { s.pwr with waking := some { since := s.elapsed, at_ := s.elapsed }, pwrEn := 0xF, wakeCause := 2 ^ k.val, wakeAttempts := 1
                          wakeOk := false, wakeFrom := fromCode s.pwr.st, quiet := true, quietAt := s.elapsed }
      dev := { s.dev with quiet := true } }) ∧
  (∀ s : State, s.pwr.st = .doze ∨ s.pwr.st = .hush → s.pwr.entry = none → s.pwr.waking = none → s.pwr.wakeFail = false →
    s.brk.armed = true → bits s.pwr.wakeSrc 2 1 = 1 → passed s (s.brk.roundAt - 1) watchTicks = true →
    exec (.claimWatcherFire false) s = .next (startSeq 4 { s with brk := { s.brk with armed := false, fired := true, oneLine := false } })) ∧
  (∀ s : State, s.pwr.st = .hush → s.pwr.entry = none → s.brk.role = .standby → s.pwr.waking = none → s.pwr.wakeFail = false →
    paramN s .brake 3 0 ≠ 0 → passed s s.brk.standbyAt (paramN s .brake 3 0 * 3600 * tickS) = true →
    exec .proofTimer s = .next (startSeq 0 { s with brk := { s.brk with onProof := true } })) ∧
  (∀ (pll : Bool) (w : Waking) (s : State), s.pwr.waking = some w → w.pause = false →
    passed s w.at_ (if pll then 500 * tickUs else 3 * tickMs) = true → ∃ t, exec (.wakeAttemptTimeout pll) s = .next t ∧ raised 104 t = true ∧
      (w.tries < 3 → t.pwr.waking = some { w with tries := w.tries + 1, at_ := s.elapsed, pause := true }) ∧
      (3 ≤ w.tries → t.pwr.waking = none ∧ t.pwr.wakeFail = true ∧ t.pwr.wakeFault = true ∧ raised 105 t = true)) ∧
  (∀ (w : Waking) (s : State), s.pwr.waking = some w → w.pause = true → passed s w.at_ (10 * tickMs) = true →
    ∃ t, exec .wakeRetryTimer s = .next t ∧ t.pwr.waking = some { w with at_ := s.elapsed, pause := false } ∧ t.pwr.pwrEn = 0xF ∧
      (s.pwr.st ≠ .run → t.pwr.wakeAttempts = w.tries + 1) ∧ t = { s with pwr := t.pwr }) ∧
  (∀ (w : Waking) (s : State), s.pwr.waking = some w → w.pause = false → s.pwr.st = .hush → ∃ t, exec .wakeComplete s = .next t ∧
    t.pwr.st = .run ∧ t.pwr.waking = none ∧ t.pwr.wakeOk = true ∧ t.pwr.resetCause = 32 ∧ t.svc.boot = .rom ∧ t.brk.hold = false ∧ t.cfg = [] ∧
    raised 103 t = true) ∧
  ∀ (w : Waking) (s : State), s.pwr.waking = some w → w.pause = false → s.pwr.st = .doze → s.brk.fired = false → ∃ t,
    exec .wakeComplete s = .next t ∧ t.pwr.st = s.pwr.dozeFrom ∧ t.pwr.waking = none ∧ t.pwr.wakeOk = true ∧ t.brk.hold = false ∧
    t.brk.groups = 0 ∧ t.brk.level = 0 ∧ t.brk.role = (if s.brk.role = .fault then .fault else .listen) ∧ t.cfg = s.cfg ∧ raised 103 t = true

/-- The boot ROM starts the loader from the copy in use, or from the other, when one passes its checks, with no claim, the level zero and the
role LISTEN, PROOF after a proof wake; when neither passes the boot fails: cause 12, the safe state, the role FAULT, no claim, and its
event. In life cycle 5 nothing boots. The loader boots a main firmware that passes and the device is ready; when only FALLBACK passes it
begins the reverting copy, when neither does the boot fails. Neither acts while a copy is under way. A good chunk moves the copy one chunk
on and puts its journal record in force, the last chunk of COPY makes the staged image the running one, on trial; a bad chunk is written
once more, and a second time fails the boot. A restore takes the newest generation if it verifies, else the one before it: configuration
and key vault are its own, QUIET ends, the role is ACTIVE and the takeover event says which; with no generation the role is ACTIVE too;
with none that verifies the role is FAULT, the claim zero and the safe state stands with cause 11. Every wrapped slot of the generation
is unwrapped under this device's pair key; one that does not unwrap leaves an empty key (R118, log entry 88). With no generation the Ledger is
empty, and the running configuration is the stored set's. (R435, R441, R442, R443, R459, R471,
R503, R504, R517, R518) -/
def Obligations.boot_and_restore : Prop :=
  (∀ (f : Byte) (s : State), s.svc.boot = .rom → (∀ w, s.pwr.waking = some w → w.pause = false) →
    (s.pwr.waking = none → s.pwr.wakeFail = false) → s.svc.upd = .idle → s.brk.fired = false →
    let good := imageCheck s 1 s.svc.loader0.bytes = .good ∨ imageCheck s 1 s.svc.loader1.bytes = .good
    ∃ t, exec (.bootChain 0 f) s = .next t ∧ t.pwr.waking = none ∧
      (s.sec.lc = 5 → t.svc.boot = .failed ∧ t.dev.ready = s.dev.ready ∧ t.saf = s.saf) ∧
      (s.sec.lc ≠ 5 → good → t.svc.boot = .loader ∧ t.brk.level = 0 ∧ t.brk.hold = false ∧ t.brk.groups = 0 ∧
        t.brk.role = if s.brk.onProof then .proof else .listen) ∧
      (s.sec.lc ≠ 5 → ¬ good → s.saf.safe = false → t.svc.boot = .failed ∧ t.saf.safe = true ∧ t.saf.latched.getLsbD 12 = true ∧
        t.brk.role = .fault ∧ t.brk.hold = false ∧ t.brk.groups = 0 ∧ t.dev.ready = false ∧ raised 101 t = true)) ∧
  (∀ (u f : Byte) (s : State), s.svc.boot = .loader →
    (copying s = true → exec (.bootChain u f) s = .next s) ∧
    (copying s = false → ∃ t, exec (.bootChain u f) s = .next t ∧
      (imageCheck s 2 s.svc.running.bytes = .good → t.svc.boot = .firmware ∧ t.dev.ready = true ∧ t.svc.readyAt = s.elapsed ∧
        t.ing.hrOpen = true ∧ t.dev.fwVer = s.svc.running.version) ∧
      (imageCheck s 2 s.svc.running.bytes ≠ .good → imageCheck s 2 s.svc.fallback.bytes = .good →
        t.svc.boot = .loader ∧ t.svc.upd = .revert ∧ t.svc.chunk = 0 ∧ t.svc.revertReq = some 8) ∧
      (imageCheck s 2 s.svc.running.bytes ≠ .good → imageCheck s 2 s.svc.fallback.bytes ≠ .good → s.saf.safe = false →
        t.svc.boot = .failed ∧ t.saf.safe = true ∧ t.saf.latched.getLsbD 12 = true ∧ t.brk.role = .fault ∧ raised 101 t = true))) ∧
  (∀ s : State, s.svc.boot = .loader → copying s = true →
    (s.svc.chunkRetry = false → exec (.loaderChunkDone false) s = .next { s with svc := { s.svc with chunkRetry := true } }) ∧
    (s.svc.chunkRetry = true → ∃ t, exec (.loaderChunkDone false) s = .next t ∧ t.svc.boot = .failed ∧ raised 101 t = true ∧
      t.saf.latched.getLsbD 12 = true) ∧
    (s.svc.chunk + 1 < chunksOf s → ∃ t, exec (.loaderChunkDone true) s = .next t ∧ t.svc.chunk = s.svc.chunk + 1 ∧
      t.svc.chunkRetry = false ∧ t.svc.upd = s.svc.upd ∧ t.svc.jseq = s.svc.jseq + 1 ∧ journalInForce t = some (journalRecord true t)) ∧
    (s.svc.upd = .copy → chunksOf s ≤ s.svc.chunk + 1 → ∃ t, exec (.loaderChunkDone true) s = .next t ∧ t.svc.upd = .trial ∧
      t.svc.running = stagedImage s ∧ t.svc.fallback = s.svc.fallback ∧ t.svc.tries = 1)) ∧
  ∀ s : State, dark s .brk = false → s.brk.role = .restoring → s.brk.hold = true → s.svc.boot = .firmware → s.gra.chk.st = .ready →
    s.brk.keep = false →
    (∀ (k : Ckpt) (l : List Ckpt) (p : Bool), s.chk = k :: l → ckptSound s k = true → ∃ t, exec (.restoreComplete true p) s = .next t ∧
      t.brk.role = .active ∧ t.brk.current = true ∧ t.brk.next = some (cfgGet k.cfg .brake 0 0).toNat ∧ t.cfg = k.cfg ∧
      ((k.vault.map (·.1)).Nodup → ∀ e b, (e, b) ∈ k.vault → tget none t.sec.vault e = some ((unwrapSlot s b).getD { key := [] })) ∧ t.dev.quiet = false ∧ raised 92 t = true) ∧
    (∀ (k j : Ckpt) (l : List Ckpt) (n : Bool), s.chk = k :: j :: l → (n = false ∨ ckptSound s k = false) → ckptSound s j = true →
      ∃ t, exec (.restoreComplete n true) s = .next t ∧ t.brk.role = .active ∧ t.brk.current = true ∧ t.cfg = j.cfg ∧
        ((j.vault.map (·.1)).Nodup → ∀ e b, (e, b) ∈ j.vault → tget none t.sec.vault e = some ((unwrapSlot s b).getD { key := [] })) ∧ t.dev.quiet = false ∧ raised 92 t = true) ∧
    (∀ n p : Bool, s.chk = [] → ∃ t, exec (.restoreComplete n p) s = .next t ∧ t.brk.role = .active ∧ t.brk.current = true ∧
      t.led.entries = [] ∧ t.sec.vault = [] ∧ t.cfg = ((bestSet s.svc.cfgFormat s).map (·.2.cfg)).getD [] ∧
      t.dev.quiet = false ∧ raised 92 t = true) ∧
    (s.chk ≠ [] → s.saf.safe = false → ∃ t, exec (.restoreComplete false false) s = .next t ∧ t.brk.role = .fault ∧ t.brk.hold = false ∧
      t.brk.groups = 0 ∧ t.dev.quiet = false ∧ t.saf.safe = true ∧ t.saf.latched.getLsbD 11 = true)

/-- LANE_STOP of a running lane that is not the last one answers OK, clears its run bit, keeps the command cause and raises the
lane fault; on a stopped lane it changes nothing, on the last running lane it answers REFUSED_STATE. LANE_RESTART of a stopped
lane whose self-test passes answers OK, sets its run bit and clears its causes; a failed self-test answers REFUSED_STATE and
leaves it stopped; a running lane is untouched. A verdict on which the copies disagree stops the lane with the comparator cause,
and the last lane's stop enters the safe state with cause 9; a stopped lane, one with nothing in its input and one whose park buffer is
full gives no verdict. (R101, R102, R103, R107, R118, R386) -/
def Obligations.lanes_stop_and_return : Prop :=
  (∀ (c : Ctx) (l : Byte) (s : State), accepts (.laneStop c l) s = true → l.toNat < 4 →
    (s.ing.run.getLsbD l.toNat = false → exec (.laneStop c l) s = .next (finish c .ok 0 [] s)) ∧
    (s.ing.run.getLsbD l.toNat = true → clrBit s.ing.run l.toNat = 0 → exec (.laneStop c l) s = .next (reply c .refusedState 0 c.xin.length s)) ∧
    (s.ing.run.getLsbD l.toNat = true → clrBit s.ing.run l.toNat ≠ 0 → ∃ t, exec (.laneStop c l) s = .next (finish c .ok 0 [] t) ∧
      t.ing.run = clrBit s.ing.run l.toNat ∧ t.ing.mapRun = t.ing.run ∧ t.ing.cmd = setBit s.ing.cmd l.toNat ∧ t.ing.cmp = s.ing.cmp ∧
      t.ing.wdog = s.ing.wdog ∧ raised 0 t = true ∧ t.led = s.led ∧ t.saf = s.saf)) ∧
  (∀ (c : Ctx) (l : Byte) (p : Bool) (s : State), accepts (.laneRestart c l p) s = true → l.toNat < 4 →
    (s.ing.run.getLsbD l.toNat = true → exec (.laneRestart c l p) s = .next (finish c .ok 0 [] s)) ∧
    (s.ing.run.getLsbD l.toNat = false → p = false → exec (.laneRestart c l p) s = .next (reply c .refusedState 0 c.xin.length s)) ∧
    (s.ing.run.getLsbD l.toNat = false → p = true → ∃ t, exec (.laneRestart c l p) s = .next (finish c .ok 0 [] t) ∧
      t.ing.run = setBit s.ing.run l.toNat ∧ t.ing.mapRun = t.ing.run ∧ t.ing.cmd = clrBit s.ing.cmd l.toNat ∧
      t.ing.cmp = clrBit s.ing.cmp l.toNat ∧ t.ing.wdog = clrBit s.ing.wdog l.toNat ∧ t.led = s.led ∧ t.saf = s.saf)) ∧
  (∀ (l : Fin 4) (a x : Bool) (s : State), dark s .ing = false →
    (s.ing.run.getLsbD l.val = false ∨ (lane s l.val).input = [] ∨ (lane s l.val).park.length ≥ 64) → exec (.sluiceVerdict l a x) s = .next s) ∧
  ∀ (l : Fin 4) (x : Bool) (s : State), dark s .ing = false → s.ing.run.getLsbD l.val = true → (lane s l.val).input ≠ [] →
    (lane s l.val).park.length < 64 → ∃ t, exec (.sluiceVerdict l false x) s = .next t ∧ t.ing.run = clrBit s.ing.run l.val ∧ t.ing.cmp = setBit s.ing.cmp l.val ∧
      raised 0 t = true ∧ t.led.poisoned = s.led.poisoned ∧ t.ing.seen = s.ing.seen ∧
      (clrBit s.ing.run l.val = 0 → t.saf.safe = true ∧ t.saf.latched.getLsbD 9 = true)

/-- A monitored domain whose clock is lost is dead until it is restored; a radio port's and the AFE's losses raise their events, and ETH,
PCIE, MEM, NAND and SVC have theirs logged though no event code is given them (log entry 124); a loss of a domain that no monitor watches,
or one already lost, changes nothing, and a restored clock touches Flume alone. A bundled unit's trip is told of and no more. A trip in
the setpoint channels, their comparator or the safe-state logic raises the stall event; with a failed rerun it latches cause 1 and the
safe state stands, with a good one that is no recurrence it counts one transient fault and latches nothing. A Sluice stage whose rerun
fails stops its lane with the watchdog cause; a stopped lane's trip is told of alone. A core whose restart fails is frozen, and the
fourth enters the safe state; one whose restart brings it back is not. (R22, R23, R31, R475, R477, R478) -/
def Obligations.clocks_and_watchdogs : Prop :=
  (∀ (d : Dom) (s : State), (monitored s d = false ∨ s.dev.unclocked.contains d = true → exec (.clockLoss d) s = .next s) ∧
    (monitored s d = true → s.dev.unclocked.contains d = false → ∃ t, exec (.clockLoss d) s = .next t ∧
      t.dev.unclocked = d :: s.dev.unclocked ∧ (∀ p, d = .rfiq p → raised 28 t = true ∧ (vport t p.val).lock = false ∧
        (vport t p.val).acks = []) ∧ (d = .afe → raised 44 t = true) ∧ t.saf = s.saf ∧ t.led = s.led)) ∧
  (∀ (d : Dom) (s : State), ∃ t, exec (.clockRestore d) s = .next t ∧ t.dev.unclocked = s.dev.unclocked.filter (fun x => x != d) ∧
    t = { s with dev := { s.dev with unclocked := t.dev.unclocked }, flu := t.flu } ∧ (d ≠ .afe → t.flu = s.flu)) ∧
  (∀ (b : Fin 16) (k : Byte) (r : Bool) (s : State), dark s .ing = false → ∃ t, exec (.stageWatchdogTrip (.bundled b) k r) s = .next t ∧
    raised 120 t = true ∧ t.saf = s.saf ∧ t.ing = s.ing) ∧
  (∀ (u : StageUnit) (k : Byte) (s : State), dark s .ing = false → u ∈ [.setpointA, .setpointB, .setpointComparator, .safeLogic] →
    (∃ t, exec (.stageWatchdogTrip u k false) s = .next t ∧ raised 120 t = true ∧ t.saf.safe = true ∧ t.saf.latched.getLsbD 1 = true) ∧
    (recurs 1 s = true → ∃ t, exec (.stageWatchdogTrip u k true) s = .next t ∧ t.saf.safe = true ∧ t.saf.latched.getLsbD 1 = true) ∧
    (recurs 1 s = false → ∃ t, exec (.stageWatchdogTrip u k true) s = .next t ∧ raised 120 t = true ∧ raised 123 t = true ∧
      t.saf.safe = s.saf.safe ∧ t.saf.latched = s.saf.latched ∧ t.ing = s.ing)) ∧
  (∀ (l : Fin 4) (x : Bool) (k : Byte) (s : State), dark s .ing = false →
    (s.ing.run.getLsbD l.val = false → ∀ r, ∃ t, exec (.stageWatchdogTrip (.sluice l x) k r) s = .next t ∧ raised 120 t = true ∧
      t.ing = s.ing ∧ t.saf = s.saf) ∧
    (s.ing.run.getLsbD l.val = true → ∃ t, exec (.stageWatchdogTrip (.sluice l x) k false) s = .next t ∧ raised 120 t = true ∧
      raised 0 t = true ∧ t.ing.run = clrBit s.ing.run l.val ∧ t.ing.wdog = setBit s.ing.wdog l.val ∧
      (clrBit s.ing.run l.val = 0 → t.saf.safe = true ∧ t.saf.latched.getLsbD 9 = true))) ∧
  ∀ (k : Fin 4) (s : State), dark s .ing = false → s.saf.coresFrozen.getLsbD k.val = false →
    (∃ t, exec (.heartbeatMiss k false) s = .next t ∧ t.saf.coresFrozen = setBit s.saf.coresFrozen k.val ∧
      ((s.sec.frozen.truncate 4 ||| setBit s.saf.coresFrozen k.val) = 0xF#4 → t.saf.safe = true ∧ t.saf.latched.getLsbD 8 = true)) ∧
    (recurs 8 s = false → ∃ t, exec (.heartbeatMiss k true) s = .next t ∧ t.saf.coresFrozen = s.saf.coresFrozen ∧
      t.saf.safe = s.saf.safe ∧ raised 123 t = true)

/-- The rate check is bad when the count differs from 400,000,000 by more than TB_TOL; a first bad one raises the time-check
event and latches nothing, a second in a row latches cause 5 and enters the safe state, a good one after a bad one is a
transient fault. The monitor's stop enters the safe state at once. A readback that disagrees with the driven level raises its
event; one that agrees 1 ms later is transient unless it recurs, one that does not enters the safe state with cause 6. A
setpoint comparator found stuck twice enters it with cause 3, a Sluice comparator stops its lane, a comparator with nothing to
test in is counted and waits. (R475, R476, R477, R478, R483) -/
def Obligations.time_and_pin_checks : Prop :=
  (∀ (n : U32) (s : State), dark s .ing = false →
    let bad := 400 * s.saf.tbTol < ((n.toNat : Int) - 400000000).natAbs
    (bad → s.saf.tbBad = false → ∃ t, exec (.tbRateCheck n) s = .next t ∧ raised 124 t = true ∧ t.saf.tbBad = true ∧ t.saf.tbGood = 0 ∧
      t.saf.safe = s.saf.safe ∧ t.saf.latched = s.saf.latched) ∧
    (bad → s.saf.tbBad = true → ∃ t, exec (.tbRateCheck n) s = .next t ∧ t.saf.safe = true ∧ t.saf.latched.getLsbD 5 = true ∧
      t.saf.tbGood = 0) ∧
    (¬ bad → ∃ t, exec (.tbRateCheck n) s = .next t ∧ t.saf.tbBad = false ∧ t.saf.tbGood = s.saf.tbGood + 1 ∧ t.saf.safe = s.saf.safe ∧
      t.saf.latched = s.saf.latched ∧ (s.saf.tbBad = true → raised 123 t = true))) ∧
  (∀ s : State, dark s .ing = false → ∃ t, exec .tbMonitorStop s = .next t ∧ t.saf.safe = true ∧ t.saf.latched.getLsbD 5 = true ∧
    raised 124 t = true) ∧
  (∀ (a : Bool) (s : State), dark s .ing = false →
    exec (.safeNfaultReadback (safePin s) a) s = .next s ∧
    (∃ t, exec (.safeNfaultReadback (!safePin s) (!safePin s)) s = .next t ∧ raised 127 t = true ∧ t.saf.safe = true ∧
      t.saf.latched.getLsbD 6 = true) ∧
    (recurs 6 s = false → ∃ t, exec (.safeNfaultReadback (!safePin s) (safePin s)) s = .next t ∧ raised 127 t = true ∧
      raised 123 t = true ∧ t.saf.safe = s.saf.safe ∧ t.saf.latched = s.saf.latched)) ∧
  ∀ (stuck again gap : BitVec 5) (s : State), dark s .ing = false →
    ((stuck &&& ~~~gap) = 0 → exec (.comparatorSelfCheck stuck again gap) s =
      .next { s with saf := { s.saf with noGap := s.saf.noGap + ((List.range 5).filter (fun k => gap.getLsbD k)).length } }) ∧
    (stuck.getLsbD 4 = true → again.getLsbD 4 = true → gap.getLsbD 4 = false → ∃ t, exec (.comparatorSelfCheck stuck again gap) s = .next t ∧
      t.saf.safe = true ∧ t.saf.latched.getLsbD 3 = true ∧ raised 125 t = true) ∧
    ∀ k : Fin 4, s.ing.run.getLsbD k.val = true → stuck.getLsbD k.val = true → again.getLsbD k.val = true → gap.getLsbD k.val = false →
      ∃ t, exec (.comparatorSelfCheck stuck again gap) s = .next t ∧ t.ing.run.getLsbD k.val = false ∧ raised 0 t = true

/-- SELF_TEST with a bad test number or ARG answers BAD_PARAM, then REFUSED_STATE on a running lane, a port without a schedule, a held claim
or outside a proof-wake, then BUSY while the same test runs. Tests 1 (a stopped lane), 2, and 7 (on a proof-wake) answer their failure
code in RESULT and keep it; a failure is told of. Tests 3 and 4 wait for the rate check and for the next rotation slot, which
then takes the bank named; test 4 answers the memory failure at once where rotation has stopped; test 5 makes a calibration due on a port
that runs a schedule. Test 6, with no claim held, pulls SAFE_nFAULT low for its time; at its end the level is back unless the safe state
stands and no drill runs. (R365, R386, R478, R485) -/
def Obligations.self_tests : Prop :=
  (∀ (c : Ctx) (n a : Byte) (k : U32) (s : State), accepts (.selfTest c n a k) s = true →
    let busy := s.saf.tests.any (fun x => x.test == n.toNat)
    let later := fun (t : State) => onJob (jobOf c s) (fun e => { e with started := true, moved := c.xin.length }) t
    (n = 0 ∨ 8 ≤ n.toNat ∨ (n = 1 ∧ 4 ≤ a.toNat) ∨ (n = 4 ∧ 64 ≤ a.toNat) ∨ (n = 5 ∧ 4 ≤ a.toNat) ∨ (n = 6 ∧ a = 0 ∧ s.brk.hold = false) →
      exec (.selfTest c n a k) s = .next (reply c .badParam 0 c.xin.length s)) ∧
    ((n = 1 ∧ a.toNat < 4 ∧ s.ing.run.getLsbD a.toNat = true) ∨ (n = 5 ∧ a.toNat < 4 ∧ leaRuns s a.toNat = false) ∨
        (n = 6 ∧ s.brk.hold = true) ∨ (n = 7 ∧ s.brk.onProof = false) →
      exec (.selfTest c n a k) s = .next (reply c .refusedState 0 c.xin.length s)) ∧
    (busy = true → n = 3 ∨ (n = 4 ∧ a.toNat < 64) ∨ (n = 6 ∧ a ≠ 0 ∧ s.brk.hold = false) →
      exec (.selfTest c n a k) s = .next (reply c .busy 0 c.xin.length s)) ∧
    ((n = 1 ∧ a.toNat < 4 ∧ s.ing.run.getLsbD a.toNat = false) ∨ n = 2 ∨ (n = 7 ∧ s.brk.onProof = true) →
      ∃ t, exec (.selfTest c n a k) s = .next (finish c .ok k.toNat [] t) ∧ t.saf.stestLast = n.toNat ∧
        t.saf.stestRes = k.toNat % 256 ∧ t.saf.tests = s.saf.tests ∧ (k.toNat ≠ 0 → raised 125 t = true) ∧ (k.toNat = 0 → t.evt = s.evt)) ∧
    (busy = false → n = 4 → a.toNat < 64 → s.saf.rotStopped = true → ∃ t, exec (.selfTest c n a k) s = .next (finish c .ok 0xA [] t) ∧
      t.saf.stestLast = 4 ∧ t.saf.stestRes = 0xA ∧ raised 125 t = true) ∧
    (busy = false → n = 3 ∨ (n = 4 ∧ a.toNat < 64 ∧ s.saf.rotStopped = false) →
      exec (.selfTest c n a k) s = .next (later { s with saf := { s.saf with
        tests := s.saf.tests ++ [{ test := n.toNat, arg := a.toNat, job := jobOf c s, at_ := s.elapsed }]
        rotNext := if n = 4 then some a.toNat else s.saf.rotNext } })) ∧
    (n = 5 → a.toNat < 4 → leaRuns s a.toNat = true → s.lea.ports.any (fun e => decide (e.2.calCmd ≠ [])) = false →
      exec (.selfTest c n a k) s = .next (later (setLport a.toNat { lport s a.toNat with
        calDue := true, calCmd := (lport s a.toNat).calCmd ++ [jobOf c s] } s))) ∧
    (busy = false → n = 6 → a ≠ 0 → s.brk.hold = false → ∃ t, exec (.selfTest c n a k) s = .next t ∧ safePin t = false ∧
      t.saf.tests = s.saf.tests ++ [{ test := 6, arg := a.toNat, job := jobOf c s, at_ := s.elapsed }] ∧ t.brk = s.brk)) ∧
  ∀ (ok : Bool) (x : STest) (s : State), s.saf.tests.find? (fun y => y.test == 6) = some x → passed s x.at_ (x.arg * tickMs) = true →
    s.saf.safe = false → ∃ t, exec (.safeStateDrillEnd ok) s = .next t ∧ t.saf.pinLow = false ∧ t.saf.stestLast = 6 ∧
      t.saf.stestRes = (if ok then 0 else 6) ∧ (t.saf.tests.any (fun y => y.test == 6)) = false

/-- BANK_ROTATION, SRAM_SCRUB and FAULT_CLEAR. While rotation runs and two seconds have passed since the last bank, a rotation step always
completes: it takes the bank asked for or the one due, and a bank that passes hands over to the next in ascending order, or back from one
taken out of turn. One that fails once and passes its repetition is a transient fault, unless its cause recurs; one that fails twice stops
rotation, latches cause 0x0A and is told of, with no safe state of its own. A scrub pass with the Ledger alight always completes, each of
its finds in turn: it drops a bad key-cache entry, stops recording at a bad recorder word, and rebuilds a bad Ledger entry as
ENTRY_REBUILD does. FAULT_CLEAR of a latched cause whose retest passes completes OK and clears it, among causes 0 to 15; when no cause of
the safe state is left the safe state ends, with its event and Brake in LISTEN; an unlatched cause, one whose retest fails, and causes 8
and 12 answer REFUSED_STATE. (R62, R386, R398, R458, R475, R477, R478, R479, R481, R482) -/
def Obligations.rotation_scrub_and_clearing : Prop :=
  (∀ (b a : Option U32) (s : State), dark s .ldg = false → s.saf.rotStopped = false → passed s s.saf.rotAt (2 * tickS) = true →
    ∃ t, exec (.bankRotation b a) s = .next t ∧ t.saf.rotAt = s.elapsed ∧ t.saf.rotNext = none ∧ t.saf.safe = s.saf.safe ∧
      (b = none → t.saf.rotStopped = false ∧ t.saf.latched = s.saf.latched ∧
        t.saf.rotBank = (if s.saf.rotNext.isSome then s.saf.rotBank else (s.saf.rotBank + 1) % 64)) ∧
      (b.isSome = true → a = none → recurs 0xA s = false → t.saf.rotStopped = false ∧ t.saf.latched = s.saf.latched ∧ raised 123 t = true) ∧
      (b.isSome = true → a.isSome = true ∨ recurs 0xA s = true → t.saf.rotStopped = true ∧ t.saf.latched.getLsbD 0xA = true ∧
        raised 126 t = true)) ∧
  (∀ (f : ScrubFind) (l : List ScrubFind) (s : State), dark s .ldg = false → ∃ t u, exec (.sramScrub [f]) s = .next t ∧
    exec (.sramScrub l) t = .next u ∧ exec (.sramScrub (f :: l)) s = .next u ∧ t.saf = s.saf ∧ t.brk = s.brk) ∧
  (∀ (i : Idx) (o y : U32) (s : State), dark s .ldg = false →
    exec (.sramScrub []) s = .next s ∧
    exec (.sramScrub [.keyCache i]) s = .next { s with sec := { s.sec with cache := s.sec.cache.filter (fun x => x != i.toNat) } } ∧
    exec (.sramScrub [.ledger i]) s = exec (.entryRebuild i) s ∧
    (s.log.failed = false → ∃ t, exec (.sramScrub [.recorder o y]) s = .next t ∧ t.log.failed = true ∧ raised 111 t = true ∧
      t.log.mem = s.log.mem)) ∧
  (∀ (c : Ctx) (k : Byte) (p : Bool) (s : State), accepts (.faultClear c k p) s = true → k.toNat < 16 →
    s.saf.latched.getLsbD k.toNat = true → retest k.toNat p s = true → ∃ t,
    exec (.faultClear c k p) s = .next (finish c .ok 0 [] t) ∧ t.saf.latched = clrBit s.saf.latched k.toNat ∧
    (s.saf.safe = true → (∀ j < 16, safeCause j = true → (clrBit s.saf.latched k.toNat).getLsbD j = false) →
      t.saf.safe = false ∧ t.brk.role = .listen ∧ raised 122 t = true ∧ (s.pwr.wakeFault = false → safePin t = true)) ∧
    ((∃ j < 16, safeCause j = true ∧ (clrBit s.saf.latched k.toNat).getLsbD j = true) → t.saf.safe = s.saf.safe ∧ t.brk = s.brk)) ∧
  ∀ (c : Ctx) (k : Byte) (p : Bool) (s : State), accepts (.faultClear c k p) s = true →
    (16 ≤ k.toNat ∨ s.saf.latched.getLsbD k.toNat = false ∨ retest k.toNat p s = false →
      exec (.faultClear c k p) s = .next (reply c .refusedState 0 c.xin.length s)) ∧
    retest 8 p s = false ∧ retest 12 p s = false

/-- STRANGER_DRAIN, WEIR_REPORT_DRAIN, TAI_REPORT_DRAIN and STAMP_DRAIN with MAX from 1 to 4,096 and XLEN of at least MAX
records copy the oldest MAX records or all there are, answer OK with the number copied in RESULT [15:0] and the number left,
saturating at 0xFFFF, in RESULT [31:16], and leave exactly the rest in the queue; a poisoned item among those copied, and one
found bad as it is copied, is told of and noted in QUE_POISON_LAST; the latter is counted once. With MAX outside its range or XLEN below
MAX records they answer BAD_PARAM and leave everything as it was. QUEUE_FLUSH of a host queue waits; at the queue's next packet boundary the queue is emptied, what it held is counted and
told of, and no request for it is left; without a request the boundary changes nothing. A bad word the scrub finds in an
unpoisoned item poisons that item, counts it once, and raises the poisoned-item and scrub-error events; a poisoned one is not
counted again. A fabric-consumed queue whose oldest item waits longer than 100 ms is told of; a host queue never is. A host queue takes no flush of a queue that does not exist. A token
comes back only when its time has come and the recorder's block is not dark (R396). (R368, R391, R371, R374, R378, R380, R386, R390, R392, R396, R403) -/
def Obligations.queue_drains_flush_scrub_and_stall : Prop :=
 (∀ d ∈ [(0, 32, Instr.strangerDrain), (1, 32, .weirReportDrain), (2, 16, .taiReportDrain), (3, 16, .stampDrain)], ∀ (c : Ctx) (m : U16) (bad : List (Fin 4096)) (s : State), accepts (d.2.2 c m bad) s = true →
    (c.xlen < m.toNat * d.2.1 → exec (d.2.2 c m bad) s = .next (reply c .badParam 0 0 s)) ∧
    (m.toNat * d.2.1 ≤ c.xlen → m.toNat = 0 ∨ 4096 < m.toNat → exec (d.2.2 c m bad) s = .next (reply c .badParam 0 c.xin.length s)) ∧
    (0 < m.toNat → m.toNat ≤ 4096 → m.toNat * d.2.1 ≤ c.xlen →
      let got := (queue s d.1).take m.toNat
      ∃ t, exec (d.2.2 c m bad) s = .next (finish c .ok (got.length + min 0xFFFF ((queue s d.1).length - got.length) * 2 ^ 16)
          ((got.map (fun i => itemBytes i.body)).flatten) t) ∧
        queue t d.1 = (queue s d.1).drop m.toNat ∧
        (got.any (fun i => i.poison) = true ∨ (∃ k ∈ bad, k.val < got.length) → raised 115 t = true ∧ bit t.que.poisonLast 31 = true) ∧
        (got.any (fun i => i.poison) = false → (∀ k ∈ bad, got.length ≤ k.val) → t.que.poisonLast = s.que.poisonLast ∧
          cnt (quePoison d.1) t = cnt (quePoison d.1) s) ∧
        ∀ k i, bad = [k] → got[k.val]? = some i → cnt (quePoison d.1) t = if i.poison then cnt (quePoison d.1) s else
          sat32 (cnt (quePoison d.1) s + 1))) ∧
 ((∀ (c : Ctx) (q : Byte) (s : State), accepts (.queueFlush c q) s = true →
    (4 ≤ q.toNat → exec (.queueFlush c q) s = .next (reply c .badParam 0 c.xin.length s)) ∧
    (q.toNat < 4 → exec (.queueFlush c q) s = .next (onJob (jobOf c s)
      (fun e => { e with started := true, moved := c.xin.length }) { s with que := { s.que with flush := s.que.flush ++ [(q.toNat, jobOf c s)] } }))) ∧
  (∀ (q : Fin 4) (s : State),
    (s.que.flush.filter (fun f => f.1 == q.val) = [] → exec (.queueFlushBoundary q) s = .next s) ∧
    (s.que.flush.filter (fun f => f.1 == q.val) ≠ [] → ∃ t, exec (.queueFlushBoundary q) s = .next t ∧ queue t q.val = [] ∧
      t.que.flush = s.que.flush.filter (fun f => f.1 != q.val) ∧ raised 116 t = true ∧
      cnt (queFlushed q.val) t = sat32 (cnt (queFlushed q.val) s + (queue s q.val).length))) ∧
  (∀ (q : Fin 7) (pos word : Nat) (i : QItem) (s : State), (queue s q.val)[pos]? = some i →
    (i.poison = true → exec (.queueScrubVisit q [(pos, word)]) s = .next s) ∧
    (i.poison = false → ∃ t, exec (.queueScrubVisit q [(pos, word)]) s = .next t ∧ (queue t q.val)[pos]? = some { i with poison := true } ∧
      (∀ k, k ≠ pos → k < (queue s q.val).length → (queue t q.val)[k]? = (queue s q.val)[k]?) ∧ raised 115 t = true ∧ raised 118 t = true ∧
      cnt (quePoison q.val) t = sat32 (cnt (quePoison q.val) s + 1) ∧ cnt 0xF0004 t = sat32 (cnt 0xF0004 s + 1))) ∧
  (∀ (q : Fin 7) (i : QItem) (l : List QItem) (s : State), queue s q.val = i :: l →
    (4 ≤ q.val ∧ i.born + 100 * tickMs < s.elapsed → ∃ t, exec (.queueStall q) s = .next t ∧ raised 119 t = true ∧
      ∀ k ≠ 4, queue t k = queue s k) ∧
    (q.val < 4 ∨ s.elapsed ≤ i.born + 100 * tickMs → exec (.queueStall q) s = .next s)) ∧
  ∀ (k : Nat) (s : State),
    let b := tget {} s.log.buckets k
    let due := dark s .log = false ∧ k < 1024 ∧ 0 < b.used ∧ (b.regained + 1) * tickS ≤ (s.elapsed - b.since) * logRate s k
    (due → exec (.rateTokenRefill k) s = .next { s with log := { s.log with
      buckets := tset {} s.log.buckets k { b with used := b.used - 1, regained := b.regained + 1 } } }) ∧
    (¬ due → exec (.rateTokenRefill k) s = .next s))

/-- LOG_READ returns the records held from FROM on, in the order of their numbers, which wrap to 1 (R394), at most MAX and none beyond a
snapshot's bound, and refuses a FROM of 0 or before the oldest record; with XLEN not MAX records it answers BAD_PARAM; with a word among
them that fails, before or as it is read, it answers POISONED, and a word newly found stops recording with its event. LOG_VIEW sets a
snapshot in snapshot mode and a freeze in freeze mode, each answering the newest number, refuses each in the other mode, and releases
either, a freeze by appending the held records in order but those poisoned; a held record whose word fails as it is read is told of.
FREEZE_MAX's end releases the freeze and is told of. LOG_RESTART empties a full memory and resumes, refuses after a memory failure and else
changes nothing. LASTGASP returns the bank's 256 bytes, and with OP 1 empties it and clears LG_STICKY. (R385, R390, R391, R395, R397, R398,
R399) -/
def Obligations.recorder_views : Prop :=
  (∀ (c : Ctx) (a : U32) (m : U16) (b : List (U32 × U32)) (s : State), accepts (.logRead c a m b) s = true →
    (c.xlen ≠ m.toNat * 32 → exec (.logRead c a m b) s = .next (reply c .badParam 0 0 s)) ∧
    (c.xlen = m.toNat * 32 → a = 0 ∨ seqLe s.log.oldest a.toNat = false →
      exec (.logRead c a m b) s = .next (reply c .notFound 0 c.xin.length s)) ∧
    (c.xlen = m.toNat * 32 → a ≠ 0 → seqLe s.log.oldest a.toNat = true →
      let got := (s.log.mem.reverse.filter (fun r => seqLe a.toNat r.seq &&
        (match s.log.snap with | some b => seqLe r.seq b | none => true))).take m.toNat
      let hit := fun (w : U32 × U32) => (wordSeq s w.1.toNat).any (fun q => got.any (fun r => r.seq == q))
      ((∀ r ∈ got, s.log.badWords.contains r.seq = false) → (∀ w ∈ b, hit w = false) →
        exec (.logRead c a m b) s = .next (finish c .ok got.length (got.map recBytes).flatten s)) ∧
      ((∃ r ∈ got, s.log.badWords.contains r.seq = true) ∨ (∃ w ∈ b, hit w = true) →
        ∃ t d, exec (.logRead c a m b) s = .next (finish c .poisoned got.length d t) ∧ t.log.mem = s.log.mem ∧
          ((∃ w ∈ b, hit w = true) → s.log.failed = false → t.log.failed = true ∧ raised 111 t = true)))) ∧
  (∀ (c : Ctx) (b : List (Fin 256)) (s : State), accepts (.logView c 2 b) s = true →
    (freezeMode s = true → exec (.logView c 2 b) s = .next (reply c .refusedState 0 c.xin.length s)) ∧
    (freezeMode s = false →
      exec (.logView c 2 b) s = .next (finish c .ok s.log.newest [] { s with log := { s.log with snap := some s.log.newest } }))) ∧
  (∀ (c : Ctx) (b : List (Fin 256)) (s : State), accepts (.logView c 1 b) s = true →
    (freezeMode s = false → exec (.logView c 1 b) s = .next (reply c .refusedState 0 c.xin.length s)) ∧
    (freezeMode s = true → s.log.freeze = none → exec (.logView c 1 b) s = .next (finish c .ok s.log.newest [] { s with
      log := { s.log with freeze := some s.elapsed, freezeBound := s.log.newest } })) ∧
    (freezeMode s = true → s.log.freeze.isSome = true → exec (.logView c 1 b) s = .next (finish c .ok s.log.freezeBound [] { s with
      log := { s.log with freeze := some s.elapsed } }))) ∧
  (∀ (c : Ctx) (b : List (Fin 256)) (s : State), accepts (.logView c 0 b) s = true →
    (s.log.freeze = none → exec (.logView c 0 b) s = .next (finish c .ok s.log.newest [] { s with log := { s.log with snap := none } })) ∧
    (s.log.freeze.isSome = true → ∃ t, exec (.logView c 0 b) s = .next (finish c .ok t.log.newest [] t) ∧ t.log.freeze = none ∧
      t.log.snap = none ∧ queue t 4 = [] ∧
      (∀ k i, b = [k] → (queue s 4)[k.val]? = some i → i.poison = false → raised 115 t = true) ∧
      (b = [] → t.log.newest = s.log.newest ∧
        t.log.mem = ((queue s 4).filterMap (fun i => match i.body, i.poison with | .rcd r, false => some r | _, _ => none)).reverse ++
          s.log.mem))) ∧
  (∀ (t0 : Nat) (b : List (Fin 256)) (s : State), s.log.freeze = some t0 →
    (passed s t0 (paramN s .recorder 1 0 * tickMs) = false → exec (.freezeTimeout b) s = .next s) ∧
    (passed s t0 (paramN s .recorder 1 0 * tickMs) = true → ∃ t, exec (.freezeTimeout b) s = .next t ∧ t.log.freeze = none ∧
      raised 110 t = true)) ∧
  (∀ (c : Ctx) (s : State), accepts (.logRestart c) s = true →
    (s.log.failed = true → exec (.logRestart c) s = .next (reply c .refusedState 0 c.xin.length s)) ∧
    (s.log.failed = false → s.log.full = false → exec (.logRestart c) s = .next (finish c .ok 0 [] s)) ∧
    (s.log.failed = false → s.log.full = true → exec (.logRestart c) s = .next (finish c .ok 0 [] { s with
      log := { s.log with mem := [], oldest := s.log.nextSeq, full := false, highWater := false } }))) ∧
  (∀ (c : Ctx) (s : State), accepts (.lastgasp c 0) s = true → c.xlen = 256 → exec (.lastgasp c 0) s = .next (finish c .ok 0 (bankBytes s) s)) ∧
  (∀ (c : Ctx) (s : State), accepts (.lastgasp c 1) s = true → c.xlen = 256 →
    exec (.lastgasp c 1) s = .next (finish c .ok 0 (bankBytes s) { s with log := { s.log with bank := [], lgSticky := false } })) ∧
  ∀ s : State, s.log.bank.length ≤ 8 → (bankBytes s).length = 256

/-- A BIND that completes OK leaves in the entry of its index the EUI_TAG that is the exclusive-OR of the four 16-bit quarters
of the EUI-64 it binds. (R48) -/
def Obligations.eui_tag_of_a_binding : Prop :=
  ∀ (c : Ctx) (i : Idx) (eui : Eui) (kind : Byte) (leg : U32) (v : Vault) (s : State), accepts (.bind c i eui kind leg) s = true →
    slotOf s i.toNat = some v → (entry s i.toNat).state = .free → revFind s eui.toNat = none → s.led.walking.contains i.toNat = false →
    kind.toNat ≤ 2 → leg.toNat = noLeg → revFits s eui.toNat = true →
    ∃ r t, exec (.bind c i eui kind leg) s = .next (finish c .ok r [] t) ∧ (entry t i.toNat).state = .registered ∧
      (entry t i.toNat).euiTag = eui.extractLsb 63 48 ^^^ eui.extractLsb 47 32 ^^^ eui.extractLsb 31 16 ^^^ eui.extractLsb 15 0

/-- BIND of a FREE index whose slot holds a key, to an EUI-64 bound nowhere, with a KIND of 0 to 2 and no leg, makes it
REGISTERED with BIND_GEN raised by one, which RESULT returns, RESYNC and BASELINE set, LAST_SEQ and SEQ_MAP zero and LAST_HEARD
now; the reverse map names the index and every other entry stays. It answers REFUSED_STATE for an index that is not FREE or has
no key, EXISTS for an EUI-64 bound elsewhere. UNBIND of a bound index leaves it FREE without leg, PEND or proposal, its slot
empty and its EUI-64 unmapped, and answers REFUSED_STATE for a FREE one. (R45, R46, R47, R59, R371, R457) -/
def Obligations.bindings : Prop :=
  (∀ (c : Ctx) (i : Idx) (eui : Eui) (kind : Byte) (leg : U32) (s : State), accepts (.bind c i eui kind leg) s = true → legForm leg.toNat = true →
    ((entry s i.toNat).state ≠ .free ∨ slotOf s i.toNat = none → exec (.bind c i eui kind leg) s = .next (reply c .refusedState 0 c.xin.length s)) ∧
    (∀ v j, slotOf s i.toNat = some v → (entry s i.toNat).state = .free → revFind s eui.toNat = some j → s.led.walking.contains j = false →
      exec (.bind c i eui kind leg) s = .next (reply c .existing 0 c.xin.length s)) ∧
    (∀ v, slotOf s i.toNat = some v → (entry s i.toNat).state = .free → revFind s eui.toNat = none →
      s.led.walking.contains i.toNat = false → kind.toNat ≤ 2 → leg.toNat = noLeg → revFits s eui.toNat = true →
      ∃ t, exec (.bind c i eui kind leg) s = .next (finish c .ok ((entry s i.toNat).bindGen + 1).toNat [] t) ∧
        entry t i.toNat = { entry s i.toNat with
          state := .registered, kind := BitVec.ofNat 2 kind.toNat, key256 := v.key.length == 32, keyGen := 0
          bindGen := (entry s i.toNat).bindGen + 1, resync := true, baseline := true, lastSeq := 0, seqMap := 0
          lastHeard := BitVec.ofNat 32 (nowS s), leg := 0x3FFFF, euiTag := BitVec.ofNat 16 (euiTag eui.toNat) } ∧
        revFind t eui.toNat = some i.toNat ∧ euiOf t i.toNat = eui.toNat ∧ (∀ j, j ≠ i.toNat → entry t j = entry s j) ∧
        t.led.topoGen = s.led.topoGen)) ∧
  ∀ (c : Ctx) (i : Idx) (s : State), accepts (.unbind c i) s = true →
    ((entry s i.toNat).state = .free → exec (.unbind c i) s = .next (reply c .refusedState 0 c.xin.length s)) ∧
    ((entry s i.toNat).state ≠ .free → ∃ t, exec (.unbind c i) s = .next (finish c .ok 0 [] t) ∧
      entry t i.toNat = { entry s i.toNat with state := .free, pend := 0, moveProp := false, phase := 0, anom := 0, leg := 0x3FFFF } ∧
      revFind t (euiOf s i.toNat) = none ∧ slotOf t i.toNat = none ∧
      t.sec.cache.contains i.toNat = false ∧ dl t i.toNat = {} ∧
      ((entry s i.toNat).leg.toNat = noLeg → t.led.topoGen = s.led.topoGen) ∧
      ((entry s i.toNat).leg.toNat ≠ noLeg → t.led.topoGen = s.led.topoGen + 1))

/-- For an index that is not FREE: BLOCK makes it BLOCKED and touches nothing else of any entry, UNBLOCK makes a BLOCKED one
REGISTERED with LAST_HEARD now and leaves another as it was, HOST_PEND sets or clears PEND bit 3 alone. With cold records on,
COLD_READ of XLEN the record's size returns the record, COLD_WRITE within the host area puts its bytes at OFS and leaves every other byte
of the area and every entry as they were. For a FREE index they answer REFUSED_STATE (BLOCK, UNBLOCK) or NOT_FOUND, with cold records off
the two record commands answer REFUSED_STATE; another XLEN of COLD_READ, an OFS outside the area and a SET above 1 answer BAD_PARAM.
(R59, R61, R65, R66, R67, R371) -/
def Obligations.blocks_cold_records_and_host_flags : Prop :=
  (∀ (c : Ctx) (i : Idx) (s : State), accepts (.block c i) s = true →
    ((entry s i.toNat).state = .free → exec (.block c i) s = .next (reply c .refusedState 0 c.xin.length s)) ∧
    ((entry s i.toNat).state ≠ .free → ∃ t, exec (.block c i) s = .next (finish c .ok 0 [] t) ∧
      entry t i.toNat = { entry s i.toNat with state := .blocked } ∧ ∀ j, j ≠ i.toNat → entry t j = entry s j)) ∧
  (∀ (c : Ctx) (i : Idx) (s : State), accepts (.unblock c i) s = true →
    ((entry s i.toNat).state = .free → exec (.unblock c i) s = .next (reply c .refusedState 0 c.xin.length s)) ∧
    ((entry s i.toNat).state ≠ .free → (entry s i.toNat).state ≠ .blocked → exec (.unblock c i) s = .next (finish c .ok 0 [] s)) ∧
    ((entry s i.toNat).state = .blocked → ∃ t, exec (.unblock c i) s = .next (finish c .ok 0 [] t) ∧
      entry t i.toNat = { entry s i.toNat with state := .registered, lastHeard := BitVec.ofNat 32 (nowS s) } ∧
      ∀ j, j ≠ i.toNat → entry t j = entry s j)) ∧
  (∀ (c : Ctx) (i : Idx) (v : Byte) (s : State), accepts (.hostPend c i v) s = true →
    ((entry s i.toNat).state = .free → exec (.hostPend c i v) s = .next (reply c .notFound 0 c.xin.length s)) ∧
    ((entry s i.toNat).state ≠ .free → 1 < v.toNat → exec (.hostPend c i v) s = .next (reply c .badParam 0 c.xin.length s)) ∧
    ((entry s i.toNat).state ≠ .free → v.toNat ≤ 1 → exec (.hostPend c i v) s = .next (finish c .ok 0 [] (setEntry i.toNat { entry s i.toNat with
      pend := if v = 1 then (entry s i.toNat).pend ||| 8#4 else (entry s i.toNat).pend &&& 7#4 } s)))) ∧
  (∀ (c : Ctx) (i : Idx) (s : State), accepts (.coldRead c i) s = true →
    (coldOn s = false → exec (.coldRead c i) s = .next (reply c .refusedState 0 c.xin.length s)) ∧
    (coldOn s = true → c.xlen ≠ coldSize s → exec (.coldRead c i) s = .next (reply c .badParam 0 0 s)) ∧
    (coldOn s = true → c.xlen = coldSize s → (entry s i.toNat).state = .free →
      exec (.coldRead c i) s = .next (reply c .notFound 0 c.xin.length s)) ∧
    ∀ k, coldOn s = true → c.xlen = coldSize s → (entry s i.toNat).state ≠ .free → tget none s.led.cold i.toNat = some k →
      exec (.coldRead c i) s = .next (finish c .ok 0 (coldBytes (coldSize s) k) s)) ∧
  ∀ (c : Ctx) (i : Idx) (ofs : U32) (s : State), accepts (.coldWrite c i ofs) s = true →
    (coldOn s = false → exec (.coldWrite c i ofs) s = .next (reply c .refusedState 0 c.xin.length s)) ∧
    (coldOn s = true → (entry s i.toNat).state = .free → exec (.coldWrite c i ofs) s = .next (reply c .notFound 0 c.xin.length s)) ∧
    (coldOn s = true → (entry s i.toNat).state ≠ .free → ofs.toNat < 0x80 ∨ coldSize s < ofs.toNat + c.xlen →
      exec (.coldWrite c i ofs) s = .next (reply c .badParam 0 c.xin.length s)) ∧
    ∀ k, coldOn s = true → (entry s i.toNat).state ≠ .free → tget none s.led.cold i.toNat = some k → c.xin.length = c.xlen →
      0x80 ≤ ofs.toNat → ofs.toNat + c.xlen ≤ coldSize s → ∃ t k', exec (.coldWrite c i ofs) s = .next (finish c .ok 0 [] t) ∧
        tget none t.led.cold i.toNat = some k' ∧ t.led.entries = s.led.entries ∧
        (∀ a, tget 0 k'.host a = if ofs.toNat ≤ a ∧ a < ofs.toNat + c.xlen then (c.xin.getD (a - ofs.toNat) 0).toNat else tget 0 k.host a) ∧
        coldDevice k' = coldDevice k

/-- Activating an inactive node under an active parent (a station under none, a leg under its own transformer) sets ACTIVE and
PARENT, adds one to the parent's CHILDREN and raises both GENs and TOPO_GEN; an active node answers EXISTS, an inactive parent
NOT_FOUND or, for a leg, REFUSED_STATE. Deactivating an active node without children clears ACTIVE and ANCHOR, takes one from
the parent's CHILDREN and drops its listed move; with children it answers REFUSED_STATE, an inactive node is left as it is with
OK. NODE_SET writes FROZEN of any active node, PHASE_REF and INVERT of a leg alone, and REFUSED_STATE answers for an inactive
one. A number beyond its level's count, PARENT's too, answers BAD_PARAM before any of these. (R7, R73, R74, R75, R77, R299, R373) -/
def Obligations.topology_of_nodes : Prop :=
  (∀ (c : Ctx) (l : Byte) (n p : U32) (s : State), accepts (.nodeActivate c l n p) s = true → 2 ≤ l.toNat → l.toNat ≤ 5 →
    (levelCount l.toNat ≤ n.toNat ∨ (l.toNat ≠ 5 ∧ levelCount (l.toNat + 1) ≤ p.toNat) →
      exec (.nodeActivate c l n p) s = .next (reply c .badParam 0 0 s)) ∧
    (n.toNat < levelCount l.toNat → parentForm l.toNat p.toNat = true →
    let k := nodeKey l.toNat n.toNat
    let up := if l.toNat = 2 then n.toNat / 3 else if l.toNat = 5 then 0 else p.toNat
    let pk := nodeKey (l.toNat + 1) up
    ((node s k).active = true → exec (.nodeActivate c l n p) s = .next (reply c .existing 0 c.xin.length s)) ∧
    ((node s k).active = false → l.toNat ≠ 5 → (node s pk).active = false →
      exec (.nodeActivate c l n p) s = .next (reply c (if l.toNat = 2 then .refusedState else .notFound) 0 c.xin.length s)) ∧
    ((node s k).active = false → (l.toNat = 5 → p.toNat = 0) → (l.toNat ≠ 5 → (node s pk).active = true) →
      (l.toNat = 2 → p.toNat = 0 ∨ p.toNat = n.toNat / 3) → ∃ t, exec (.nodeActivate c l n p) s = .next (finish c .ok 0 [] t) ∧
        node t k = { node s k with defined := true, active := true, parent := up, gen := (node s k).gen + 1 } ∧
        (l.toNat ≠ 5 → node t pk = { node s pk with children := (node s pk).children + 1, gen := (node s pk).gen + 1 }) ∧
        t.led.topoGen = s.led.topoGen + 1 ∧ t.led.entries = s.led.entries))) ∧
  (∀ (c : Ctx) (l : Byte) (n : U32) (s : State), accepts (.nodeDeactivate c l n) s = true → n.toNat < levelCount l.toNat →
    let k := nodeKey l.toNat n.toNat
    ((node s k).active = false → exec (.nodeDeactivate c l n) s = .next (finish c .ok 0 [] s)) ∧
    ((node s k).active = true → (node s k).children ≠ 0 → exec (.nodeDeactivate c l n) s = .next (reply c .refusedState 0 c.xin.length s)) ∧
    ((node s k).active = true → (node s k).children = 0 → ∃ t, exec (.nodeDeactivate c l n) s = .next (finish c .ok 0 [] t) ∧
      node t k = { node s k with active := false, anchor := false, gen := (node s k).gen + 1 } ∧
      (∀ pk, parentKey s k = some pk → node t pk = { node s pk with children := (node s pk).children - 1, gen := (node s pk).gen + 1 }) ∧
      (t.led.moves.any (fun m => m.lvl == l.toNat && m.num == n.toNat)) = false ∧ t.led.topoGen = s.led.topoGen + 1)) ∧
  ∀ (c : Ctx) (l f v : Byte) (n : U32) (s : State), accepts (.nodeSet c l f v n) s = true → n.toNat < levelCount l.toNat →
    let k := nodeKey l.toNat n.toNat
    ((node s k).active = false → exec (.nodeSet c l f v n) s = .next (reply c .refusedState 0 c.xin.length s)) ∧
    ((node s k).active = true → f.toNat < 2 → l.toNat ≠ 2 → exec (.nodeSet c l f v n) s = .next (reply c .badParam 0 c.xin.length s)) ∧
    ((node s k).active = true → (f = 0 ∧ l.toNat = 2 ∧ v.toNat ≤ 3) ∨ (f = 1 ∧ l.toNat = 2 ∧ v.toNat ≤ 1) ∨ (f = 2 ∧ v.toNat ≤ 1) →
      exec (.nodeSet c l f v n) s = .next (finish c .ok 0 [] (topoUp (setNode k { node s k with
        gen := (node s k).gen + 1
        phaseRef := if f = 0 then BitVec.ofNat 2 v.toNat else (node s k).phaseRef
        invert := if f = 1 then v == 1 else (node s k).invert
        frozen := if f = 2 then v == 1 else (node s k).frozen } s))))

/-- ATTACH of a bound endpoint that no check-meter entry still measures to an active leg, or to none, puts LEG there, PHASE to unknown and
MOVE_PROP to 0, with TOPO_GEN raised unless the leg is the one it has; it answers NOT_FOUND for a FREE index, REFUSED_STATE for
one that is measured (the model's choice for a removed entry, log entry 104), BAD_PARAM for an inactive leg. REJECT_PROPOSAL of a standing proposal clears MOVE_PROP and lists index, LEG and
phase in the suppression list, and answers REFUSED_STATE where none stands. NODE_MOVE of an active transformer or feeder to an
active parent is listed, or takes the record of its earlier move, and no header changes; a full list answers BUSY, an inactive node
REFUSED_STATE, an inactive parent NOT_FOUND, a leg or a station BAD_PARAM. (R76, R77,
R78, R161, R173, R373) -/
def Obligations.topology_of_endpoints : Prop :=
  (∀ (c : Ctx) (i : Idx) (leg : U32) (s : State), accepts (.attach c i leg) s = true → legForm leg.toNat = true →
    ((entry s i.toNat).state = .free → exec (.attach c i leg) s = .next (reply c .notFound 0 c.xin.length s)) ∧
    ((entry s i.toNat).state ≠ .free → checkHeld s i.toNat = true → exec (.attach c i leg) s = .next (reply c .refusedState 0 c.xin.length s)) ∧
    ((entry s i.toNat).state ≠ .free → checkHeld s i.toNat = false → leg.toNat ≠ noLeg → legActive s leg.toNat = false →
      exec (.attach c i leg) s = .next (reply c .badParam 0 c.xin.length s)) ∧
    ((entry s i.toNat).state ≠ .free → checkHeld s i.toNat = false → leg.toNat = noLeg ∨ legActive s leg.toNat = true →
      ∃ t, exec (.attach c i leg) s = .next (finish c .ok 0 [] t) ∧
        entry t i.toNat = { entry s i.toNat with leg := BitVec.ofNat 18 leg.toNat, phase := 0, moveProp := false } ∧
        (∀ j, j ≠ i.toNat → entry t j = entry s j) ∧
        t.led.topoGen = s.led.topoGen + (if (entry s i.toNat).leg.toNat = leg.toNat then 0 else 1))) ∧
  (∀ (c : Ctx) (i : Idx) (p : Byte) (s : State), accepts (.rejectProposal c i p) s = true → (entry s i.toNat).state ≠ .free →
    ((entry s i.toNat).moveProp = false → exec (.rejectProposal c i p) s = .next (reply c .refusedState 0 c.xin.length s)) ∧
    ((entry s i.toNat).moveProp = true → p.toNat ≤ 3 → ∃ t, exec (.rejectProposal c i p) s = .next (finish c .ok 0 [] t) ∧
      entry t i.toNat = { entry s i.toNat with moveProp := false } ∧ suppressed t i.toNat p.toNat = true ∧
      (s.wei.suppress.length < 4096 → ∀ x ∈ s.wei.suppress, x ∈ t.wei.suppress))) ∧
  ∀ (c : Ctx) (l : Byte) (n p : U32) (s : State), accepts (.nodeMove c l n p) s = true → n.toNat < levelCount l.toNat →
    parentForm l.toNat p.toNat = true →
    ((node s (nodeKey l.toNat n.toNat)).active = false → exec (.nodeMove c l n p) s = .next (reply c .refusedState 0 c.xin.length s)) ∧
    ((node s (nodeKey l.toNat n.toNat)).active = true → l.toNat < 5 → (node s (nodeKey (l.toNat + 1) p.toNat)).active = false →
      exec (.nodeMove c l n p) s = .next (reply c .notFound 0 c.xin.length s)) ∧
    ((node s (nodeKey l.toNat n.toNat)).active = true → (l.toNat < 5 → (node s (nodeKey (l.toNat + 1) p.toNat)).active = true) →
      l.toNat ≠ 3 → l.toNat ≠ 4 → exec (.nodeMove c l n p) s = .next (reply c .badParam 0 c.xin.length s)) ∧
    ((node s (nodeKey l.toNat n.toNat)).active = true → l.toNat = 3 ∨ l.toNat = 4 → (node s (nodeKey (l.toNat + 1) p.toNat)).active = true →
      let listed := s.led.moves.any (fun m => m.lvl == l.toNat && m.num == n.toNat)
      (listed = false → s.led.moves.length < 4096 → exec (.nodeMove c l n p) s = .next (finish c .ok 0 [] { s with led := { s.led with
        moves := s.led.moves ++ [⟨l.toNat, n.toNat, p.toNat, (node s (nodeKey l.toNat n.toNat)).parent⟩] } })) ∧
      (listed = false → 4096 ≤ s.led.moves.length → exec (.nodeMove c l n p) s = .next (reply c .busy 0 c.xin.length s)) ∧
      (listed = true → exec (.nodeMove c l n p) s = .next (finish c .ok 0 [] { s with led := { s.led with
        moves := s.led.moves.map (fun m => if m.lvl = l.toNat ∧ m.num = n.toNat then { m with newParent := p.toNat } else m) } })))

/-- A bad entry with a cold record is rebuilt from it: REGISTERED or BLOCKED, PEND all ones, LAST_SEQ from SEQ_FLOOR, RESYNC and
BASELINE set, LAST_HEARD now; without one it becomes FREE with every field at reset, its slot empty and its index walking, and TOPO_GEN raised if it had a leg; both
raise the entry-rebuilt event. When the walks end no reverse-map slot and no occupied Leat slot names the index. A sweep that is
due makes exactly the REGISTERED and PRESENT entries that have been silent for ABSENCE_TIMEOUT ABSENT, and says so; BLOCKED ones
stay. (R60, R61, R62, R63, R64, R277, R457) -/
def Obligations.rebuilds_and_absence : Prop :=
  (∀ (i : Idx) (s : State), dark s .ldg = false →
    (∀ c, tget none s.led.cold i.toNat = some c → ∃ t, exec (.entryRebuild i) s = .next t ∧ raised 5 t = true ∧
      entry t i.toNat = { state := if c.blocked then .blocked else .registered, kind := BitVec.ofNat 2 c.kind, key256 := c.key256
                          keyGen := BitVec.ofNat 2 c.keyGen, pend := 0xF, bindGen := BitVec.ofNat 8 c.bindGen, resync := true
                          baseline := true, lastSeq := BitVec.ofNat 32 c.seqFloor, lastHeard := BitVec.ofNat 32 (nowS s)
                          leg := BitVec.ofNat 18 c.leg, euiTag := BitVec.ofNat 16 (euiTag c.eui) } ∧
      (∀ j, j ≠ i.toNat → entry t j = entry s j) ∧ t.led.poisoned.contains i.toNat = false) ∧
    (tget none s.led.cold i.toNat = none → ∃ t, exec (.entryRebuild i) s = .next t ∧ raised 5 t = true ∧ entry t i.toNat = {} ∧
      slotOf t i.toNat = none ∧ dl t i.toNat = {} ∧ t.led.walking.contains i.toNat = true ∧ checkHeld t i.toNat = (checkHeld s i.toNat &&
        (s.wei.openIv.isSome || s.wei.late.isSome || s.wei.closing.isSome)) ∧
      t.led.topoGen = s.led.topoGen + (if (entry s i.toNat).leg.toNat = noLeg then 0 else 1))) ∧
  (∀ (i : Idx) (s : State),
    (s.led.walking.contains i.toNat = false → exec (.rebuildFreeCleanup i) s = .next s) ∧
    (s.led.walking.contains i.toNat = true → ∃ t, exec (.rebuildFreeCleanup i) s = .next t ∧ t.led.walking.contains i.toNat = false ∧
      (∀ e, revFind t e ≠ some i.toNat) ∧ t.led.entries = s.led.entries ∧
      ∀ p n, (tget {} (lport t p).slots n).idx = i.toNat → (tget {} (lport t p).slots n).st = .free)) ∧
  ∀ s : State, dark s .ldg = false → passed s s.led.sweepAt (10 * tickS) = true → ∃ t, exec .absenceSweep s = .next t ∧
    t.led.sweepAt = s.elapsed ∧ ∀ i,
      let silent := (entry s i).state = .registered ∨ (entry s i).state = .present
      let due := silent ∧ paramN s .ledger 0 0 ≤ sinceHeard s (entry s i)
      (due → entry t i = { entry s i with state := .absent } ∧ raised 3 t = true) ∧ (¬ due → entry t i = entry s i)

/-- The well-formed datagram of a frame, for HR_PORT, whose address and GW_ID match the gateway table is appended to the staging ring, with its
receive stamp, if it fits, and the table keeps where the gateway answered from; one that does not fit is counted as an overflow
and told of with those of the last second, any other frame is counted as dropped and told of, and in both the ring stays as it was. While
Headrace is closed or its DMA frozen, or without the clock of the Ethernet ports or of the memory, nothing happens. RELAY of well-formed
datagrams that all fit appends all of them and answers their number, and answers BUSY with none placed otherwise. A draw takes the oldest
datagram and appends to the lanes' inputs; with no lane running, with the DMA frozen, in QUIET, during an entry sequence or without room in
a lane nothing is drawn.
(R94, R95, R96, R98, R103, R258) -/
def Obligations.ingest_and_staging : Prop :=
  (∀ (d : UdpIn) (s : State),
    (hrClosed s = true → exec (.headraceDatagram d) s = .next s) ∧
    (hrClosed s = false →
      (udpParse d.frame = none → ∃ t, exec (.headraceDatagram d) s = .next t ∧ t.ing = s.ing ∧ raised 11 t = true ∧
        cnt 0x4004C t = sat32 (cnt 0x4004C s + 1)) ∧
      ∀ x, udpParse d.frame = some x →
      (x.dport ≠ paramN s .device 7 0 ∨ hrParse x.payload = none → ∃ t, exec (.headraceDatagram d) s = .next t ∧
        t.ing = s.ing ∧ raised 11 t = true ∧ cnt 0x4004C t = sat32 (cnt 0x4004C s + 1)) ∧
      ∀ g b, hrParse x.payload = some (g, b) → x.dport = paramN s .device 7 0 →
        ((gwAt s g).set = false ∨ (gwAt s g).af ≠ x.af ∨ (gwAt s g).addr ≠ x.src → ∃ t,
          exec (.headraceDatagram d) s = .next t ∧ t.ing = s.ing ∧ raised 11 t = true ∧ cnt 0x4004C t = sat32 (cnt 0x4004C s + 1)) ∧
        ((gwAt s g).set = true → (gwAt s g).af = x.af → (gwAt s g).addr = x.src →
          (stagedBytes s + x.payload.length ≤ 2 ^ 26 → ∃ t, exec (.headraceDatagram d) s = .next t ∧
            t.ing.staging = s.ing.staging ++ [⟨g, false, d.eth.val, x.src, x.sport, nowNs s, x.payload⟩] ∧
            gwAt t g = { gwAt s g with seen := true, eth := d.eth.val, udp := x.sport }) ∧
          (2 ^ 26 < stagedBytes s + x.payload.length → ∃ t, exec (.headraceDatagram d) s = .next t ∧ t.ing.staging = s.ing.staging ∧
            t.ing.ovf = s.elapsed :: s.ing.ovf.filter (fun u => !passed s u tickS) ∧ raised 12 t = true ∧ cnt 0x40050 t = sat32 (cnt 0x40050 s + 1))))) ∧
  (∀ (c : Ctx) (n : U16) (l : List (List Byte)) (s : State), accepts (.relay c n) s = true → 0 < n.toNat → n.toNat ≤ 256 →
    relayParse n.toNat c.xin = some l → (∀ d ∈ l, (hrParse d).isSome = true) →
    (2 ^ 26 < stagedBytes s + (l.map (·.length)).sum → exec (.relay c n) s = .next (reply c .busy 0 c.xin.length s)) ∧
    (stagedBytes s + (l.map (·.length)).sum ≤ 2 ^ 26 → ∃ t, exec (.relay c n) s = .next (finish c .ok l.length [] t) ∧
      t.ing.staging.take s.ing.staging.length = s.ing.staging ∧ t.ing.staging.map (·.payload) = s.ing.staging.map (·.payload) ++ l ∧
      ∀ x ∈ t.ing.staging.drop s.ing.staging.length, x.pcie = true)) ∧
  ∀ (d : Staged) (rest : List Staged) (s : State), s.ing.staging = d :: rest →
    (s.ing.run = 0 ∨ halted s .ing 6 = true ∨ memUp s = false ∨ s.dev.quiet = true ∨ entryPast s 3 = true ∨ roomFor s (stagedFrames d) = false →
      exec .laneDraw s = .next s) ∧
    (s.ing.run ≠ 0 → halted s .ing 6 = false → memUp s = true → s.dev.quiet = false → entryPast s 3 = false → roomFor s (stagedFrames d) = true →
      ∃ t, exec .laneDraw s = .next t ∧ t.ing.staging = rest ∧ ∀ k, ∃ fs, (lane t k).input = (lane s k).input ++ fs)

/-- GATEWAY_SET with GW_ID up to 4,095 writes or clears that row alone. EXPORT_SET pauses or resumes export, or sets the head
end, whose port the head-end row then holds; resuming with one set and Headrace's DMA not frozen leaves no keyed batch of the ring unsent. A resend request of good form is accepted only with its tag
and a number above the last, otherwise it is dropped and told of and the number stays; the ring is never changed by one. A batch
that has been open for its hold closes into the ring, tagged under the key of its opening; without the memory's clock it is lost and told of. A reserve that is due raises its ceiling by one block, from its value at a start.
Acknowledgement datagrams that are due go, and no other. (R94, R97, R131, R132, R133, R134, R370) -/
def Obligations.gateways_export_and_resend : Prop :=
  (∀ (c : Ctx) (g : U16) (op af : Byte) (a : BitVec 128) (s : State), accepts (.gatewaySet c g op af a) s = true →
    (4096 ≤ g.toNat → exec (.gatewaySet c g op af a) s = .next (reply c .badParam 0 c.xin.length s)) ∧
    (g.toNat < 4096 → exec (.gatewaySet c g 1 af a) s = .next (finish c .ok 0 [] (setGw g.toNat { gwAt s g.toNat with set := false } s))) ∧
    (g.toNat < 4096 → af = 6 ∨ (af = 4 ∧ a.toNat < 2 ^ 32) → ∃ t, exec (.gatewaySet c g 0 af a) s = .next (finish c .ok 0 [] t) ∧
      (gwAt t g.toNat).set = true ∧ (gwAt t g.toNat).af = af.toNat ∧ (gwAt t g.toNat).addr = a.toNat ∧
      ∀ h, h ≠ g.toNat → gwAt t h = gwAt s h)) ∧
  (∀ (c : Ctx) (op af : Byte) (p : U16) (a : BitVec 128) (s : State), accepts (.exportSet c op af p a) s = true →
    (2 < op.toNat ∨ (op = 2 ∧ (p = 0 ∨ (af ≠ 6 ∧ (af = 4 → 2 ^ 32 ≤ a.toNat)))) →
      exec (.exportSet c op af p a) s = .next (reply c .badParam 0 c.xin.length s)) ∧
    (op = 0 → exec (.exportSet c op af p a) s = .next (finish c .ok 0 [] { s with ing := { s.ing with paused := true } })) ∧
    (op = 1 → ∃ t, exec (.exportSet c op af p a) s = .next (finish c .ok 0 [] t) ∧ t.ing.paused = false ∧
      (s.ing.headEnd.isSome = true → frozen s 6 = false → ∀ b ∈ t.ing.ring, b.unkeyed = false → b.sent = true)) ∧
    (op = 2 → p ≠ 0 → af = 6 ∨ (af = 4 ∧ a.toNat < 2 ^ 32) → ∃ t, exec (.exportSet c op af p a) s = .next (finish c .ok 0 [] t) ∧
      t.ing.headEnd = some (af.toNat, a.toNat, p.toNat) ∧ t.ing.paused = s.ing.paused ∧ cfgGet t.cfg .device 13 1 = (p.toNat : Int))) ∧
  (∀ (d : UdpIn) (x : Datagram) (s : State), hrClosed s = false → udpParse d.frame = some x → x.dport = paramN s .device 7 0 →
    let n := ofLe (slice x.payload 2 4)
    let num := ofLe (slice x.payload 6 8)
    ofLe (slice x.payload 0 2) = 0xC27F → 0 < n → n ≤ 16 → x.payload.length = 30 + 16 * n → 2 ^ 63 ≤ num → devKey s 0 ≠ [] →
    s.ing.lastNack < num → ∃ t, exec (.nackDatagram d) s = .next t ∧ t.ing.ring = s.ing.ring ∧
      (Config.gmac (devKey s 0) (exportIv num) (x.payload.take (14 + 16 * n)) = x.payload.drop (14 + 16 * n) → t.ing.lastNack = num) ∧
      (Config.gmac (devKey s 0) (exportIv num) (x.payload.take (14 + 16 * n)) ≠ x.payload.drop (14 + 16 * n) →
        t.ing.lastNack = s.ing.lastNack ∧ raised 11 t = true)) ∧
  (∀ (b : OpenBatch) (s : State), dark s .ing = false → s.ing.batch = some b →
    (passed s b.openAt (paramN s .device 10 0 * tickMs) = false → exec .batchTimeout s = .next s) ∧
    (passed s b.openAt (paramN s .device 10 0 * tickMs) = true → ∃ t, exec .batchTimeout s = .next t ∧ t.ing.batch = none ∧
      (memUp s = true → ∃ x ∈ t.ing.ring, x.seq = b.seq ∧ x.unkeyed = !batchKeyed b) ∧
      (memUp s = false → batchKeyed b = true → raised 13 t = true))) ∧
  (∀ (k : Fin 3) (s : State), dark s .ing = false →
    let r := reserve s k.val
    let due := r.startDue = true ∨ r.stopped = true ∨ r.ceil ≤ r.val + reserveBlock k.val / 2
    (¬ due → exec (.counterReserveRecord k) s = .next s) ∧
    (due → ∃ t, exec (.counterReserveRecord k) s = .next t ∧ (reserve t k.val).val = r.val ∧ (reserve t k.val).stopped = false ∧
      (reserve t k.val).ceil = (if r.startDue then r.val else r.ceil) + reserveBlock k.val ∧ (reserve t k.val).startDue = false)) ∧
  ∀ s : State, halted s .ing 6 = false → ∃ t, exec .gwAckSend s = .next t ∧
    t.ing.gwAcks = s.ing.gwAcks.filter (fun a => !passed s a.since (paramN s .device 8 0 * tickUs))

/-- On the oldest frame of a running lane whose park buffer has room the Sluice counts a malformed frame, a BLOCKED one and a stranger and
takes it out; one with a seen-cache entry is a DUPLICATE; a new one with a free way is ACCEPTED: it goes to Quern with its index and has an
IN_FLIGHT entry; without a way it waits, with no verdict counted (the model's reading, log entry 103). A waiting frame of a running lane
goes on when there is a way, and is a DUPLICATE when a copy of it has come in meanwhile. Quern sends a frame whose slot is empty on as
stale, fails one with another KEYG with its event and one whose key did not unwrap without one, parks one whose key is not cached, holds
it when the park buffer is full, and opens the others: they go to the Bolter or fail with the event. A failed unwrap marks the index and
is told of; once marked, every parked frame of it fails. With the fabric's master for a stage frozen (R465), or without the memory's clock for
an unwrap (R31), the stage does nothing. The Bolter hands each on with the rule it breaks. (R61, R93, R104, R110, R111,
R112, R116, R118, R119, R126) -/
def Obligations.millrace_stages : Prop :=
  (∀ (l : Fin 4) (f : Frame) (rest : List Frame) (s : State), dark s .ing = false → s.ing.run.getLsbD l.val = true →
    (lane s l.val).input = f :: rest → (lane s l.val).park.length < 64 → ∃ t, exec (.sluiceVerdict l true false) s = .next t ∧ (lane t l.val).input = rest ∧
      t.led.entries = s.led.entries ∧
      (malformed f = true → cnt 0x40020 t = sat32 (cnt 0x40020 s + 1) ∧ (lane t l.val).quern = (lane s l.val).quern ∧ t.ing.seen = s.ing.seen) ∧
      (malformed f = false → sluiceIdx s f = none → cnt 0x40018 t = sat32 (cnt 0x40018 s + 1) ∧ t.ing.seen = s.ing.seen ∧
        (lane t l.val).quern = (lane s l.val).quern) ∧
      (∀ i g, malformed f = false → sluiceIdx s f = some (i, g) →
        let f' := { f with idx := i, bindGen := g }
        (strangerReason s f' ≠ none → cnt 0x40018 t = sat32 (cnt 0x40018 s + 1) ∧ t.ing.seen = s.ing.seen ∧
          (lane t l.val).quern = (lane s l.val).quern) ∧
        (strangerReason s f' = none → (entry s i).state = .blocked → cnt 0x4001C t = sat32 (cnt 0x4001C s + 1) ∧
          t.ing.seen = s.ing.seen ∧ (lane t l.val).quern = (lane s l.val).quern) ∧
        (strangerReason s f' = none → (entry s i).state ≠ .blocked →
          ((seenOf s f').isSome = true → cnt 0x40014 t = sat32 (cnt 0x40014 s + 1) ∧ (lane t l.val).quern = (lane s l.val).quern) ∧
          (seenOf s f' = none →
            (pickWay s i (gSeq f) (f.path == 1 || f.path == 2) ≠ none → cnt 0x40010 t = sat32 (cnt 0x40010 s + 1) ∧ (lane t l.val).quern = (lane s l.val).quern ++ [f'] ∧
              ∃ e ∈ t.ing.seen, seenKey f' e = true ∧ e.st = .inFlight) ∧
            (pickWay s i (gSeq f) (f.path == 1 || f.path == 2) = none → (lane t l.val).insWait = (lane s l.val).insWait ++ [f'] ∧
              t.dev = s.dev ∧ t.rc = s.rc ∧ t.ing.seen = s.ing.seen))))) ∧
  (∀ (l : Fin 4) (f : Frame) (rest : List Frame) (s : State), dark s .ing = false → (lane s l.val).insWait = f :: rest →
    (s.ing.run.getLsbD l.val = false → exec (.seenCacheInsert l) s = .next s) ∧
    (s.ing.run.getLsbD l.val = true →
      ((seenOf s f).isSome = true → ∃ t, exec (.seenCacheInsert l) s = .next t ∧ (lane t l.val).insWait = rest ∧
        (lane t l.val).quern = (lane s l.val).quern ∧ cnt 0x40014 t = sat32 (cnt 0x40014 s + 1)) ∧
      (seenOf s f = none → pickWay s f.idx (gSeq f) (f.path == 1 || f.path == 2) = none → exec (.seenCacheInsert l) s = .next s) ∧
      (seenOf s f = none → pickWay s f.idx (gSeq f) (f.path == 1 || f.path == 2) ≠ none → ∃ t, exec (.seenCacheInsert l) s = .next t ∧
        (lane t l.val).insWait = rest ∧ (lane t l.val).quern = (lane s l.val).quern ++ [f] ∧
        cnt 0x40010 t = sat32 (cnt 0x40010 s + 1)))) ∧
  (∀ (l : Fin 4) (f : Frame) (rest : List Frame) (s : State), halted s .ing 7 = false → (lane s l.val).quern = f :: rest →
    ∃ t, exec (.quernAuth l) s = .next t ∧ t.led.entries = s.led.entries ∧
      (slotOf s f.idx = none → (lane t l.val).update = (lane s l.val).update ++ [f] ∧ (lane t l.val).quern = rest) ∧
      ∀ k, slotOf s f.idx = some k →
        (gKeyg f ≠ (entry s f.idx).keyGen.toNat → raised 6 t = true ∧ cnt 0x40028 t = sat32 (cnt 0x40028 s + 1) ∧ (lane t l.val).quern = rest) ∧
        (gKeyg f = (entry s f.idx).keyGen.toNat → s.ing.unwrapBad.contains f.idx = true → t.evt = s.evt ∧
          cnt 0x40028 t = sat32 (cnt 0x40028 s + 1) ∧ (lane t l.val).quern = rest ∧ (lane t l.val).bolter = (lane s l.val).bolter) ∧
        (gKeyg f = (entry s f.idx).keyGen.toNat → s.ing.unwrapBad.contains f.idx = false →
          (s.sec.cache.contains f.idx = false → 64 ≤ (lane s l.val).park.length → t = s) ∧
          (s.sec.cache.contains f.idx = false → (lane s l.val).park.length < 64 → (lane t l.val).park = (lane s l.val).park ++ [f] ∧
            (lane t l.val).quern = rest) ∧
          (s.sec.cache.contains f.idx = true → (lane t l.val).quern = rest ∧
            (∀ p, openFrame k.key (if gEuiForm f then gSender f else k.eui) f = some p →
              (lane t l.val).bolter = (lane s l.val).bolter ++ [{ f with plain := some p }]) ∧
            (openFrame k.key (if gEuiForm f then gSender f else k.eui) f = none → raised 6 t = true ∧
              (lane t l.val).bolter = (lane s l.val).bolter)))) ∧
  (∀ (l : Fin 4) (f : Frame) (rest : List Frame) (k : Vault) (s : State), halted s .ing 11 = false → memUp s = true →
    (lane s l.val).park = f :: rest → slotOf s f.idx = some k →
    (s.ing.unwrapBad.contains f.idx = true → ∀ ok, ∃ t, exec (.keyUnwrapDone l ok) s = .next t ∧ (lane t l.val).park = rest ∧
      cnt 0x40028 t = sat32 (cnt 0x40028 s + 1) ∧ (lane t l.val).bolter = (lane s l.val).bolter ∧ t.sec.cache = s.sec.cache) ∧
    (s.ing.unwrapBad.contains f.idx = false → ∃ t, exec (.keyUnwrapDone l false) s = .next t ∧ (lane t l.val).park = rest ∧ raised 15 t = true ∧
      t.ing.unwrapBad.contains f.idx = true) ∧
    (s.ing.unwrapBad.contains f.idx = false → ∃ t, exec (.keyUnwrapDone l true) s = .next t ∧ (lane t l.val).park = rest ∧ t.sec.cache.contains f.idx = true ∧
      (openFrame k.key (if gEuiForm f then gSender f else k.eui) f = none → raised 6 t = true))) ∧
  ∀ (l : Fin 4) (f : Frame) (rest : List Frame) (s : State), halted s .ing 7 = false → (lane s l.val).bolter = f :: rest →
    exec (.bolterRules l) s = .next (setLane l.val { lane s l.val with
      bolter := rest, update := (lane s l.val).update ++ [{ f with rule := bolterRule s f (f.plain.getD []) }] } s) ∧
    ∀ (g : State) (ok bad : Bool), (halted g .ing 7 = true → exec (.quernAuth l) g = .next g ∧ exec (.bolterRules l) g = .next g ∧
        exec (.ledgerUpdate l bad) g = .next g) ∧
      (halted g .ing 11 = true ∨ memUp g = false → exec (.keyUnwrapDone l ok) g = .next g)

/-- With the Ledger's master not frozen, the oldest frame before the Ledger leaves its lane's buffer, counted in the running PACE window
unless its lane is stopped. Under another binding, or with no plaintext, it is counted as stale and told of; a BLOCKED entry counts it; a replay is counted and told of; a late duplicate is counted; none of these
changes any entry. A frame that breaks a rule is counted and told of and moves the replay window alone, unless RESYNC stands. A
committed frame makes the entry PRESENT with LAST_SEQ and SEQ_MAP of the window, LAST_HEARD, PATH, PORT and HOPS of the frame,
clears RESYNC when it seeds the window, and is counted; the first of an endpoint raises the presence event. (R27, R46, R53, R120,
R121, R123, R126, R127) -/
def Obligations.ledger_updates : Prop :=
  ∀ (l : Fin 4) (f : Frame) (rest : List Frame) (s : State), halted s .ing 7 = false → (lane s l.val).update = f :: rest →
    let e := entry s f.idx
    let p := f.plain.getD []
    let stale := e.state = .free ∨ e.bindGen.toNat ≠ f.bindGen ∨ f.plain = none
    ∃ t, exec (.ledgerUpdate l false) s = .next t ∧ (lane t l.val).update = rest ∧
      (s.dev.paceEn = false ∨ s.ing.run.getLsbD l.val = false → t.dev = s.dev) ∧
      (s.dev.paceEn = true → s.ing.run.getLsbD l.val = true → tget 0 t.dev.doneRun l.val = sat32 (tget 0 s.dev.doneRun l.val + 1)) ∧
      (stale → raised 9 t = true ∧ cnt 0x40038 t = sat32 (cnt 0x40038 s + 1) ∧ t.led.entries = s.led.entries) ∧
      (¬ stale → e.state = .blocked → cnt 0x4001C t = sat32 (cnt 0x4001C s + 1) ∧ t.led.entries = s.led.entries) ∧
      (¬ stale → e.state ≠ .blocked →
        (replayJudge s e f p = .replay → raised 8 t = true ∧ cnt 0x40030 t = sat32 (cnt 0x40030 s + 1) ∧ t.led.entries = s.led.entries) ∧
        (replayJudge s e f p = .late → cnt 0x40034 t = sat32 (cnt 0x40034 s + 1) ∧ t.led.entries = s.led.entries) ∧
        ∀ ahead seed last map, replayJudge s e f p = .pass ahead seed last map →
          let rule := if f.rule ≠ 0 then f.rule else if isReading f ∧ ahead ∧ !e.baseline then statefulRule s f p e else 0
          (rule ≠ 0 → raised 7 t = true ∧ cnt 0x4003C t = sat32 (cnt 0x4003C s + 1) ∧
            entry t f.idx = (if e.resync then e else { e with lastSeq := BitVec.ofNat 32 last, seqMap := BitVec.ofNat 32 map })) ∧
          (rule = 0 → cnt 0x40024 t = sat32 (cnt 0x40024 s + 1) ∧ (entry t f.idx).state = .present ∧
            (entry t f.idx).lastSeq = BitVec.ofNat 32 last ∧ (entry t f.idx).seqMap = BitVec.ofNat 32 map ∧
            (entry t f.idx).lastHeard = BitVec.ofNat 32 (rxS f) ∧ (entry t f.idx).path = BitVec.ofNat 3 f.path ∧
            (entry t f.idx).port = BitVec.ofNat 3 f.port ∧ (entry t f.idx).hops = BitVec.ofNat 4 f.hops ∧
            (entry t f.idx).resync = (e.resync && !seed) ∧ (entry t f.idx).bindGen = e.bindGen ∧ (e.state ≠ .present → raised 2 t = true)))

/-- At a window's end the eight lane counters take the running counts, which start anew, and PACE_SEQ counts one, in one step
that changes nothing else; before it nothing changes. A refresh of PACE_SPEED keeps the lowest value seen and raises the margin
event exactly when it falls below PACE_FLOOR with the event armed, which is then no longer armed. The load refresh sets LEVEL,
at most 7, and nothing else. The walk removes exactly the closed seen-cache entries that have outlived the window. (R24, R25,
R26, R99, R112) -/
def Obligations.pace_and_load : Prop :=
  (∀ s : State, dark s .ing = false →
    (s.dev.paceEn = false ∨ passed s s.dev.paceAt (paceTicks s.dev.paceWindow) = false → exec .paceWindowEnd s = .next s) ∧
    (s.dev.paceEn = true → passed s s.dev.paceAt (paceTicks s.dev.paceWindow) = true → exec .paceWindowEnd s = .next { s with dev := { s.dev with
      verd := s.dev.verdRun, doneW := s.dev.doneRun, verdRun := [], doneRun := [], paceSeq := (s.dev.paceSeq + 1) % 2 ^ 32
      paceAt := s.elapsed } })) ∧
  (∀ (v : U16) (s : State), dark s .ing = false → ∃ t, exec (.paceSpeedRefresh v) s = .next t ∧ t.dev.paceSpeed = v.toNat ∧
    t.dev.paceMin = min s.dev.paceMin v.toNat ∧ t.dev.paceSeq = s.dev.paceSeq ∧ t.ing = s.ing ∧
    (v.toNat < s.dev.paceFloor → s.dev.paceArmed = true → raised 1 t = true ∧ t.dev.paceArmed = false) ∧
    (s.dev.paceFloor ≤ v.toNat ∨ s.dev.paceArmed = false → t.evt = s.evt ∧ t.log = s.log)) ∧
  (∀ s : State, dark s .ing = false → exec .ingLoadRefresh s = .next { s with ing := { s.ing with level := loadLevel s } } ∧ loadLevel s ≤ 7) ∧
  ∀ s : State, dark s .ing = false → ∃ t, exec .seenCacheWalk s = .next t ∧
    (∀ e, e ∈ t.ing.seen ↔ e ∈ s.ing.seen ∧ (closed e = false ∨ seenAge s e < seenWindow s)) ∧ t.led = s.led ∧ t.que = s.que

/-- WEIR_ENABLE opens the interval holding the present time where Fantail is not UNSET, discards banks, history and FIFO when it
disables, and changes nothing when it sets what stands. LOSS_CLASS of L2 to L5 writes one class, NODE_CLASS the class of an
active node. CHECK_BIND of an unattached bound endpoint to an active unmeasured leg or transformer makes it a check meter of
that node, CHECK_UNBIND ends that from the next open interval on. INTERVAL_RESULTS copies the records asked for of a closed slot, or its
header and all of them, and answers its REV. AFFINITY_TEST starts as many FEEDER or NEIGHBOUR tests as it names where slots are free, and
BUSY answers otherwise; AFFINITY_ABORT of all leaves no commanded test, of a list of indices, with the survey off, exactly the tests of
other indices, and answers BAD_PARAM where a word of the list is no index. CHECK_BIND answers EXISTS for a measured node, an anchored
feeder or station and an endpoint in the table, else BAD_PARAM for a feeder or station. (R152, R156, R157, R158, R161, R162, R174, R176, R374) -/
def Obligations.weir_commands : Prop :=
  (∀ (c : Ctx) (e : Byte) (s : State), accepts (.weirEnable c e) s = true →
    (1 < e.toNat → exec (.weirEnable c e) s = .next (reply c .badParam 0 c.xin.length s)) ∧
    ((e = 1 ∧ s.wei.en = true) ∨ (e = 0 ∧ s.wei.en = false) → exec (.weirEnable c e) s = .next (finish c .ok 0 [] s)) ∧
    (e = 1 → s.wei.en = false → dramFits s.cfg s = false → exec (.weirEnable c e) s = .next (reply c .noSpace 0 c.xin.length s)) ∧
    (e = 1 → s.wei.en = false → dramFits s.cfg s = true → ∃ t, exec (.weirEnable c e) s = .next (finish c .ok 0 [] t) ∧ t.wei.en = true ∧
      (s.fan.st = .unset → t.wei.openIv = s.wei.openIv) ∧
      (s.fan.st ≠ .unset → s.wei.openIv = none → t.wei.openIv = some (intervalNow s) ∧ t.wei.openStart = true)) ∧
    (e = 0 → s.wei.en = true → ∃ t, exec (.weirEnable c e) s = .next (finish c .ok 0 [] t) ∧ t.wei.en = false ∧ t.wei.openIv = none ∧
      t.wei.late = none ∧ t.wei.closing = none ∧ t.wei.slots = [] ∧ queue t 6 = [])) ∧
  (∀ (c : Ctx) (l k : Byte) (a b d e f : U32) (s : State), accepts (.lossClass c l k a b d e f) s = true →
    (l.toNat < 2 ∨ 5 < l.toNat → exec (.lossClass c l k a b d e f) s = .next (reply c .badParam 0 c.xin.length s)) ∧
    (2 ≤ l.toNat → l.toNat ≤ 5 → exec (.lossClass c l k a b d e f) s = .next (finish c .ok 0 [] { s with wei := { s.wei with
      classes := tset {} s.wei.classes (l.toNat * 256 + k.toNat) ⟨a.toNat, b.toNat, d.toNat, e.toNat, f.toNat⟩ } }))) ∧
  (∀ (c : Ctx) (l k : Byte) (n : U32) (s : State), accepts (.nodeClass c l k n) s = true → n.toNat < levelCount l.toNat →
    let x := nodeKey l.toNat n.toNat
    ((node s x).active = false → exec (.nodeClass c l k n) s = .next (reply c .refusedState 0 c.xin.length s)) ∧
    ((node s x).active = true → exec (.nodeClass c l k n) s = .next (finish c .ok 0 [] (setWnode x { wnode s x with lclass := k.toNat } s)))) ∧
  (∀ (c : Ctx) (i : Idx) (l : Byte) (n : U32) (s : State), accepts (.checkBind c i l n) s = true → n.toNat < levelCount l.toNat →
    let x := nodeKey l.toNat n.toNat
    ((entry s i.toNat).state = .free → exec (.checkBind c i l n) s = .next (reply c .notFound 0 c.xin.length s)) ∧
    ((entry s i.toNat).state ≠ .free → (entry s i.toNat).leg.toNat ≠ noLeg ∨ (node s x).active = false →
      exec (.checkBind c i l n) s = .next (reply c .refusedState 0 c.xin.length s)) ∧
    ((entry s i.toNat).state ≠ .free → (entry s i.toNat).leg.toNat = noLeg → (node s x).active = true → l.toNat ≤ 3 →
      s.wei.checks.any (fun k => k.idx == i.toNat || nodeKey k.lvl k.num == x) = false →
      (16384 ≤ s.wei.checks.length → exec (.checkBind c i l n) s = .next (reply c .noSpace 0 c.xin.length s)) ∧
      (s.wei.checks.length < 16384 → ∃ t, exec (.checkBind c i l n) s = .next (finish c .ok 0 [] t) ∧ isCheck t i.toNat = true ∧ (wnode t x).measured = true ∧
        t.led = s.led)) ∧
    ((entry s i.toNat).state ≠ .free → (entry s i.toNat).leg.toNat = noLeg → (node s x).active = true →
      s.wei.checks.any (fun k => k.idx == i.toNat || nodeKey k.lvl k.num == x) = true ∨ (3 < l.toNat ∧ (node s x).anchor = true) →
      exec (.checkBind c i l n) s = .next (reply c .existing 0 c.xin.length s)) ∧
    ((entry s i.toNat).state ≠ .free → (entry s i.toNat).leg.toNat = noLeg → (node s x).active = true → 3 < l.toNat → (node s x).anchor = false →
      s.wei.checks.any (fun k => k.idx == i.toNat || nodeKey k.lvl k.num == x) = false →
      exec (.checkBind c i l n) s = .next (reply c .badParam 0 c.xin.length s))) ∧
  (∀ (c : Ctx) (i : Idx) (s : State), accepts (.checkUnbind c i) s = true →
    (isCheck s i.toNat = false → exec (.checkUnbind c i) s = .next (reply c .notFound 0 c.xin.length s)) ∧
    (isCheck s i.toNat = true → ∃ t, exec (.checkUnbind c i) s = .next (finish c .ok 0 [] t) ∧ isCheck t i.toNat = false ∧ t.led = s.led)) ∧
  (∀ (c : Ctx) (n : U64) (a k : U32) (s : State), accepts (.intervalResults c n a k) s = true → c.xlen = (if k.toNat = 0 then 12791872 else 48 * k.toNat) →
    ((∀ x, slotOfIv s n.toNat = some x → x.closed = false) → exec (.intervalResults c n a k) s = .next (reply c .notFound 0 c.xin.length s)) ∧
    ∀ x, slotOfIv s n.toNat = some x → x.closed = true →
      (266496 < a.toNat + k.toNat → exec (.intervalResults c n a k) s = .next (reply c .badParam 0 c.xin.length s)) ∧
      (a.toNat + k.toNat ≤ 266496 → 0 < k.toNat → exec (.intervalResults c n a k) s = .next (finish c .ok x.rev
        (((List.range k.toNat).map (fun r => slotRec x (recKey (a.toNat + r)))).flatten) s)) ∧
      (a.toNat ≤ 266496 → k.toNat = 0 → exec (.intervalResults c n a k) s = .next (finish c .ok x.rev
        (slotHeader x ++ ((List.range 266496).map (fun r => slotRec x (recKey r))).flatten) s))) ∧
  (∀ (c : Ctx) (m : Byte) (n k : U16) (s : State), accepts (.affinityTest c m n k) s = true → c.xlen = 4 * n.toNat + 20 * k.toNat →
    0 < n.toNat → n.toNat ≤ 256 → (∀ i ∈ wordsAt c.xin 0 n.toNat, i < 2 ^ 20 ∧ (entry s i).state ≠ .free) →
    let legs := (List.range k.toNat).map (fun j => (⟨ofLe (slice c.xin (4 * n.toNat + 20 * j) 4),
      (wordsAt c.xin (4 * n.toNat + 20 * j + 4) 4).filter (fun r => r != 0xFFFFFFFF)⟩ : Cand))
    (m = 0 ∧ k = 0) ∨ (m = 1 ∧ 2 ≤ k.toNat ∧ k.toNat ≤ 6 ∧ ∀ l ∈ legs, legActive s l.key = true) →
    (freeTests s < n.toNat → exec (.affinityTest c m n k) s = .next (reply c .busy 0 c.xin.length s)) ∧
    (n.toNat ≤ freeTests s → exec (.affinityTest c m n k) s = .next (finish c .ok n.toNat [] { s with wei := { s.wei with
      tests := s.wei.tests ++ (wordsAt c.xin 0 n.toNat).map (fun i =>
        { idx := i, feeder := m == 0, commanded := true, startS := nowS s, cands := if m = 0 then [⟨1, []⟩, ⟨2, []⟩, ⟨3, []⟩] else legs }) } }))) ∧
  (∀ (c : Ctx) (n : U16) (s : State), accepts (.affinityAbort c 1 n) s = true → c.xlen = 0 → ∃ t,
    exec (.affinityAbort c 1 n) s = .next (finish c .ok 0 [] t) ∧ (∀ x ∈ t.wei.tests, x.commanded = false) ∧
    (frz s 10 0 = 0 → t.wei.tests = [])) ∧
  ∀ (c : Ctx) (n : U16) (s : State), accepts (.affinityAbort c 0 n) s = true → c.xlen = 4 * n.toNat →
    ((∃ w ∈ wordsAt c.xin 0 n.toNat, 2 ^ 20 ≤ w) → exec (.affinityAbort c 0 n) s = .next (reply c .badParam 0 c.xin.length s)) ∧
    ((∀ w ∈ wordsAt c.xin 0 n.toNat, w < 2 ^ 20) → ∃ t, exec (.affinityAbort c 0 n) s = .next (finish c .ok 0 [] t) ∧
      (frz s 10 0 = 0 → t.wei.tests = s.wei.tests.filter (fun x => !(wordsAt c.xin 0 n.toNat).contains x.idx)))

/-- The oldest part leaves the way to the accumulator. With no interval open it is counted as unattributed, and so is a part of an
endpoint without a leg that no check-meter entry measures; one that an entry measures enters its bank alone. In the open interval, or when
its interval is still to come, it adds its energy, stopping at the 32-bit bounds, its reporter and its flags to its leg's bank and its
energy to the transformer's, and no node off its path changes; a bank that stops is marked and told of. In LATE it enters that interval's
bank and is counted late, while its interval closes it waits in the FIFO, in a closed slot it changes that slot alone; for an interval no
slot keeps it is counted as stale and told of. When Fantail reaches the end of the open interval that interval is LATE, the next opens, and
the listed moves are gone; with the Weir disabled a boundary of the grid ends the list too. LATE_WIN later the interval is CLOSING under the
class table and parameters of that instant. A complete affinity test leaves its slot and is told of. On a dark Weir, or with its master
frozen (R465), none of these does anything. (R77, R144, R145, R146, R150, R152,
R153, R161, R171, R175) -/
def Obligations.weir_accumulation_and_intervals : Prop :=
  (∀ (p : Part) (rest : List Part) (s : State), halted s .wei 8 = false → s.wei.parts = p :: rest →
    ∃ t, exec .weirPartAccumulate s = .next t ∧ t.wei.parts = rest ∧ t.led = s.led ∧
      (s.wei.openIv = none → cnt 0x50050 t = sat32 (cnt 0x50050 s + 1) ∧ t.wei.nodes = s.wei.nodes) ∧
      ∀ n, s.wei.openIv = some n →
        (p.leg = noLeg → checkAt s p.idx (min p.interval n) = none → cnt 0x50050 t = sat32 (cnt 0x50050 s + 1) ∧
          t.wei.nodes = s.wei.nodes ∧ t.wei.checks = s.wei.checks) ∧
        (p.leg = noLeg → checkAt s p.idx (min p.interval n) ≠ none → n ≤ p.interval → t.wei.nodes = s.wei.nodes ∧
          t.wei.checks = (addCheck n p.idx p s).wei.checks) ∧
        (n < p.interval → p.leg ≠ noLeg → cnt 0x5002C t = sat32 (cnt 0x5002C s + 1)) ∧
        (n ≤ p.interval → p.leg < levelCount 2 →
          let b := bankOf n (wnode s (nodeKey 2 p.leg))
          let b' := bankOf n (wnode t (nodeKey 2 p.leg))
          b'.net = max (-0x80000000) (min 0x7FFFFFFF (b.net + p.net)) ∧ b'.rep = b.rep + b2n p.reporter ∧ b'.est = (b.est || p.est) ∧
          b'.outage = (b.outage || p.outage) ∧
          (bankOf n (wnode t (nodeKey 3 (p.leg / 3)))).net =
            max (-0x80000000) (min 0x7FFFFFFF ((bankOf n (wnode s (nodeKey 3 (p.leg / 3)))).net + p.net)) ∧
          (0x7FFFFFFF < b.net + p.net ∨ b.net + p.net < -0x80000000 → b'.sat = true ∧ raised 24 t = true) ∧
          ∀ k, k ∉ pathOf p.leg (fun x => parentNum s x) → wnode t k = wnode s k) ∧
        (p.interval < n → p.leg < levelCount 2 → s.wei.late = some p.interval → slotOfIv s p.interval ≠ none →
          cnt 0x5001C t = sat32 (cnt 0x5001C s + 1) ∧ (bankOf p.interval (wnode t (nodeKey 2 p.leg))).net =
            max (-0x80000000) (min 0x7FFFFFFF ((bankOf p.interval (wnode s (nodeKey 2 p.leg))).net + p.net))) ∧
        (p.interval < n → p.leg ≠ noLeg → s.wei.late ≠ some p.interval →
          (∀ x, s.wei.closing ≠ some p.interval → slotOfIv s p.interval = some x → x.closed = true → t.wei.nodes = s.wei.nodes ∧
            cnt 0x50020 t = sat32 (cnt 0x50020 s + 1) ∧ slotOfIv t p.interval = some (applyLate p x s.wei.checks)) ∧
          (s.wei.closing = some p.interval → (queue s 6).length < qcap 6 →
            (queue t 6).map (·.body) = (queue s 6).map (·.body) ++ [.part p] ∧ t.wei.nodes = s.wei.nodes) ∧
          (s.wei.closing ≠ some p.interval → slotOfIv s p.interval = none → cnt 0x50024 t = sat32 (cnt 0x50024 s + 1) ∧
            raised 25 t = true ∧ t.wei.openStale = s.wei.openStale + p.net ∧ t.wei.nodes = s.wei.nodes))) ∧
  (∀ (n : Nat) (s : State), halted s .wei 8 = false → s.wei.openIv = some n →
    (nowS s < endOf s n ∨ s.wei.late ≠ none ∨ s.wei.closing ≠ none → exec .intervalEnd s = .next s) ∧
    (endOf s n ≤ nowS s → s.wei.late = none → s.wei.closing = none → ∃ t, exec .intervalEnd s = .next t ∧ t.wei.openIv = some (n + 1) ∧
      t.wei.late = some n ∧ t.wei.openStart = false ∧ t.led.moves = [] ∧ t.led.entries = s.led.entries ∧
      ∃ x ∈ t.wei.slots, x.interval = n ∧ x.intLen = intLen s ∧ x.start = s.wei.openStart ∧ x.closed = false)) ∧
  (∀ s : State, halted s .wei 8 = false → s.wei.openIv = none →
    (s.fan.st = .unset ∨ s.wei.grid = gridNow s → exec .intervalEnd s = .next s) ∧
    (s.fan.st ≠ .unset → s.wei.grid ≠ gridNow s → ∃ t, exec .intervalEnd s = .next t ∧ t.wei.grid = gridNow s ∧ t.wei.openIv = none ∧
      t.led.moves = [] ∧ t.led.entries = s.led.entries)) ∧
  (∀ (n : Nat) (s : State), halted s .wei 8 = false → s.wei.late = some n →
    (nowS s < endOf s n + paramN s .weir 1 0 → exec .lateWindowEnd s = .next s) ∧
    (endOf s n + paramN s .weir 1 0 ≤ nowS s → ∃ t, exec .lateWindowEnd s = .next t ∧ t.wei.late = none ∧ t.wei.closing = some n ∧
      t.wei.frzClasses = s.wei.classes ∧ t.wei.nodes = s.wei.nodes ∧ t.wei.frzCfg = s.cfg.filter (fun e => e.1 / 2 ^ 32 == 4))) ∧
  (∀ (i : Idx) (us again : U32) (bad : List (Fin 65536)) (s : State), halted s .wei 8 = true → exec .weirPartAccumulate s = .next s ∧
    exec .intervalEnd s = .next s ∧ exec .lateWindowEnd s = .next s ∧ exec (.closeComplete us again bad) s = .next s ∧
    exec (.affinityTestEnd i) s = .next s) ∧
  ∀ (i : Idx) (s : State), halted s .wei 8 = false →
    (s.wei.tests.find? (fun t => t.idx == i.toNat && testDue s t) = none → exec (.affinityTestEnd i) s = .next s) ∧
    ∀ x, s.wei.tests.find? (fun t => t.idx == i.toNat && testDue s t) = some x → ∃ t, exec (.affinityTestEnd i) s = .next t ∧
      raised 22 t = true ∧ (frz s 10 0 = 0 → t.wei.tests = s.wei.tests.erase x)

/-- Issuing a slot gives every record RESID = MEAS − NET − LOSS_total where its node is measured and RESID = 0 where it is not,
whatever residual its parent or its children have. A close that completes with no late part waiting publishes exactly such
records in the interval's slot, ends CLOSING, and raises the interval-closed event. (R164) -/
def Obligations.residuals_of_a_close : Prop :=
  (∀ (cls : Tab LossClass) (x : Slot) (newest : Bool) (us : Nat) (s : State), ∀ e ∈ (issue cls x newest us s).1.recs,
    e.2.resid = if e.2.measured then e.2.meas - e.2.net - e.2.loss else 0) ∧
  ∀ (us again : U32) (bad : List (Fin 65536)) (n : Nat) (x : Slot) (s : State), halted s .wei 8 = false → s.wei.closing = some n →
    slotOfIv s n = some x → ∃ t, exec (.closeComplete us again bad) s = .next t ∧ t.wei.closing = none ∧ t.wei.lastClosed = some n ∧ raised 16 t = true ∧
      queue t 6 = [] ∧ (40000 < us.toNat → raised 17 t = true) ∧ ∃ y, slotOfIv t n = some y ∧ y.closed = true ∧
      (queue s 6 = [] → ∀ e ∈ y.recs, e.2.resid = if e.2.measured then e.2.meas - e.2.net - e.2.loss else 0)

/-- SCRIPT_LOAD of a well-formed script keeps it loaded, and nothing else; another port, script, count or a script beyond its time answers
BAD_PARAM. CHANNEL starts the channel script of a free port, waits on a busy one, answers at once when the script is empty, POWERED_DOWN
for a port whose clock is lost, and REFUSED_STATE without the radio group. A transaction that passes its check starts the next; one
that fails puts the port to IDLE and is told of. A port locks on 64 sample words with their SYNC bits, while it listens, and loses its lock,
with the event, at four bad of the last 64. A port that is transmitting, unlocked, not listening or not live receives nothing; a PPDU with
a bad PHR or FCS is counted; in QUIET, where ports listen (the model's reading, log entry 113), a data frame is counted and dropped;
otherwise a reading frame that passes the filter is counted and handed to a lane with its port, hops and stamp, its acknowledgement noted
if it asks for one. (R181, R182, R186, R187, R188, R189, R191, R195, R198, R375) -/
def Obligations.radio_scripts_and_reception : Prop :=
  (∀ (c : Ctx) (p k n : Byte) (s : State), accepts (.scriptLoad c p k n) s = true → c.xlen = 12 * n.toNat → p.toNat < 8 → k.toNat < 4 → 0 < n.toNat →
    n.toNat ≤ 16 → (List.range n.toNat).all (fun j => byteAt c.xin (12 * j + 3) == 0) = true →
    (spiList c.xin n.toNat).all (fun x => decide (1 ≤ x.len ∧ x.len ≤ 8 ∧ x.chk ≤ x.len)) = true →
    scriptFits (paramN s .vane 7 0) (spiList c.xin n.toNat) = true →
    exec (.scriptLoad c p k n) s = .next (finish c .ok 0 [] (setVport p.toNat { vport s p.toNat with
      loaded := tset [] (vport s p.toNat).loaded k.toNat (spiList c.xin n.toNat) } s))) ∧
  (∀ (c : Ctx) (p k n : Byte) (s : State), accepts (.scriptLoad c p k n) s = true → c.xlen = 12 * n.toNat →
    (8 ≤ p.toNat ∨ 4 ≤ k.toNat ∨ n = 0 ∨ 16 < n.toNat ∨ scriptFits (paramN s .vane 7 0) (spiList c.xin n.toNat) = false) →
    exec (.scriptLoad c p k n) s = .next (reply c .badParam 0 c.xin.length s)) ∧
  (∀ (c : Ctx) (p : Byte) (s : State), accepts (.channel c p) s = true →
    let v := vport s p.toNat
    (grp s 0 = false → exec (.channel c p) s = .next (reply c .refusedState 0 c.xin.length s)) ∧
    (grp s 0 = true → 8 ≤ p.toNat → exec (.channel c p) s = .next (reply c .badParam 0 c.xin.length s)) ∧
    (grp s 0 = true → p.toNat < 8 →
      let later := fun (t : State) => onJob (jobOf c s) (fun e => { e with started := true, moved := c.xin.length }) t
      (unclockedPort s p.toNat = true → exec (.channel c p) s = .next (reply c .poweredDown 0 c.xin.length (openRecord 0 s))) ∧
      (unclockedPort s p.toNat = false →
        (v.running.isSome = true ∨ v.tx.isSome = true → exec (.channel c p) s = .next (later (setVport p.toNat { v with
          chanWait := v.chanWait ++ [jobOf c s] } s))) ∧
        (∀ x l, v.running = none → v.tx = none → v.chanWait = [] → script v 2 = x :: l →
          exec (.channel c p) s = .next (later (emit (.spi p.toNat x.bytes) (setVport p.toNat { v with
            chanWait := [], running := some (2, 0, some (jobOf c s)) }
            (setVport p.toNat { v with chanWait := [jobOf c s] } s))))) ∧
        (v.running = none → v.tx = none → v.chanWait = [] → script v 2 = [] → ∃ t, exec (.channel c p) s = .next t ∧
          vport t p.toNat = v ∧ t.hop = (later (replyLater (jobOf c s) .ok 0 s)).hop)))) ∧
  (∀ (p : Fin 8) (miso : List Byte) (k n : Nat) (cmd : Option (Nat × Nat)) (x : SpiTx) (s : State), dark s .van = false →
    (vport s p.val).running = some (k, n, cmd) → (script (vport s p.val) k)[n]? = some x →
    (∀ y, x.chk = 0 ∨ byteAt miso (x.chk - 1) = x.exp → (script (vport s p.val) k)[n + 1]? = some y →
      exec (.spiTransactionDone p miso) s = .next (emit (.spi p.val y.bytes) (setVport p.val { vport s p.val with
        running := some (k, n + 1, cmd) } s))) ∧
    (x.chk ≠ 0 → byteAt miso (x.chk - 1) ≠ x.exp → ∃ t, exec (.spiTransactionDone p miso) s = .next t ∧ (vport t p.val).idle = true ∧
      (vport t p.val).tx = none ∧ raised 30 t = true)) ∧
  (∀ (p : Fin 8) (s : State), dark s .van = false →
    (∀ l, (vport s p.val).lock = true → laneLoses iqSync l = true → ∃ t, exec (.iqSyncLoss p l) s = .next t ∧
      (vport t p.val).lock = false ∧ raised 29 t = true) ∧
    (∀ l, (vport s p.val).lock = false ∨ laneLoses iqSync l = false → exec (.iqSyncLoss p l) s = .next s) ∧
    (∀ l, listens s 0 = true → s.dev.unclocked.contains (.rfiq p) = false → laneLocks iqSync l = true →
      exec (.iqLock p l) s = .next (setVport p.val { vport s p.val with lock := true } s)) ∧
    (∀ l, listens s 0 = false ∨ s.dev.unclocked.contains (.rfiq p) = true ∨ laneLocks iqSync l = false → exec (.iqLock p l) s = .next s)) ∧
  (∀ w : U32, iqSync w = true ↔ w.extractLsb 31 30 = 2#2 ∧ w.extractLsb 15 14 = 1#2) ∧
  ∀ (p : Fin 8) (x : Ppdu) (s : State),
    (portLive s p = false ∨ listens s 0 = false ∨ (vport s p.val).lock = false ∨ (vport s p.val).tx.isSome = true →
      exec (.vanePpduReceived p x) s = .next s) ∧
    (portLive s p = true → listens s 0 = true → (vport s p.val).lock = true → (vport s p.val).tx = none →
      (x.phr = false ∨ x.fcs = false → exec (.vanePpduReceived p x) s = .next (bump (vanCtr p.val 1) 1 s)) ∧
      ∀ m, x.phr = true → x.fcs = true → x.psdu.length + (if x.fcs4 then 4 else 2) ≤ 2047 → macParse x.psdu = some m → isAck s p.val x m = none →
        macFilter s p.val m = true → m.ftype ≠ 0 →
        (s.dev.quiet = true → exec (.vanePpduReceived p x) s = .next (bump (vanCtr p.val 8) 1 s)) ∧
        (s.dev.quiet = false → byteAt m.payload 0 / 64 ≠ 2 → s.ing.run ≠ 0 → ∃ t k fr, exec (.vanePpduReceived p x) s = .next t ∧
          (lane t k).input = (lane s k).input ++ [fr] ∧ fr.bytes = m.payload ∧ fr.path = 1 ∧ fr.port = p.val ∧
          fr.rxNs = nowNs s - rxLat s p.val - x.air.toNat ∧ fr.hops = hopsOf s (!toPort s p.val m) (gTtl fr) ∧
          cnt (vanCtr p.val 0) t = sat32 (cnt (vanCtr p.val 0) s + 1) ∧
          fr.ret = .radio p.val ((vport s p.val).ppdu + 1) (toPort s p.val m && m.ar) (s.elapsed - nsTicks (rxLat s p.val)) ∧ (vport t p.val).ppdu = (vport s p.val).ppdu + 1 ∧
          ((vport t p.val).acks.length = (vport s p.val).acks.length + b2n (toPort s p.val m && m.ar))))

/-- At its cut-off an acknowledgement owed with a decision to send goes on air or to its TX_ENTER script before anything else, with the FCS
length of the frame it answers; one with a decision against, and one whose port sends, runs a script, is in IDLE or has no clock, is dropped, one with none
is counted and told of; without the radio group a transmission due is counted and told of. A good CSMA attempt (a first backoff below 8
periods, then energy not above CCA_DBM) takes the port's next frame off the queue and sends its MAC frame; a failed one is counted and told
of, its frame leaves the queue unless it is a beacon, and a Tailrace frame goes back with a failure; a TDF that QUIET or a BLOCKED or FREE
index holds back leaves the queue unsent; assessments that spell no whole attempt do nothing. At the end of a transmission the port sends
nothing, and awaits an acknowledgement of exactly a Tailrace unicast; when that does not come the frame is queued again at the front while
it has retries, and fails otherwise. (R183, R191, R192, R193, R196, R197, R212, R277) -/
def Obligations.radio_transmission : Prop :=
  (∀ (p : Fin 8) (b : Bool) (a : AckDue) (rest : List AckDue) (s : State), dark s .van = false → (vport s p.val).acks = a :: rest →
    (passed s a.endAt (650 * tickUs) = false → exec (.ackCutoff p b) s = .next s) ∧
    (passed s a.endAt (650 * tickUs) = true →
      (a.decision = some false → exec (.ackCutoff p b) s = .next (setVport p.val { vport s p.val with acks := rest } s)) ∧
      (a.decision = none → ∃ t, exec (.ackCutoff p b) s = .next t ∧ (vport t p.val).acks = rest ∧ raised 31 t = true ∧
        cnt (vanCtr p.val 4) t = sat32 (cnt (vanCtr p.val 4) s + 1)) ∧
      (a.decision = some true → grp s 0 = false → ∃ t, exec (.ackCutoff p b) s = .next t ∧ (vport t p.val).acks = rest ∧
        raised 42 t = true ∧ cnt 0x6001C t = sat32 (cnt 0x6001C s + 1)) ∧
      (a.decision = some true → grp s 0 = true → (vport s p.val).tx.isSome = true ∨ (vport s p.val).running.isSome = true ∨
        (vport s p.val).idle = true ∨ entering s = true ∨
        unclockedPort s p.val = true → exec (.ackCutoff p b) s = .next (setVport p.val { vport s p.val with acks := rest } s)) ∧
      (a.decision = some true → grp s 0 = true → (vport s p.val).tx = none → (vport s p.val).running = none → (vport s p.val).idle = false → entering s = false →
        unclockedPort s p.val = false → ∃ t f, exec (.ackCutoff p b) s = .next t ∧ (vport t p.val).acks = rest ∧ (vport t p.val).tx = some f ∧ f.prio = 1 ∧
          f.bytes = ackFrame s a (decide ((entry s a.idx).pend ≠ 0)) ∧ f.fcs4 = a.fcs4))) ∧
  (∀ (p : Fin 8) (sh air : U32) (f : TxFrame) (s : State), nextTx (vport s p.val).queue = some f → portLive s p = true →
    (vport s p.val).tx = none → (vport s p.val).running = none → (vport s p.val).ackWait = none →
    ∀ cca : List (Byte × Int), (csma (ccaBusy s p.val) 0 cca = none → exec (.csmaComplete p cca sh air) s = .next s) ∧
    ∀ ok, csma (ccaBusy s p.val) 0 cca = some ok →
    (grp s 0 = false → ∃ t, exec (.csmaComplete p cca sh air) s = .next t ∧ (vport t p.val).queue = (vport s p.val).queue.erase f ∧
      raised 42 t = true) ∧
    (grp s 0 = true → withheld s f = true → exec (.csmaComplete p cca sh air) s = .next (dropItem f.item (setVport p.val
      { vport s p.val with queue := (vport s p.val).queue.erase f } s))) ∧
    (grp s 0 = true → withheld s f = false →
      (ok = false → ∃ t, exec (.csmaComplete p cca sh air) s = .next t ∧ raised 32 t = true ∧ (vport t p.val).queue =
        (if f.prio = 3 then (vport s p.val).queue else (vport s p.val).queue.erase f) ∧
        t.tai.outcomes = s.tai.outcomes ++ (if f.prio = 3 ∨ f.prio = 4 then [] else [(f.item, false, false)])) ∧
      (ok = true → overAck (vport s p.val) p.val sh.toNat air.toNat s = true → exec (.csmaComplete p cca sh air) s = .next s) ∧
      (ok = true → overAck (vport s p.val) p.val sh.toNat air.toNat s = false → ∃ t f', exec (.csmaComplete p cca sh air) s = .next t ∧
        (vport t p.val).tx = some f' ∧ f'.bytes = macFrame p.val sh.toNat f (f.seq.getD (vport s p.val).macSeq) s ∧ f'.uni = f.uni ∧
        f'.seq = some (f.seq.getD (vport s p.val).macSeq) ∧ f'.fcs4 = f.fcs4))) ∧
  (∀ (e : Byte × Int) (p : Nat) (s : State), e.1.toNat < 8 →
    csma (ccaBusy s p) 0 [e] = if param s .vane 6 (256 * p) < e.2 then none else some true) ∧
  (∀ (p : Fin 8) (f : TxFrame) (s : State), dark s .van = false → (vport s p.val).tx = some f → (vport s p.val).running = none →
    ∃ t, exec (.vaneTxEnd p) s = .next t ∧ (vport t p.val).tx = none ∧ (vport t p.val).ackWait =
      if f.uni.isSome then some ({ f with bytes := macPayload f.bytes }, s.elapsed + nsTicks (txLat s p.val)) else none) ∧
  ∀ (p : Fin 8) (f : TxFrame) (t0 : Nat) (s : State), dark s .van = false → (vport s p.val).ackWait = some (f, t0) →
    (passed s t0 (1050 * tickUs) = false → exec (.vaneAckWaitExpiry p) s = .next s) ∧
    (passed s t0 (1050 * tickUs) = true → f.tries < paramN s .vane 8 0 → exec (.vaneAckWaitExpiry p) s = .next (setVport p.val
      { vport s p.val with ackWait := none, queue := { f with tries := f.tries + 1 } :: (vport s p.val).queue } s)) ∧
    (passed s t0 (1050 * tickUs) = true → paramN s .vane 8 0 ≤ f.tries → ∃ t, exec (.vaneAckWaitExpiry p) s = .next t ∧
      (vport t p.val).ackWait = none ∧ t.tai.outcomes = s.tai.outcomes ++ [(f.item, false, false)])

/-- A beacon due on a beacon port takes the next BSEQ of its reserve and joins the port's queue, the last one with the exhaustion told of;
none goes past the last or the reserve's ceiling; without the radio group it is
counted and told of and takes none; on another port nothing happens. Beacons half a period late and relays 50 ms late leave the
queue, counted and told of, all other frames stay. A relay that is due leaves its queue: damaged, it is dropped and counted, and at its first
detection told of; without its seen-cache entry it is dropped and told of; suppressed often enough, it is cancelled and counted; otherwise it joins the queue
of every relay port. A missed upstream beacon counts; the third loses the upstream, with its event. The ramp ends after seven
steps, with its event. (R131, R183, R199, R200, R201, R202, R204, R205, R207, R209, R390) -/
def Obligations.beacons_relays_and_ramp : Prop :=
  (∀ (p : Fin 8) (s : State),
    (bit (paramN s .vane 13 0) p.val = false → exec (.beaconDue p) s = .next s) ∧
    (let per := beaconMs s * tickMs
     let k := (s.elapsed + per - p.val * per / 8) / per
     let at_ := k * per + p.val * per / 8 - per
     bit (paramN s .vane 13 0) p.val = true → dark s .van = false → k ≠ 0 → (vport s p.val).beaconAt = 0 ∨ (vport s p.val).beaconAt ≤ at_ →
      ∃ t, exec (.beaconDue p) s = .next t ∧ (vport t p.val).beaconAt = at_ + 1 ∧
        (grp s 0 = false → raised 42 t = true ∧ reserve t 1 = reserve s 1 ∧ (vport t p.val).queue = (vport s p.val).queue) ∧
        (grp s 0 = true → (reserve s 1).val < (reserve s 1).ceil → (reserve s 1).val ≤ 0xFFFF0000 →
          ((reserve s 1).val = 0xFFFF0000 → raised 33 t = true) ∧ (reserve t 1).val = (reserve s 1).val + 1 ∧ t.van.lastHint = hintOf s ∧
          ∃ f, (vport t p.val).queue = (vport s p.val).queue ++ [f] ∧ f.prio = 3 ∧ f.bseq = (reserve s 1).val ∧ f.due = at_) ∧
        (grp s 0 = true → (reserve s 1).ceil ≤ (reserve s 1).val ∨ 0xFFFF0000 < (reserve s 1).val → (vport t p.val).queue = (vport s p.val).queue))) ∧
  (∀ (p : Fin 8) (s : State), dark s .van = false →
    let old := fun (f : TxFrame) => f.prio == 3 && passed s f.due (beaconMs s * tickMs / 2)
    let late := fun (f : TxFrame) => f.prio == 4 && passed s f.due (50 * tickMs)
    (∃ t, exec (.beaconDrop p) s = .next t ∧ (vport t p.val).queue = (vport s p.val).queue.filter (fun f => !old f) ∧
      ((vport s p.val).queue.any old = true → raised 33 t = true)) ∧
    ∃ t, exec (.relayLateDrop p) s = .next t ∧ (vport t p.val).queue = (vport s p.val).queue.filter (fun f => !late f) ∧
      ((vport s p.val).queue.any late = true → raised 37 t = true)) ∧
  (∀ (bad : Bool) (s : State), dark s .van = false →
    let isDue := fun (x : QItem) => match x.body with | .job j => decide (j.due ≤ s.elapsed) | _ => false
    ((queue s 5).find? isDue = none → exec (.relayTime bad) s = .next s) ∧
    ∀ x j, (queue s 5).find? isDue = some x → x.body = .job j → ∃ t, exec (.relayTime bad) s = .next t ∧ queue t 5 = (queue s 5).erase x ∧
      (x.poison = true → cnt 0x60018 t = sat32 (cnt 0x60018 s + 1) ∧ cnt (quePoison 5) t = cnt (quePoison 5) s ∧ t.van = s.van) ∧
      (x.poison = false → bad = true → cnt 0x60018 t = sat32 (cnt 0x60018 s + 1) ∧ cnt (quePoison 5) t = sat32 (cnt (quePoison 5) s + 1) ∧
        raised 115 t = true ∧ t.van = s.van) ∧
      (x.poison = false → bad = false →
        let e := s.ing.seen.find? (fun e => e.idx == j.idx && e.seq == j.seq && e.tagh == j.tagh)
        (e = none → raised 37 t = true ∧ t.van = s.van) ∧
        ∀ y, e = some y →
          (paramN s .vane 11 0 ≤ bits y.vane 4 2 → cnt 0x60014 t = sat32 (cnt 0x60014 s + 1) ∧ t.van = s.van) ∧
          (bits y.vane 4 2 < paramN s .vane 11 0 → grp s 0 = true → ∀ p : Fin 8, bit (paramN s .vane 12 0) p.val = true →
            ∃ f, (vport t p.val).queue = (vport s p.val).queue ++ [f] ∧ f.prio = 4 ∧ f.due = j.due))) ∧
  (∀ s : State, dark s .van = false →
    (s.van.up ≠ .track ∨ s.elapsed < s.van.deadline → exec .upstreamDeadline s = .next s) ∧
    (s.van.up = .track → s.van.deadline ≤ s.elapsed → s.van.misses < 2 → exec .upstreamDeadline s = .next { s with van := { s.van with
      misses := s.van.misses + 1, deadline := s.van.deadline + s.van.period * tickMs } }) ∧
    (s.van.up = .track → s.van.deadline ≤ s.elapsed → 2 ≤ s.van.misses → ∃ t, exec .upstreamDeadline s = .next t ∧ t.van.up = .lost ∧
      raised 34 t = true)) ∧
  ∀ (t0 : Nat) (s : State), dark s .van = false → s.van.ramp = some t0 →
    (passed s t0 (7 * paramN s .vane 16 0 * tickMs) = false → exec .rampEnd s = .next s) ∧
    (passed s t0 (7 * paramN s .vane 16 0 * tickMs) = true → ∃ t, exec .rampEnd s = .next t ∧ t.van.ramp = none ∧ raised 41 t = true)

/-- SCHEDULE_LOAD of a table that follows R226 replaces a stopped port's table at once and a running one's at the end of its
cycle; any other answers BAD_PARAM. SLOT_READ answers the 32 bytes of each entry. SLOT_ASSIGN of a bound index to a FREE slot
makes it ASSIGNED with the index, BIND_GEN, ROBO maps and a refresh due, has its ASSIGN due and raises the slot-allocated event;
where the index held no slot, every other slot stays, and a slot it held on another port, with no exchange in progress, becomes
FREE with its RELEASE due. SLOT_RELEASE frees a slot and only that, TM_OVERRIDE fixes the upstream
map; either waits for its exchange. NOT_FOUND and REFUSED_STATE as R377 gives them. A port that listens locks on 64 words with their SYNC field, and loses its
lock, with the event, at four bad of the last 64. (R215, R217, R222, R224, R226, R227, R236, R377) -/
def Obligations.power_line_slots_and_schedule : Prop :=
  (∀ (c : Ctx) (p : Byte) (n : U16) (s : State), accepts (.scheduleLoad c p n) s = true → c.xlen = 4 * n.toNat →
    let l := (List.range n.toNat).map (fun k => ofLe (slice c.xin (4 * k) 4))
    (4 ≤ p.toNat ∨ schedOk l = false → exec (.scheduleLoad c p n) s = .next (reply c .badParam 0 c.xin.length s)) ∧
    (p.toNat < 4 → schedOk l = true →
      (leaRuns s p.toNat = true → exec (.scheduleLoad c p n) s =
        .next (finish c .ok 0 [] (setLport p.toNat { lport s p.toNat with nextSched := some l } s))) ∧
      (leaRuns s p.toNat = false → exec (.scheduleLoad c p n) s =
        .next (finish c .ok 0 [] (setLport p.toNat { lport s p.toNat with sched := l, nextSched := none } s))))) ∧
  (∀ (c : Ctx) (p : Byte) (first count : U16) (s : State), accepts (.slotRead c p first count) s = true → c.xlen = 32 * count.toNat → p.toNat < 4 →
    (first.toNat + count.toNat ≤ 4096 → exec (.slotRead c p first count) s = .next (finish c .ok 0
      ((List.range count.toNat).map (fun k => slotBytes (slotAt (lport s p.toNat) (first.toNat + k)))).flatten s)) ∧
    (4096 < first.toNat + count.toNat → exec (.slotRead c p first count) s = .next (reply c .badParam 0 c.xin.length s))) ∧
  (∀ (c : Ctx) (p : Byte) (n : U16) (i : Idx) (s : State), accepts (.slotAssign c p n i) s = true → p.toNat < 4 → n.toNat < 4096 →
    ((entry s i.toNat).state = .free → exec (.slotAssign c p n i) s = .next (reply c .notFound 0 c.xin.length s)) ∧
    ((entry s i.toNat).state ≠ .free → (slotAt (lport s p.toNat) n.toNat).st ≠ .free →
      exec (.slotAssign c p n i) s = .next (reply c .refusedState 0 c.xin.length s)) ∧
    ((entry s i.toNat).state ≠ .free → (slotAt (lport s p.toNat) n.toNat).st = .free →
      ∃ t, exec (.slotAssign c p n i) s = .next (finish c .ok 0 [] t) ∧ raised 48 t = true ∧
        slotAt (lport t p.toNat) n.toNat = { idx := i.toNat, bindGen := (entry s i.toNat).bindGen.toNat, st := .assigned
                                             tmUp := robo s p.toNat, tmDown := robo s p.toNat, tmDue := true } ∧
        (n.toNat, euiOf s i.toNat) ∈ (lport t p.toNat).assigns ∧ t.led = s.led ∧ t.tai = s.tai ∧
        ((∀ r < 4, ∀ e ∈ (lport s r).slots, e.2.idx ≠ i.toNat ∨ e.2.st = .free) →
          ∀ r m, r ≠ p.toNat ∨ m ≠ n.toNat → slotAt (lport t r) m = slotAt (lport s r) m) ∧
        ∀ r < 4, ∀ m, r ≠ p.toNat → (slotAt (lport s r) m).idx = i.toNat → (slotAt (lport s r) m).st ≠ .free →
          inExch (lport s r) m = false → slotAt (lport t r) m = {} ∧ (m, euiOf s i.toNat) ∈ (lport t r).releases)) ∧
  (∀ (c : Ctx) (p : Byte) (n : U16) (s : State), accepts (.slotRelease c p n) s = true → p.toNat < 4 → n.toNat < 4096 →
    let q := lport s p.toNat
    ((slotAt q n.toNat).st = .free → exec (.slotRelease c p n) s = .next (reply c .refusedState 0 c.xin.length s)) ∧
    ((slotAt q n.toNat).st ≠ .free → inExch q n.toNat = true → exec (.slotRelease c p n) s = .next (finish c .ok 0 []
      (setLport p.toNat { q with waiting := q.waiting ++ [.release n.toNat false] } s))) ∧
    ((slotAt q n.toNat).st ≠ .free → inExch q n.toNat = false →
      ∃ t, exec (.slotRelease c p n) s = .next (finish c .ok 0 [] t) ∧ slotAt (lport t p.toNat) n.toNat = {} ∧
        (lport t p.toNat).releases = q.releases ++ [(n.toNat, euiOf s (slotAt q n.toNat).idx)] ∧
        ∀ r m, r ≠ p.toNat ∨ m ≠ n.toNat → slotAt (lport t r) m = slotAt (lport s r) m)) ∧
  (∀ (c : Ctx) (p : Byte) (n : U16) (op : Byte) (tm : U32) (s : State), accepts (.tmOverride c p n op tm) s = true → p.toNat < 4 →
    n.toNat < 4096 →
    let q := lport s p.toNat
    let k := slotAt q n.toNat
    let late := fun (x : Option Nat) => finish c .ok 0 [] (setLport p.toNat { q with waiting := q.waiting ++ [.tone n.toNat x] } s)
    (k.st = .free → exec (.tmOverride c p n op tm) s = .next (reply c .refusedState 0 c.xin.length s)) ∧
    (k.st ≠ .free → 1 < op.toNat ∨ (op.toNat = 1 ∧ tmOk s p.toNat tm.toNat = false) →
      exec (.tmOverride c p n op tm) s = .next (reply c .badParam 0 c.xin.length s)) ∧
    (k.st ≠ .free → op.toNat = 1 → tmOk s p.toNat tm.toNat = true → exec (.tmOverride c p n op tm) s = .next (if inExch q n.toNat
      then late (some tm.toNat)
      else finish c .ok 0 [] (putSlotL p.toNat n.toNat { k with override := some tm.toNat, tmUp := tm.toNat } s))) ∧
    (k.st ≠ .free → op.toNat = 0 → exec (.tmOverride c p n op tm) s = .next (if inExch q n.toNat then late none
      else finish c .ok 0 [] (putSlotL p.toNat n.toNat { k with override := none } s)))) ∧
  (∀ (p : Fin 4) (l : List (BitVec 20)) (s : State),
    (leaLive s = false ∨ (lport s p.val).lock = false ∨ laneLoses sdiSync l = false → exec (.afeSyncLoss p l) s = .next s) ∧
    (leaLive s = true → (lport s p.val).lock = true → laneLoses sdiSync l = true → ∃ t, exec (.afeSyncLoss p l) s = .next t ∧
      raised 45 t = true ∧ (lport t p.val).lock = false ∧ ∀ r, r ≠ p.val → lport t r = lport s r) ∧
    exec (.afeSyncLock p l) s = .next (if leaLive s = true ∧ listens s 1 = true ∧ laneLocks sdiSync l = true then
      setLport p.val { lport s p.val with lock := true } s else s)) ∧
  ∀ w : BitVec 20, sdiSync w = true ↔ w.extractLsb 7 4 = 0xA#4

/-- A port's next step begins at its command, once INTER_GAP has passed where it sends at its start: a poll range at its first slot, a
discovery with its DISC_INVITE on the line in ROBO over all groups, its listening from the frame's end, a broadcast step with as many queued
broadcasts as it has; at END the cycle counts, and a table that was waiting replaces the running one. A discovery step ends after its
listening time, every ASSIGN and RELEASE due going out while the group is enabled and staying due otherwise; an idle step ends after its
milliseconds; neither ends early. A DISC_ANSWER of a bound EUI-64 with a FREE slot in the auto range is given that slot; with
none it is counted, and told of once a round. A calibration that ends is no longer due. A slot whose map is older than
TM_REFRESH has a refresh due while the group is enabled. A PHASE write changes PHASE alone, of an entry whose BIND_GEN still matches, and
nothing otherwise. (R216, R225, R226, R227, R229, R234, R238, R245, R246, R248, R484, R485) -/
def Obligations.power_line_steps : Prop :=
  (∀ (p : Fin 4) (s : State), leaLive s = false ∨ s.dev.quiet = true ∨ (lport s p.val).begun = true ∨ (lport s p.val).sched = [] ∨
    mustWait s p.val = true → exec (.leatStepStart p) s = .next s) ∧
  (∀ (p : Fin 4) (s : State), leaLive s = true → s.dev.quiet = false → (lport s p.val).begun = false → (lport s p.val).sched ≠ [] →
    mustWait s p.val = false →
    let q := lport s p.val
    (q.run = false → ∃ t, exec (.leatStepStart p) s = .next t ∧ (lport t p.val).run = true) ∧
    (q.run = true →
    let w := stepWord q
    let s1 := setLport p.val { q with
      begun := true, stepAt := s.elapsed, subMs := leaP s 13 0 0, pos := 0, exch := none, fullRaised := false } s
    (stepType w = 0 → exec (.leatStepStart p) s = .next s1) ∧
    (stepType w = 1 →
      let f := plcFrame s 3 0xFFF q.pseq (leBytes 1 (stepCount w) ++ leBytes 2 (leaP s 13 0 0) ++ zeros 1)
      ∃ t, exec (.leatStepStart p) s = .next t ∧ (lport t p.val).begun = true ∧ (lport t p.val).subMs = leaP s 13 0 0 ∧
        (grp s 1 = true → t.out.head? = some (.plc p.val (robo s p.val) f) ∧ (lport t p.val).stepAt = s.elapsed +
          (sdoTicks (plcWords s p.val (robo s p.val) f) + nsTicks (leaP s 1 p.val 1))) ∧
        (grp s 1 = false → raised 55 t = true ∧ (lport t p.val).stepAt = s.elapsed)) ∧
    (stepType w = 2 → q.calDue = true → 50 ≤ stepCount w → anyCal s = false → grp s 1 = true →
      ∃ t, exec (.leatStepStart p) s = .next t ∧ (lport t p.val).calibrating = true ∧ (lport t p.val).begun = true) ∧
    (stepType w = 2 → q.calDue = false ∨ stepCount w < 50 ∨ anyCal s = true ∨ grp s 1 = false → exec (.leatStepStart p) s = .next s1) ∧
    (stepType w = 3 → ∃ t, exec (.leatStepStart p) s = .next t ∧ (lport t p.val).step = q.step + 1 ∧ (lport t p.val).begun = false ∧
      (lport t p.val).bcast = q.bcast.drop (stepCount w) ∧
      (grp s 1 = true → t.out.length = s.out.length + 4 * min (stepCount w) q.bcast.length)) ∧
    (stepType w = 7 → ∃ t, exec (.leatStepStart p) s = .next t ∧ (lport t p.val).cycle = q.cycle + 1 ∧
      (lport t p.val).sched = q.nextSched.getD q.sched ∧ (lport t p.val).nextSched = none ∧ (lport t p.val).cycleAt = s.elapsed))) ∧
  (∀ (p : Fin 4) (s : State),
    let q := lport s p.val
    (inStep s p.val 1 = true →
      (passed s q.stepAt (stepCount (stepWord q) * q.subMs * tickMs) = false → exec (.discoveryEnd p) s = .next s) ∧
      (passed s q.stepAt (stepCount (stepWord q) * q.subMs * tickMs) = true → ∃ t, exec (.discoveryEnd p) s = .next t ∧
        (lport t p.val).step = q.step + 1 ∧ (lport t p.val).begun = false ∧
        (grp s 1 = true → (lport t p.val).assigns = [] ∧ (lport t p.val).releases = [] ∧
          t.out.length = s.out.length + 4 * (q.assigns.length + q.releases.length)) ∧
        (grp s 1 = false → (lport t p.val).assigns = q.assigns ∧ (lport t p.val).releases = q.releases))) ∧
    (inStep s p.val 2 = true →
      (passed s q.stepAt (stepCount (stepWord q) * tickMs) = false → exec (.idleStepEnd p) s = .next s) ∧
      (passed s q.stepAt (stepCount (stepWord q) * tickMs) = true → exec (.idleStepEnd p) s = .next (stepDone p.val
        (setLport p.val { q with calibrating := false } s))))) ∧
  (∀ (p : Fin 4) (x : PlcRx) (i : Nat) (s : State), leaLive s = true → grp s 1 = true → (lport s p.val).lock = true → s.dev.quiet = false →
    inStep s p.val 1 = true → (∀ d ∈ x.excess, d < param s .leat 17 0) → plcForm x.psdu = true → fType x.psdu = 4 → revFind s (ofLe (slice (fBody x.psdu) 1 8)) = some i →
    (∀ n, leaP s 12 p.val 0 = 1 → autoSlot p.val s = some n → ∃ t, exec (.discAnswerReceived p x) s = .next t ∧ raised 48 t = true ∧
      slotAt (lport t p.val) n = { idx := i, bindGen := (entry s i).bindGen.toNat, st := .assigned
                                   tmUp := robo s p.val, tmDown := robo s p.val, tmDue := true }) ∧
    (leaP s 12 p.val 0 ≠ 1 ∨ autoSlot p.val s = none → ∃ t, exec (.discAnswerReceived p x) s = .next t ∧
      cnt (leaCtr p.val 8) t = sat32 (cnt (leaCtr p.val 8) s + 1) ∧ ((lport s p.val).fullRaised = false → raised 49 t = true) ∧
      (lport t p.val).fullRaised = true ∧ (lport t p.val).slots = (lport s p.val).slots)) ∧
  (∀ (p : Fin 4) (n : BitVec 12) (s : State), leaLive s = true →
    ((lport s p.val).calibrating = true → ∃ t, exec (.plcAfeCalibrationDone p) s = .next t ∧ (lport t p.val).calibrating = false ∧
      (lport t p.val).calDue = false ∧ (lport t p.val).calCmd = [] ∧ (lport t p.val).slots = (lport s p.val).slots) ∧
    (let k := slotAt (lport s p.val) n.toNat
     let age := (nowS s % 2 ^ 32 + 2 ^ 32 - k.tmAge) % 2 ^ 32
     (k.st ≠ .free → leaP s 14 0 0 ≤ age → grp s 1 = true → exec (.tmRefreshDue p n) s = .next (putSlotL p.val n.toNat { k with tmDue := true } s)) ∧
     (k.st = .free ∨ age < leaP s 14 0 0 ∨ grp s 1 = false → exec (.tmRefreshDue p n) s = .next s))) ∧
  ∀ (i g ph : Nat) (rest : List (Nat × Nat × Nat)) (s : State), dark s .ldg = false → s.lea.phaseWr = (i, g, ph) :: rest →
    let s1 := { s with lea := { s.lea with phaseWr := rest } }
    ((entry s i).state = .free ∨ (entry s i).bindGen.toNat ≠ g → exec .phaseWrite s = .next s1) ∧
    ((entry s i).state ≠ .free → (entry s i).bindGen.toNat = g → (entry s i).phase.toNat ≠ ph →
      exec .phaseWrite s = .next (setEntry i { entry s i with phase := BitVec.ofNat 3 ph } s1))

/-- In a poll range, once the line has been idle for CS_IDLE and INTER_GAP has passed, POLL_SEND polls the next slot in use with
the next PSEQ, in the slot's TM_DOWN, its pending acknowledgement taken along, and is counted; without the group it counts the gated
transmission instead and moves on; a stale slot becomes FREE and is counted, as a new poll or a re-poll is built; past the last slot the
step is done; too early, and while an answer is awaited, nothing happens. A re-poll keeps its PSEQ and the parameters its exchange began
with, an extra poll takes new ones. A lost response raises LOSS, is counted and re-polled while re-polls remain, then raises MISS, frees an
ASSIGNED slot at ASSIGN_TRIES and loses an ACTIVE one at LOST_N, with their events and the item's failure; at the fallback the slot's maps
are ROBO with a refresh due. A response received whole makes the slot ACTIVE with MISS and LOSS zero and LAST_RESP now; with MORE set and
extra polls left, another poll is due. A bad frame, and one of another concentrator, is counted, and is a loss where an answer was awaited;
a wrong PSEQ or SLOT is only counted; in QUIET what is heard is dropped and counted. The exchange of a slot that was freed meanwhile ends
with the slot FREE (the model's reading, log entry 64). (R216, R220, R225, R227, R228, R229, R230, R231, R233,
R235, R239, R246) -/
def Obligations.power_line_polling : Prop :=
  (∀ (p : Fin 4) (idle : U32) (s : State), inStep s p.val 0 = true →
    let q := lport s p.val
    let cs := leaP (exState q.exch s) 2 0 0 * 1000000
    (idle.toNat < cs ∨ gapOver s p.val = false ∨ (∃ e, q.exch = some e ∧ e.open_ = true) → exec (.pollSend p idle) s = .next s) ∧
    (cs ≤ idle.toNat → gapOver s p.val = true → q.exch = none →
      (rangeSlots q = [] → exec (.pollSend p idle) s = .next (stepDone p.val s)) ∧
      ∀ n k rest, rangeSlots q = (n, k) :: rest →
        (k.st = .lost → q.cycle % leaP s 9 0 0 ≠ 0 → rest = [] → exec (.pollSend p idle) s = .next (stepDone p.val s)) ∧
        (k.st ≠ .lost → grp s 1 = false → ∃ t, exec (.pollSend p idle) s = .next t ∧ raised 55 t = true ∧ t.tai = s.tai ∧
          cnt (leaCtr p.val 11) t = sat32 (cnt (leaCtr p.val 11) s + 1) ∧ (lport t p.val).pos = n - bits (stepWord q) 0 12 + 1) ∧
        (k.st ≠ .lost → grp s 1 = true → (entry s k.idx).state = .free ∨ (entry s k.idx).bindGen.toNat ≠ k.bindGen → rest = [] →
          ∃ t, exec (.pollSend p idle) s = .next t ∧ slotAt (lport t p.val) n = {} ∧ (lport t p.val).step = q.step + 1 ∧
            cnt 0x70008 t = sat32 (cnt 0x70008 s + 1) ∧ t.out = s.out) ∧
        (k.st ≠ .lost → grp s 1 = true → (entry s k.idx).state ≠ .free → (entry s k.idx).bindGen.toNat = k.bindGen →
          ∃ t e b, exec (.pollSend p idle) s = .next t ∧ t.out.head? = some (.plc p.val (slotAt q n).tmDown b) ∧
            (lport t p.val).exch = some e ∧ e.slot = n ∧
            e.pseq = (q.pseq + 1) % 256 ∧ e.open_ = true ∧ e.repolls = 0 ∧ e.tmReq = (slotAt q n).tmDue ∧
            e.endAt = s.elapsed + (sdoTicks (plcWords s p.val (slotAt q n).tmDown b) + nsTicks (leaP s 1 p.val 1)) ∧ e.cfg = s.cfg ∧
            (slotAt (lport t p.val) n).ackDue = false ∧
            (lport t p.val).pos = n - bits (stepWord q) 0 12 ∧ cnt (leaCtr p.val 0) t = sat32 (cnt (leaCtr p.val 0) s + 1))) ∧
    ∀ e, cs ≤ idle.toNat → gapOver s p.val = true → q.exch = some e → e.open_ = false →
      let k := slotAt q e.slot
      (grp s 1 = false → ∃ t, exec (.pollSend p idle) s = .next t ∧ raised 55 t = true ∧ (lport t p.val).exch = none) ∧
      (grp s 1 = true → staleSlot s k = true → ∃ t, exec (.pollSend p idle) s = .next t ∧ slotAt (lport t p.val) e.slot = {} ∧
        (lport t p.val).exch = none ∧ cnt 0x70008 t = sat32 (cnt 0x70008 s + 1) ∧ t.out = s.out) ∧
      (grp s 1 = true → staleSlot s k = false → ∃ t e' b, exec (.pollSend p idle) s = .next t ∧
        t.out.head? = some (.plc p.val k.tmDown b) ∧ (lport t p.val).exch = some e' ∧ e'.slot = e.slot ∧ e'.open_ = true ∧
        e'.more = e.more ∧ (e.fresh = false → e'.pseq = e.pseq ∧ e'.repolls = e.repolls ∧ e'.cfg = e.cfg) ∧
        (e.fresh = true → e'.pseq = (q.pseq + 1) % 256 ∧ e'.repolls = 0 ∧ e'.cfg = s.cfg))) ∧
  (∀ (p : Fin 4) (fch : Bool) (e : Exch) (s : State), leaLive s = true → (lport s p.val).exch = some e → e.open_ = true →
    let q := lport s p.val
    let k := slotAt q e.slot
    (fch = false → passed s e.endAt ((exP e 3 0 0 + 1) * tickMs) = false → exec (.responseLost p fch) s = .next s) ∧
    (fch = true ∨ passed s e.endAt ((exP e 3 0 0 + 1) * tickMs) = true → k.st = .free → ∃ t, exec (.responseLost p fch) s = .next t ∧
      (lport t p.val).exch = none ∧ (q.waiting = [] → slotAt (lport t p.val) e.slot = k) ∧
      cnt (leaCtr p.val 2) t = sat32 (cnt (leaCtr p.val 2) s + 1)) ∧
    (fch = true ∨ passed s e.endAt ((exP e 3 0 0 + 1) * tickMs) = true → k.st ≠ .free →
      (e.repolls < exP e 5 0 0 → ∃ t, exec (.responseLost p fch) s = .next t ∧
        (lport t p.val).exch = some { e with repolls := e.repolls + 1, open_ := false } ∧
        (slotAt (lport t p.val) e.slot).loss = min 255 (k.loss + 1) ∧ (slotAt (lport t p.val) e.slot).miss = k.miss ∧ t.tai = s.tai ∧
        cnt (leaCtr p.val 2) t = sat32 (cnt (leaCtr p.val 2) s + 1) ∧
        (min 255 (k.loss + 1) = exP e 7 0 0 → raised 50 t = true ∧ (slotAt (lport t p.val) e.slot).tmDue = true ∧
          (slotAt (lport t p.val) e.slot).tmDown = robo s p.val ∧ (slotAt (lport t p.val) e.slot).tmUp = robo s p.val)) ∧
      (exP e 5 0 0 ≤ e.repolls → q.waiting = [] →
        let miss := min 255 (k.miss + 1)
        ∃ t, exec (.responseLost p fch) s = .next t ∧ (lport t p.val).exch = none ∧ (lport t p.val).pos = q.pos + 1 ∧
          t.tai.outcomes = s.tai.outcomes ++ (e.item.toList.map (fun x => (x.1, false, false))) ∧
          (k.st = .assigned → exP e 11 0 0 ≤ miss → slotAt (lport t p.val) e.slot = {}) ∧
          (k.st = .active → exP e 8 0 0 ≤ miss → raised 46 t = true ∧ (slotAt (lport t p.val) e.slot).st = .lost) ∧
          (k.st = .active → miss < exP e 8 0 0 → (slotAt (lport t p.val) e.slot).st = .active ∧
            (slotAt (lport t p.val) e.slot).miss = miss)))) ∧
  ∀ (p : Fin 4) (x : PlcRx) (s : State), leaLive s = true → (lport s p.val).lock = true →
    (s.dev.quiet = true → exec (.responseReceived p x) s = .next (bump (leaCtr p.val 12) 1 s)) ∧
    (s.dev.quiet = false → grp s 1 = false → exec (.responseReceived p x) s = .next s) ∧
    (s.dev.quiet = false → grp s 1 = true → (∀ e, (lport s p.val).exch = some e → e.open_ = false) →
      (∀ d ∈ x.excess, d < param s .leat 17 0) → plcForm x.psdu = false →
      ∃ t, exec (.responseReceived p x) s = .next t ∧ cnt (leaCtr p.val 3) t = sat32 (cnt (leaCtr p.val 3) s + 1) ∧ t.lea = s.lea) ∧
    (∀ e, s.dev.quiet = false → grp s 1 = true → (lport s p.val).exch = some e → e.open_ = true →
      (∀ d ∈ x.excess, d < cfgGet e.cfg .leat 17 0) → (slotAt (lport s p.val) e.slot).st = .free → plcForm x.psdu = true →
      fConc x.psdu = paramN s .vane 3 0 → fType x.psdu = 2 → byteAt x.psdu 6 = e.pseq → fSlot x.psdu = e.slot + 4096 * p.val →
      (lport s p.val).waiting = [] → ∃ t, exec (.responseReceived p x) s = .next t ∧ (lport t p.val).exch = none ∧
        slotAt (lport t p.val) e.slot = slotAt (lport s p.val) e.slot ∧ cnt (leaCtr p.val 1) t = sat32 (cnt (leaCtr p.val 1) s + 1)) ∧
    ∀ e, s.dev.quiet = false → grp s 1 = true → (lport s p.val).exch = some e → e.open_ = true →
      (∀ d ∈ x.excess, d < cfgGet e.cfg .leat 17 0) → (slotAt (lport s p.val) e.slot).st ≠ .free →
      (plcForm x.psdu = false → ∃ t, exec (.responseReceived p x) s = .next t ∧
        cnt (leaCtr p.val 3) t = sat32 (cnt (leaCtr p.val 3) s + 1) ∧ cnt (leaCtr p.val 2) t = sat32 (cnt (leaCtr p.val 2) s + 1)) ∧
      (plcForm x.psdu = true → fType x.psdu ≠ 4 → fConc x.psdu ≠ paramN s .vane 3 0 → ∃ t, exec (.responseReceived p x) s = .next t ∧
        cnt (leaCtr p.val 4) t = sat32 (cnt (leaCtr p.val 4) s + 1) ∧ cnt (leaCtr p.val 2) t = sat32 (cnt (leaCtr p.val 2) s + 1)) ∧
      (plcForm x.psdu = true → fConc x.psdu = paramN s .vane 3 0 → fType x.psdu = 2 →
      (byteAt x.psdu 6 ≠ e.pseq ∨ fSlot x.psdu ≠ e.slot + 4096 * p.val → ∃ t, exec (.responseReceived p x) s = .next t ∧
        cnt (leaCtr p.val 3) t = sat32 (cnt (leaCtr p.val 3) s + 1) ∧ t.lea = s.lea ∧ t.tai = s.tai ∧ t.ing = s.ing) ∧
      (byteAt x.psdu 6 = e.pseq → fSlot x.psdu = e.slot + 4096 * p.val → (lport s p.val).waiting = [] →
        ∃ t, exec (.responseReceived p x) s = .next t ∧ cnt (leaCtr p.val 1) t = sat32 (cnt (leaCtr p.val 1) s + 1) ∧
          (let k := slotAt (lport t p.val) e.slot
           k.st = .active ∧ k.miss = 0 ∧ k.loss = 0 ∧ k.lastResp = nowS s % 2 ^ 32) ∧
          ((slotAt (lport s p.val) e.slot).st = .lost → raised 47 t = true) ∧
          t.tai.outcomes = s.tai.outcomes ++ (e.item.toList.map (fun y => (y.1, true, false))) ∧
          (bit (byteAt x.psdu 1) 0 = true → e.more < exP e 6 0 0 → (lport t p.val).exch = some
            { slot := e.slot, pseq := e.pseq, more := e.more + 1, open_ := false, fresh := true, cfg := s.cfg }) ∧
          (bit (byteAt x.psdu 1) 0 = false ∨ exP e 6 0 0 ≤ e.more → (lport t p.val).exch = none)))

/-- TARIFF_LOAD of a newer version of at most 4,096 bytes into a slot no sweep runs on stores it and starts the sweep; otherwise
BAD_PARAM or BUSY. The sweep marks every record that names the slot, with its event. TARIFF_ASSIGN gives each listed index the
slot, unconfirmed, at segment 0, with its flag, and touches no other record; a FREE index answers NOT_FOUND. RECORD_READ answers
16 bytes an index. A CONFIRM TARIFF OK of the version in the slot clears TUNCONF; one of another version is ignored; both are
counted. PEND's Tailrace bits follow the record, HOST stays. A MAC success clears UFAIL and moves TSEG on; a failure raises
UFAIL, floods at the threshold, and is counted. A parked repair entry starts again after REPAIR_REPEAT. Timers and outcomes are served while
Tailrace has its clock and its bus master is not frozen. (R254, R256, R257, R259,
R260, R261, R262, R263, R269, R270, R378) -/
def Obligations.tariffs_records_and_outcomes : Prop :=
  (∀ (c : Ctx) (slot : Byte) (ver size : U32) (s : State), accepts (.tariffLoad c slot ver size) s = true → sizeForm c size.toNat = true →
    (slot = 0xFF ∨ ver.toNat ≤ (tariff s slot.toNat).ver ∨ 4096 < size.toNat →
      exec (.tariffLoad c slot ver size) s = .next (reply c .badParam 0 c.xin.length s)) ∧
    (slot ≠ 0xFF → (tariff s slot.toNat).ver < ver.toNat → size.toNat ≤ 4096 →
      (s.tai.sweep.contains slot.toNat = true → exec (.tariffLoad c slot ver size) s = .next (reply c .busy 0 c.xin.length s)) ∧
      (s.tai.sweep.contains slot.toNat = false → exec (.tariffLoad c slot ver size) s = .next (finish c .ok 0 [] { s with tai := { s.tai with
        tariffs := tset {} s.tai.tariffs slot.toNat { ver := ver.toNat, data := c.xin.take size.toNat }
        sweep := s.tai.sweep ++ [slot.toNat] } })))) ∧
  (∀ (c : Ctx) (slot : Byte) (n : U16) (s : State), accepts (.tariffAssign c slot n) s = true → c.xlen = 4 * n.toNat →
    let l := xinWords c n.toNat
    (anyFree s l = true → exec (.tariffAssign c slot n) s = .next (reply c .notFound 0 c.xin.length s)) ∧
    (anyFree s l = false → n = 0 ∨ 1024 < n.toNat ∨ allIdx l = false →
      exec (.tariffAssign c slot n) s = .next (reply c .badParam 0 c.xin.length s)) ∧
    (anyFree s l = false → 0 < n.toNat → n.toNat ≤ 1024 → allIdx l = true →
      ∃ t, exec (.tariffAssign c slot n) s = .next (finish c .ok 0 [] t) ∧
        (∀ i ∈ l, dl t i = { dl s i with tslot := slot.toNat, tunconf := true, tseg := 0 } ∧
          (slot ≠ 0xFF → (entry t i).pend.getLsbD 0 = true) ∧ (entry t i).pend.getLsbD 3 = (entry s i).pend.getLsbD 3) ∧
        ∀ i, i ∉ l → dl t i = dl s i ∧ entry t i = entry s i)) ∧
  (∀ (slot : Nat) (rest : List Nat) (s : State), halted s .tai 9 = false → s.tai.sweep = slot :: rest → slot ≠ 0xFF →
    ∃ t, exec .tariffSweepDone s = .next t ∧ t.tai.sweep = rest ∧ raised 63 t = true ∧
      (∀ i, (dl s i).tslot = slot → dl t i = { dl s i with tunconf := true, tseg := 0 }) ∧
      ∀ i, (∀ e ∈ s.tai.recs, e.1 = i → e.2.tslot ≠ slot) → dl t i = dl s i) ∧
  (∀ (c : Ctx) (first count : U32) (s : State), accepts (.recordRead c first count) s = true → c.xlen = 16 * count.toNat →
    (first.toNat + count.toNat ≤ 2 ^ 20 → exec (.recordRead c first count) s = .next (finish c .ok 0
      (((List.range count.toNat).map (fun k => dlBytes (dl s (first.toNat + k)))).flatten) s)) ∧
    (2 ^ 20 < first.toNat + count.toNat → exec (.recordRead c first count) s = .next (reply c .badParam 0 c.xin.length s))) ∧
  (∀ (i : Nat) (b : List Byte) (rest : List (Nat × List Byte)) (s : State), halted s .tai 9 = false → s.tai.confirms = (i, b) :: rest → b.length = 8 →
    byteAt b 0 = 1 → byteAt b 1 = 0 → byteAt b 3 = 0 → (dl s i).tslot ≠ 0xFF →
    (ofLe (slice b 4 4) = (tariff s (dl s i).tslot).ver → ∃ t, exec .confirmProcess s = .next t ∧ t.tai.confirms = rest ∧
      dl t i = { dl s i with tunconf := false } ∧ cnt 0x8003C t = sat32 (cnt 0x8003C s + 1) ∧ ∀ j, j ≠ i → dl t j = dl s j) ∧
    (ofLe (slice b 4 4) ≠ (tariff s (dl s i).tslot).ver → ∃ t, exec .confirmProcess s = .next t ∧ t.tai.confirms = rest ∧
      t.tai.recs = s.tai.recs ∧ t.led = s.led ∧ cnt 0x80040 t = sat32 (cnt 0x80040 s + 1))) ∧
  (∀ (i : Idx) (s : State),
    ((entry s i.toNat).state = .free ∨ halted s .tai 9 = true → exec (.pendFlagWrite i) s = .next s) ∧
    ((entry s i.toNat).state ≠ .free → halted s .tai 9 = false → exec (.pendFlagWrite i) s = .next (setEntry i.toNat { entry s i.toNat with
      pend := ((entry s i.toNat).pend &&& 8#4) ||| pendOf (dl s i.toNat) } s))) ∧
  (∀ (num i slot seg port : Nat) (more fp : Bool) (rest : List (Nat × Bool × Bool)) (s : State), halted s .tai 9 = false →
    s.tai.items.find? (fun it => it.num == num) = some ⟨num, .tariff i slot seg, port, more⟩ → port < 8 →
    (s.tai.outcomes = (num, false, fp) :: rest → ∃ t, exec .tdfMacOutcome s = .next t ∧ t.tai.outcomes = rest ∧
      dl t i = { dl s i with
        ufail := min 255 ((dl s i).ufail + 1)
        floodOnly := (dl s i).floodOnly || decide (paramN s .tailrace 2 0 ≤ min 255 ((dl s i).ufail + 1)) } ∧
      t.tai.items = s.tai.items.filter (fun x => x.num != num) ∧ cnt 0x80034 t = sat32 (cnt 0x80034 s + 1)) ∧
    (s.tai.outcomes = (num, true, fp) :: rest → s.tai.bursts = [] → (dl s i).tslot = slot → 0 < nseg (tariff s slot) →
      ∃ t, exec .tdfMacOutcome s = .next t ∧ t.tai.outcomes = rest ∧ cnt 0x80020 t = sat32 (cnt 0x80020 s + 1) ∧
        dl t i = { dl s i with ufail := 0, tseg := ((dl s i).tseg + 1) % nseg (tariff s slot) })) ∧
  ∀ (n : U16) (t0 : Nat) (s : State), halted s .tai 9 = false → (repair s n.toNat).parked = some t0 → (repair s n.toNat).ranges ≠ [] →
    (passed s t0 (paramN s .tailrace 7 0 * tickS) = false → exec (.repairResend n) s = .next s) ∧
    (passed s t0 (paramN s .tailrace 7 0 * tickS) = true → exec (.repairResend n) s = .next (setRepair n.toNat
      { repair s n.toNat with range := 0, block := 0, frag := 0, parked := none } s))

/-- CAMPAIGN_LOAD of an IDLE campaign stores the image and answers its blocks. CAMPAIGN_TARGET of a LOADED one makes exactly the
listed indices members or takes them out, or adds all bound indices of a KIND, and answers the members. START with a member and
a later deadline announces it; after ANNOUNCE_S the first pass begins; ACTIVATE needs REPAIR and no safety fault; ABORT leaves
no member and none of its frames waiting; at the deadline the unfinished members count as failed and it closes, with its event;
RELEASE and the end of the abort's hold free the image; RELOAD of the image with the recorded digest restores the prior state
(what follows at once there applies: ACTIVATE with no member left closes), answers VERIFY_FAILED for any other, and
REFUSED_STATE for a campaign suspended in ACTIVATE while a safety fault is reported. In every other state each answers REFUSED_STATE. A ready path sends the next fragment
of the campaign whose turn it is, counts it, and its turn passes. (R253, R264, R265, R266, R267, R268, R269, R281, R378) -/
def Obligations.campaigns : Prop :=
  (∀ (c : Ctx) (k : Byte) (ver size : U32) (s : State), accepts (.campaignLoad c k ver size) s = true → sizeForm c size.toNat = true → k.toNat < 16 →
    ((camp s k.toNat).st ≠ .idle → exec (.campaignLoad c k ver size) s = .next (reply c .refusedState 0 c.xin.length s)) ∧
    ((camp s k.toNat).st = .idle → 0 < size.toNat → size.toNat ≤ 4194304 →
      ∃ t, exec (.campaignLoad c k ver size) s = .next (finish c .ok ((size.toNat + 1023) / 1024) [] t) ∧ raised 56 t = true ∧
        camp t k.toNat = { image := c.xin.take size.toNat, size := size.toNat, imgVer := ver.toNat, blocks := (size.toNat + 1023) / 1024
                           digest := Config.sha256 (c.xin.take size.toNat), st := .loaded, since := s.elapsed } ∧
        ∀ j, j ≠ k.toNat → camp t j = camp s j) ∧
    ((camp s k.toNat).st = .idle → size = 0 ∨ 4194304 < size.toNat →
      exec (.campaignLoad c k ver size) s = .next (reply c .badParam 0 c.xin.length s))) ∧
  (∀ (c : Ctx) (k : Byte) (size : U32) (s : State), accepts (.campaignReload c k size) s = true → sizeForm c size.toNat = true → k.toNat < 16 →
    ((camp s k.toNat).st ≠ .suspended → exec (.campaignReload c k size) s = .next (reply c .refusedState 0 c.xin.length s)) ∧
    ((camp s k.toNat).st = .suspended → (camp s k.toNat).prior = .activate → safetyFault s = true →
      exec (.campaignReload c k size) s = .next (reply c .refusedState 0 c.xin.length s)) ∧
    ((camp s k.toNat).st = .suspended → (camp s k.toNat).prior ≠ .activate ∨ safetyFault s = false →
      (Config.sha256 (c.xin.take size.toNat) ≠ (camp s k.toNat).digest ∨ size.toNat ≠ (camp s k.toNat).size →
        exec (.campaignReload c k size) s = .next (reply c .verifyFailed 0 c.xin.length s)) ∧
      (Config.sha256 (c.xin.take size.toNat) = (camp s k.toNat).digest → size.toNat = (camp s k.toNat).size →
        ∃ t, exec (.campaignReload c k size) s = .next (finish c .ok 0 [] t) ∧ raised 56 t = true ∧
          (camp t k.toNat).image = c.xin.take size.toNat ∧ (camp t k.toNat).paths = [] ∧
          ((camp s k.toNat).prior = .loaded ∨ (camp s k.toNat).prior = .announce ∨
            ((camp s k.toNat).prior = .multicast ∧ paths s ≠ []) ∨
            ((camp s k.toNat).prior = .repair ∧ param s .tailrace 8 0 = 0) ∨
            ((camp s k.toNat).prior = .activate ∧ members s k.toNat ≠ []) → (camp t k.toNat).st = (camp s k.toNat).prior) ∧
          ((camp s k.toNat).prior = .activate → members s k.toNat = [] → (camp t k.toNat).st = .closed)))) ∧
  (∀ (c : Ctx) (k op kind : Byte) (n : U16) (s : State), accepts (.campaignTarget c k op kind n) s = true → k.toNat < 16 →
    c.xlen = (if op.toNat < 2 then 4 * n.toNat else 0) →
    ((camp s k.toNat).st ≠ .loaded → exec (.campaignTarget c k op kind n) s = .next (reply c .refusedState 0 c.xin.length s)) ∧
    ((camp s k.toNat).st = .loaded →
      (op.toNat < 2 → anyFree s (xinWords c n.toNat) = true →
        exec (.campaignTarget c k op kind n) s = .next (reply c .notFound 0 c.xin.length s)) ∧
      (4 ≤ op.toNat ∨ (2 ≤ op.toNat ∧ 2 < kind.toNat) ∨
        (op.toNat < 2 ∧ anyFree s (xinWords c n.toNat) = false ∧ allIdx (xinWords c n.toNat) = false) →
        exec (.campaignTarget c k op kind n) s = .next (reply c .badParam 0 c.xin.length s)) ∧
      (op.toNat < 2 → anyFree s (xinWords c n.toNat) = false → allIdx (xinWords c n.toNat) = true →
        ∃ t, exec (.campaignTarget c k op kind n) s = .next (finish c .ok (members t k.toNat).length [] t) ∧
          (∀ i ∈ xinWords c n.toNat, (dl t i).cmemb.getLsbD k.toNat = decide (op.toNat = 0)) ∧
          (∀ i, i ∉ xinWords c n.toNat → dl t i = dl s i) ∧ t.tai.camps = s.tai.camps) ∧
      (2 ≤ op.toNat → op.toNat < 4 → kind.toNat ≤ 2 →
        ∃ t, exec (.campaignTarget c k op kind n) s = .next (finish c .ok (members t k.toNat).length [] t) ∧
          (∀ i, (entry s i).state ≠ .free → (entry s i).kind.toNat = kind.toNat →
            (dl t i).cmemb.getLsbD k.toNat = decide (op.toNat = 2)) ∧ t.tai.camps = s.tai.camps))) ∧
  (∀ (c : Ctx) (k : Byte) (dl_ : U48) (s : State), accepts (.campaignStart c k dl_) s = true → k.toNat < 16 →
    let v := camp s k.toNat
    (v.st ≠ .loaded ∨ members s k.toNat = [] → exec (.campaignStart c k dl_) s = .next (reply c .refusedState 0 c.xin.length s)) ∧
    (v.st = .loaded → members s k.toNat ≠ [] →
      (dl_.toNat ≤ nowS s → exec (.campaignStart c k dl_) s = .next (reply c .badParam 0 c.xin.length s)) ∧
      (nowS s < dl_.toNat → ∃ t, exec (.campaignStart c k dl_) s = .next (finish c .ok 0 [] t) ∧ raised 56 t = true ∧
        camp t k.toNat = { v with deadline := dl_.toNat, st := .announce, since := s.elapsed }))) ∧
  (∀ (c : Ctx) (k : Byte) (s : State), accepts (.campaignActivate c k) s = true → k.toNat < 16 →
    let v := camp s k.toNat
    (v.st ≠ .repair ∨ safetyFault s = true → exec (.campaignActivate c k) s = .next (reply c .refusedState 0 c.xin.length s)) ∧
    (v.st = .repair → safetyFault s = false → members s k.toNat ≠ [] →
      ∃ t, exec (.campaignActivate c k) s = .next (finish c .ok 0 [] t) ∧ raised 56 t = true ∧
        camp t k.toNat = { v with st := .activate, since := s.elapsed })) ∧
  (∀ (c : Ctx) (k : Byte) (s : State), accepts (.campaignAbort c k) s = true → k.toNat < 16 →
    let v := camp s k.toNat
    (v.st = .idle ∨ v.st = .closed ∨ v.st = .aborted → exec (.campaignAbort c k) s = .next (reply c .refusedState 0 c.xin.length s)) ∧
    (v.st ≠ .idle → v.st ≠ .closed → v.st ≠ .aborted → ∃ t, exec (.campaignAbort c k) s = .next (finish c .ok 0 [] t) ∧
      (camp t k.toNat).st = .aborted ∧ raised 56 t = true ∧ (∀ i, (dl t i).cmemb.getLsbD k.toNat = false) ∧
      (taiHeld s = true → ∀ p, ∀ f ∈ (vport t p).queue, f.camp ≠ some k.toNat))) ∧
  (∀ (c : Ctx) (k : Byte) (s : State), accepts (.campaignRelease c k) s = true → k.toNat < 16 →
    let v := camp s k.toNat
    (v.st ≠ .closed → exec (.campaignRelease c k) s = .next (reply c .refusedState 0 c.xin.length s)) ∧
    (v.st = .closed → ∃ t, exec (.campaignRelease c k) s = .next (finish c .ok 0 [] t) ∧
      camp t k.toNat = { v with image := [], paths := [], st := .idle, since := s.elapsed })) ∧
  (∀ (k : Fin 16) (s : State), halted s .tai 9 = false →
    let v := camp s k.val
    (v.st = .announce →
      (passed s v.since (paramN s .tailrace 5 0 * tickS) = false → exec (.announceElapsed k) s = .next s) ∧
      (passed s v.since (paramN s .tailrace 5 0 * tickS) = true → paths s ≠ [] → ∃ t, exec (.announceElapsed k) s = .next t ∧
        camp t k.val = { v with pass := 1, paths := [], st := .multicast, since := s.elapsed } ∧ raised 56 t = true)) ∧
    (v.st = .announce ∨ v.st = .multicast ∨ v.st = .repair ∨ v.st = .activate →
      (nowS s < v.deadline → exec (.campaignDeadline k) s = .next s) ∧
      (v.deadline ≤ nowS s → ∃ t, exec (.campaignDeadline k) s = .next t ∧ raised 57 t = true ∧ (camp t k.val).st = .closed ∧
        (camp t k.val).failed = v.failed + (members s k.val).length ∧ ∀ i, (dl t i).cmemb.getLsbD k.val = false)) ∧
    (v.st = .aborted →
      (passed s v.since (paramN s .tailrace 6 0 * tickS) = false → exec (.abortHoldElapsed k) s = .next s) ∧
      (passed s v.since (paramN s .tailrace 6 0 * tickS) = true → ∃ t, exec (.abortHoldElapsed k) s = .next t ∧
        camp t k.val = { v with image := [], paths := [], st := .idle, since := s.elapsed }))) ∧
  ∀ (p : Fin 13) (s : State), halted s .tai 9 = false →
    (pathReady p.val s = false → exec (.fragGapSend p) s = .next s) ∧
    ∀ c, pathReady p.val s = true → nextCamp p.val s = some c → p.val < 12 → (reserve s 2).val < (reserve s 2).ceil →
      (reserve s 2).val < 0xFFFFF000 → ∃ t, exec (.fragGapSend p) s = .next t ∧ cnt 0x80030 t = sat32 (cnt 0x80030 s + 1) ∧
        tget 0 t.tai.turn p.val = c + 1 ∧ tget 0 t.tai.pathAt p.val = s.elapsed + 1 ∧ (reserve s 2).val < (reserve t 2).val ∧
        ((camp t c).st = .multicast → (camp t c).pass = (camp s c).pass →
          campPath (camp t c) p.val = advancePath (camp s c) p.val 1)

/-- SETPOINT answers REFUSED_STATE without a root key or while setpoints are disabled, NOT_FOUND for a FREE index, BAD_PARAM
where both channels find a failed check; nothing changes. Where both pass and agree, it is released: the index's entry holds the
sequence, body and end, SPX names it, the SETPOINT flag stands, and it is counted; where they agree only on the second run it is
released too, with the compare event and the transient fault, counted and told of, unless the first run took the last sequence number before
DSEQ_END: then it answers REFUSED_STATE, with no entry. Where the comparator finds a lasting
mismatch, a transient one recurs, or the channels differ in their checks, it answers REFUSED_STATE, the compare event is raised and
setpoints are disabled. WITHDRAW, the reach of UNTIL_S and a CONFIRM of its SP_SEQ each end it: entry freed, SPX cleared, event
raised, its record queued for the host, expiry and confirmation counted; one that has not reached UNTIL_S stays. SP_RETRY sends its
body again after SP_RETRY seconds and not before, and disables setpoints where the comparator finds a lasting mismatch. (R259,
R271, R272, R273, R274, R275, R276, R378, R477, R478) -/
def Obligations.setpoints : Prop :=
  let record := fun (i : Nat) (e : SpEntry) (code : Nat) (s : State) =>
    leBytes 4 i ++ leBytes 4 e.seq ++ leBytes 1 code ++ zeros 3 ++ leBytes 4 (nowS s)
  (∀ (c : Ctx) (i : Idx) (b : List Byte) (cmp : SpCompare) (s : State), accepts (.setpoint c i b cmp) s = true →
    let a := spForm b && spChecks s.tai.limA i.toNat b s
    let a' := spForm b && spChecks s.tai.limB i.toNat b s
    (devKey s 3 = [] ∨ spEnabled s = false → exec (.setpoint c i b cmp) s = .next (reply c .refusedState 0 c.xin.length s)) ∧
    (devKey s 3 ≠ [] → spEnabled s = true →
      ((entry s i.toNat).state = .free → exec (.setpoint c i b cmp) s = .next (reply c .notFound 0 c.xin.length s)) ∧
      ((entry s i.toNat).state ≠ .free →
        (a = false → a' = false → exec (.setpoint c i b cmp) s = .next (reply c .badParam 0 c.xin.length s)) ∧
        (a = true ∨ a' = true → (dl s i.toNat).dseqEnd = true → exec (.setpoint c i b cmp) s = .next (reply c .refusedState 0 c.xin.length s)) ∧
        (a = true ∨ a' = true → (dl s i.toNat).dseqEnd = false → spPlace i.toNat s = none →
          exec (.setpoint c i b cmp) s = .next (reply c .noSpace 0 c.xin.length s)) ∧
        ∀ n, (dl s i.toNat).dseqEnd = false → spPlace i.toNat s = some n →
          (a = true → a' = true → cmp = .equal → ∃ t e, exec (.setpoint c i b cmp) s = .next (finish c .ok 0 [] t) ∧
            tget none t.tai.sps n = some e ∧ e.idx = i.toNat ∧ e.seq = spSeq b ∧ e.body = b ∧ e.untilS = ofLe (slice b 16 4) ∧
            (dl t i.toNat).spx = n ∧ (entry t i.toNat).pend.getLsbD 2 = true ∧ (dl s i.toNat).dseq < (dl t i.toNat).dseq ∧
            cnt 0x80044 t = sat32 (cnt 0x80044 s + 1)) ∧
          (a = true → a' = true → cmp = .transient → recurs 2 s = false → (dl s i.toNat).dseq + 1 < 0xFFFFF000 → ∃ t e, exec (.setpoint c i b cmp) s = .next (finish c .ok 0 [] t) ∧
            tget none t.tai.sps n = some e ∧ e.seq = spSeq b ∧ e.body = b ∧ (dl t i.toNat).spx = n ∧ raised 59 t = true ∧ raised 123 t = true ∧
            t.saf.safe = s.saf.safe ∧ cnt 0x80050 t = sat32 (cnt 0x80050 s + 1) ∧ cnt 0x80044 t = sat32 (cnt 0x80044 s + 1)) ∧
          (a = true → a' = true → cmp = .transient → recurs 2 s = false → 0xFFFFF000 ≤ (dl s i.toNat).dseq + 1 →
            ∃ t, exec (.setpoint c i b cmp) s = .next (reply c .refusedState 0 c.xin.length t) ∧ raised 59 t = true ∧
              t.tai.sps = s.tai.sps ∧ t.saf.safe = s.saf.safe ∧ (dl t i.toNat).dseqEnd = true ∧ cnt 0x80044 t = cnt 0x80044 s) ∧
          (a ≠ a' ∨ (a = true ∧ a' = true ∧ (cmp = .lasting ∨ (cmp = .transient ∧ recurs 2 s = true))) → ∃ t, exec (.setpoint c i b cmp) s = .next (reply c .refusedState 0 c.xin.length t) ∧
            raised 59 t = true ∧ spEnabled t = false ∧ t.saf.latched.getLsbD 2 = true ∧ t.saf.safe = true)))) ∧
  (∀ (c : Ctx) (i : Idx) (s : State), accepts (.setpointWithdraw c i) s = true →
    ((dl s i.toNat).spx = 0xFFFF → exec (.setpointWithdraw c i) s = .next (reply c .notFound 0 c.xin.length s)) ∧
    ∀ e, (dl s i.toNat).spx ≠ 0xFFFF → tget none s.tai.sps (dl s i.toNat).spx = some e → e.idx = i.toNat →
      ∃ t, exec (.setpointWithdraw c i) s = .next (finish c .ok 0 [] t) ∧ tget none t.tai.sps (dl s i.toNat).spx = none ∧
        dl t i.toNat = { dl s i.toNat with spx := 0xFFFF } ∧ raised 58 t = true ∧
        (queue t 2).getLast?.map (·.body) = some (.bytes (record i.toNat e 3 s))) ∧
  (∀ (i : Idx) (e : SpEntry) (s : State), halted s .tai 9 = false → tget none s.tai.sps (dl s i.toNat).spx = some e → e.idx = i.toNat →
    (0 < secsTo s e.untilS → exec (.setpointExpire i) s = .next s) ∧
    (secsTo s e.untilS ≤ 0 → ∃ t, exec (.setpointExpire i) s = .next t ∧ tget none t.tai.sps (dl s i.toNat).spx = none ∧
      dl t i.toNat = { dl s i.toNat with spx := 0xFFFF } ∧ raised 58 t = true ∧ cnt 0x8004C t = sat32 (cnt 0x8004C s + 1) ∧
      (queue t 2).getLast?.map (·.body) = some (.bytes (record i.toNat e 2 s))) ∧
    (∀ cmp, passed s e.sentAt (paramN s .tailrace 10 0 * tickS) = false → exec (.setpointRetry i cmp) s = .next s) ∧
    (passed s e.sentAt (paramN s .tailrace 10 0 * tickS) = true → ∃ t e', exec (.setpointRetry i .equal) s = .next t ∧
      tget none t.tai.sps (dl s i.toNat).spx = some e' ∧ e'.body = e.body ∧ e'.seq = e.seq ∧ e'.untilS = e.untilS ∧
      e'.sentAt = s.elapsed ∧ (dl t i.toNat).spx = (dl s i.toNat).spx) ∧
    (passed s e.sentAt (paramN s .tailrace 10 0 * tickS) = true → (∃ g, route s i.toNat = .gw g) → taiHeld s = false → noUnicast s i.toNat = false →
      ∃ t, exec (.setpointRetry i .lasting) s = .next t ∧ raised 59 t = true ∧ t.saf.latched.getLsbD 2 = true ∧ spEnabled t = false)) ∧
  ∀ (i : Nat) (b : List Byte) (rest : List (Nat × List Byte)) (e : SpEntry) (s : State), halted s .tai 9 = false → s.tai.confirms = (i, b) :: rest → b.length = 8 →
    byteAt b 0 = 3 → byteAt b 1 = 0 → byteAt b 3 = 0 → tget none s.tai.sps (dl s i).spx = some e → e.idx = i →
    (e.seq ≠ ofLe (slice b 4 4) → ∃ t, exec .confirmProcess s = .next t ∧ t.tai.sps = s.tai.sps ∧ t.tai.recs = s.tai.recs) ∧
    (e.seq = ofLe (slice b 4 4) → ∃ t, exec .confirmProcess s = .next t ∧ tget none t.tai.sps (dl s i).spx = none ∧
      (dl t i).spx = 0xFFFF ∧ raised 58 t = true ∧ cnt 0x80048 t = sat32 (cnt 0x80048 s + 1) ∧
      (queue t 2).getLast?.map (·.body) = some (.bytes (record i e 0 s)))

/-- CHANNEL_CONFIG gives a channel its role, scale and sign and touches no other; without MOD_CLK a configured channel is in
fault 2, with its event, else one whose calibration fails is in fault 3; the points that use it start afresh. DC_BLOCKER sets the mode
and has the estimate loaded when asked. COEF_LOAD of a good table writes the inactive bank and its CRC-32; on the active one it
answers REFUSED_STATE, of a bad table BAD_PARAM. BANK_SWAP starts a fade to the other bank, or answers BAD_PARAM or BUSY. DECIM_RESET
resets at the next MOD_CLK edge (within 98 TB periods, log entry 117) and not while the clock stands: counted and told of, a running
fade ended, the channels settling. FACTORY_CAL records a channel's first record where the lifecycle allows, EXISTS or REFUSED_STATE
otherwise. USER_CAL stages its record behind those staged for earlier intervals and answers the interval it applies from. METERING_POINT defines a point with fresh
accumulators, deletes one with NELEM 0, touches no other, and refuses an inactive or taken node. FLUME_INTERVALS answers 64 bytes a
record. (R283, R284, R285, R289, R291, R292, R293, R295, R296, R298, R303, R379) -/
def Obligations.flume_commands : Prop :=
  (∀ (c : Ctx) (ch role inv : Byte) (scale : U32) (s : State), accepts (.channelConfig c ch role inv scale) s = true →
    (11 < ch.toNat ∨ 2 < role.toNat ∨ 1 < inv.toNat ∨ scale.toNat = 0 →
      exec (.channelConfig c ch role inv scale) s = .next (reply c .badParam 0 c.xin.length s)) ∧
    (ch.toNat ≤ 11 → role.toNat ≤ 2 → inv.toNat ≤ 1 → scale.toNat ≠ 0 →
      ∃ t, exec (.channelConfig c ch role inv scale) s = .next (finish c .ok 0 [] t) ∧
        (fluCh t ch.toNat).role = role.toNat ∧ (fluCh t ch.toNat).scale = scale.toNat ∧ (fluCh t ch.toNat).invert = (inv.toNat == 1) ∧
        (∀ k, k ≠ ch.toNat → fluCh t k = fluCh s k) ∧
        (role.toNat = 0 → (fluCh t ch.toNat).fault = 0) ∧
        (modClk s = false → role.toNat ≠ 0 → (fluCh t ch.toNat).fault = 2 ∧ ((fluCh s ch.toNat).fault ≠ 2 → raised 64 t = true)) ∧
        (modClk s = true → (fluCh s ch.toNat).calBad = true → role.toNat ≠ 0 → (fluCh s ch.toNat).fault = 0 →
          (fluCh t ch.toNat).fault = 3 ∧ raised 64 t = true) ∧
        (modClk s = true → (fluCh s ch.toNat).calBad = false → role.toNat ≠ 0 → (fluCh t ch.toNat).fault = (fluCh s ch.toNat).fault) ∧
        ∀ p, tget {} t.flu.pts p = (if usesCh (tget {} s.flu.pts p) ch.toNat then startPt s (tget {} s.flu.pts p) else tget {} s.flu.pts p))) ∧
  (∀ (c : Ctx) (ch set load : Byte) (dc : U32) (s : State), accepts (.dcBlocker c ch set load dc) s = true →
    (11 < ch.toNat ∨ 2 < set.toNat ∨ 1 < load.toNat ∨ (load = 1 ∧ (sgn32 dc.toNat < -(2 ^ 23) ∨ 2 ^ 23 ≤ sgn32 dc.toNat)) →
      exec (.dcBlocker c ch set load dc) s = .next (reply c .badParam 0 c.xin.length s)) ∧
    (ch.toNat ≤ 11 → set.toNat ≤ 2 →
      let s1 := { noteFlu s with cfg := cfgPut s.cfg .flume 2 (ch.toNat * 256) set.toNat }
      (load = 0 → exec (.dcBlocker c ch set load dc) s = .next (finish c .ok 0 [] s1)) ∧
      (load = 1 → -(2 ^ 23) ≤ sgn32 dc.toNat → sgn32 dc.toNat < 2 ^ 23 → exec (.dcBlocker c ch set load dc) s =
        .next (finish c .ok 0 [] { s1 with flu := { s1.flu with loads := s1.flu.loads ++ [(s.elapsed, ch.toNat, sgn32 dc.toNat * 2 ^ 22)] } })))) ∧
  (∀ (c : Ctx) (bank : Byte) (crc : U32) (s : State), accepts (.coefLoad c bank crc) s = true → c.xlen = 128 →
    let h := (List.range 32).map (fun k => sgn32 (ofLe (slice (c.xin.take 128) (4 * k) 4)))
    let good := crc32 (c.xin.take 128) = crc.toNat ∧ (∀ v ∈ h, -(2 ^ 23) ≤ v ∧ v < 2 ^ 23) ∧
      (2 * (h.take 31).sum + h.getD 31 0 - 2 ^ 22).natAbs ≤ 2 ^ 14
    (bank.toNat ≤ 1 → (bank.toNat = 1) = s.flu.bank → s.flu.fade = none →
      exec (.coefLoad c bank crc) s = .next (reply c .refusedState 0 c.xin.length s)) ∧
    (1 < bank.toNat ∨ (((bank.toNat = 1) ≠ s.flu.bank ∨ s.flu.fade ≠ none) ∧ ¬good) →
      exec (.coefLoad c bank crc) s = .next (reply c .badParam 0 c.xin.length s)) ∧
    (bank.toNat ≤ 1 → s.flu.fade ≠ none → good → exec (.coefLoad c bank crc) s = .next (reply c .busy 0 c.xin.length s)) ∧
    (bank.toNat ≤ 1 → (bank.toNat = 1) ≠ s.flu.bank → s.flu.fade = none → good → exec (.coefLoad c bank crc) s = .next (finish c .ok 0 [] { noteFlu s with flu :=
      (if bank = 0 then { (noteFlu s).flu with bankA := some h, bankCrcA := some crc.toNat }
       else { (noteFlu s).flu with bankB := some h, bankCrcB := some crc.toNat }) }))) ∧
  (∀ (c : Ctx) (f : U16) (s : State), accepts (.bankSwap c f) s = true →
    (f.toNat = 0 ∨ 4096 < f.toNat → exec (.bankSwap c f) s = .next (reply c .badParam 0 c.xin.length s)) ∧
    (0 < f.toNat → f.toNat ≤ 4096 →
      (s.flu.fade.isSome = true → exec (.bankSwap c f) s = .next (reply c .busy 0 c.xin.length s)) ∧
      (s.flu.fade = none → ∃ t, exec (.bankSwap c f) s = .next (finish c .ok 0 [] t) ∧ t.flu.bank = (!s.flu.bank) ∧
        t.flu.fade = some (f.toNat, s.elapsed) ∧ t.flu.fadeIvs = intervalNow s :: s.flu.fadeIvs ∧ t.flu.chans = s.flu.chans))) ∧
  (∀ (c : Ctx) (s : State), accepts (.decimReset c) s = true → ∃ t a, exec (.decimReset c) s = .next (finish c .ok 0 [] t) ∧
    t = { s with free := s.free + 1, flu := { s.flu with resetDue := some a } } ∧
    (s.flu.resetDue = none → s.elapsed < a ∧ a ≤ s.elapsed + 98) ∧ (∀ b, s.flu.resetDue = some b → a = b)) ∧
  (∀ (a : Nat) (s : State), s.pending = [] → s.flu.resetDue = some a →
    (s.elapsed + 1 < a ∨ modClk s = false ∨ dark s .flu = true → ∃ t, step s = .next t ∧ t.flu = s.flu) ∧
    (a ≤ s.elapsed + 1 → modClk s = true → dark s .flu = false → ∃ t, step s = .next t ∧ raised 66 t = true ∧
      cnt 0x90018 t = sat32 (cnt 0x90018 s + 1) ∧ t.flu.settling = some (s.elapsed + 1) ∧ t.flu.resetDue = none ∧ t.flu.fade = none ∧
      (s.flu.fade.isSome = true → raised 67 t = true) ∧ t.flu.chans = s.flu.chans ∧
      t.flu.edges.getLast?.map (fun e => (e.kind, e.tick)) = some (.reset, s.elapsed + 1))) ∧
  (∀ (c : Ctx) (ch : Byte) (b : List Byte) (s : State), accepts (.factoryCal c ch b) s = true →
    (lcIn s [0, 1] = false → exec (.factoryCal c ch b) s = .next (reply c .refusedState 0 c.xin.length s)) ∧
    (lcIn s [0, 1] = true → ch.toNat ≤ 11 → (fluCh s ch.toNat).otp.isSome = true → exec (.factoryCal c ch b) s = .next (reply c .existing 0 c.xin.length s)) ∧
    (lcIn s [0, 1] = true → 11 < ch.toNat ∨ ((fluCh s ch.toNat).otp = none ∧ calForm b = false) →
      exec (.factoryCal c ch b) s = .next (reply c .badParam 0 c.xin.length s)) ∧
    (lcIn s [0, 1] = true → ch.toNat ≤ 11 → (fluCh s ch.toNat).otp = none → calForm b = true → exec (.factoryCal c ch b) s =
      .next (finish c .ok 0 [] (setFluCh ch.toNat { fluCh s ch.toNat with otp := some (calOf b) } (noteFlu s))))) ∧
  (∀ (c : Ctx) (ch : Byte) (b : List Byte) (s : State), accepts (.userCal c ch b) s = true →
    let k := fluCh s ch.toNat
    let good := ch.toNat ≤ 11 ∧ calForm b = true ∧ 3 * 2 ^ 30 ≤ 4 * (calOf b).gain ∧ 4 * (calOf b).gain ≤ 5 * 2 ^ 30 ∧
      ((k.otp.getD {}).tau + (calOf b).tau).natAbs ≤ 32767
    (¬good → exec (.userCal c ch b) s = .next (reply c .badParam 0 c.xin.length s)) ∧
    (good → exec (.userCal c ch b) s = .next (finish c .ok ((gridNow s + 1) % 2 ^ 32) [] (setFluCh ch.toNat { k with
      staged := k.staged.filter (fun e => decide (e.1 < gridNow s + 1)) ++ [(gridNow s + 1, calOf b)] } s)))) ∧
  (∀ (c : Ctx) (p n ref lvl : Byte) (num : U32) (l : List U32) (s : State), accepts (.meteringPoint c p n ref lvl num l) s = true →
    let good := p.toNat ≤ 7 ∧ n.toNat ≤ 3 ∧ ref.toNat ≤ 1 ∧ elemsOk s n.toNat (l.map (·.toNat)) = true
    let tree := (lvl.toNat = 4 ∨ lvl.toNat = 5) ∧ num.toNat < levelCount lvl.toNat
    let free := (node s (nodeKey lvl.toNat num.toNat)).active = true ∧ anchorTaken s p.toNat lvl.toNat num.toNat = false
    ((lvl ≠ 0 ∧ ¬tree) ∨ ((lvl = 0 ∨ (tree ∧ free)) ∧ ¬good) →
      exec (.meteringPoint c p n ref lvl num l) s = .next (reply c .badParam 0 c.xin.length s)) ∧
    (tree →
      ((node s (nodeKey lvl.toNat num.toNat)).active = false →
        exec (.meteringPoint c p n ref lvl num l) s = .next (reply c .refusedState 0 c.xin.length s)) ∧
      ((node s (nodeKey lvl.toNat num.toNat)).active = true → anchorTaken s p.toNat lvl.toNat num.toNat = true →
        exec (.meteringPoint c p n ref lvl num l) s = .next (reply c .existing 0 c.xin.length s))) ∧
    (good → lvl = 0 ∨ (tree ∧ free) →
      ∃ t, exec (.meteringPoint c p n ref lvl num l) s = .next (finish c .ok 0 [] t) ∧
        (let y := tget {} t.flu.pts p.toNat
         y.elems = ((l.map (·.toNat)).take n.toNat).map elemOf ∧ y.ref = decide (ref.toNat = 1 ∧ n.toNat ≠ 0) ∧ y.imp = 0 ∧ y.exp = 0 ∧
         y.varh = 0 ∧ y.startAt = s.elapsed ∧ (n.toNat ≠ 0 → y.before = samplesSoFar s) ∧ (n.toNat = 0 → y.recs = [])) ∧
        ∀ k, k ≠ p.toNat → tget {} t.flu.pts k = tget {} s.flu.pts k)) ∧
  ∀ (c : Ctx) (p first n : Byte) (s : State), accepts (.flumeIntervals c p first n) s = true → c.xlen = 64 * n.toNat →
    (7 < p.toNat ∨ 16 < first.toNat + n.toNat → exec (.flumeIntervals c p first n) s = .next (reply c .badParam 0 c.xin.length s)) ∧
    (p.toNat ≤ 7 → first.toNat + n.toNat ≤ 16 → exec (.flumeIntervals c p first n) s = .next (finish c .ok 0
      (((List.range n.toNat).map (fun k => match (tget {} s.flu.pts p.toNat).recs[first.toNat + k]? with
        | some r => fluRecBytes p.toNat r | none => zeros 64)).flatten) s))

/-- 256 equal bits of a modulator put a configured channel without a fault in fault 1, with its event, and touch no other channel; other
bits, and any without MOD_CLK, do nothing. A fault's cause goes with the last 4,096 bits, 1 ms after it at the earliest, no 256 of which in
a row are equal, with the clock, or with the calibration's repair: then the cause that still stands is shown, or the channel settles, its
event raised; nothing happens while the cause lasts. Settling ends after its time. A rise of MSYNC resets the decimators only while
MSYNC_EN is set and MOD_CLK runs: counted, a running fade ended, the interval marked, the estimates and settings kept. A fade ends after its
samples, the target bank staying. A second's end counts once the last of its W8 samples is formed, and not before the close of an interval
that ended earlier: it runs each channel's samples up to the second's end through its chain, tells of those clipped, and adds each defined
point's samples to its energies; RMS values follow from the samples stamped in the second and after the point's start. The newest sample of
a phase's reference channel that completes a crossing joins its phase's crossings and T follows, a change of the reference's validity told
of by Flume and Leat. A close waits for the last sample of its interval, then closes every interval passed in turn; each defined point has a
record of the last, not plausible where a bank's CRC failed; calibrations staged for it or before apply together, with their event, later
ones wait; a channel whose record failed its CRC is in fault 3 and loses its due records. (R284, R288, R289, R290, R293, R296, R300, R301,
R302, R303, R305, R306) -/
def Obligations.flume_measurement : Prop :=
  (∀ (ch : Fin 12) (w : BitVec 256) (s : State), dark s .flu = false → (fluCh s ch.val).role ≠ 0 →
    let k := fluCh s ch.val
    (modClk s = false ∨ (w ≠ 0 ∧ w ≠ BitVec.allOnes 256) → exec (.modulatorStuck ch w) s = .next s) ∧
    (modClk s = true → w = 0 ∨ w = BitVec.allOnes 256 →
      (k.fault ≠ 0 → exec (.modulatorStuck ch w) s = .next (setFluCh ch.val { k with stuck := true } (noteFlu s))) ∧
      (k.fault = 0 → ∃ t, exec (.modulatorStuck ch w) s = .next t ∧ raised 64 t = true ∧ (∀ c, c ≠ ch.val → fluCh t c = fluCh s c) ∧
        fluCh t ch.val = { k with stuck := true, fault := 1, faultAt := s.elapsed, settling := none }))) ∧
  (∀ (ch : Fin 12) (w : BitVec 4096) (s : State), dark s .flu = false → (fluCh s ch.val).role ≠ 0 →
    let k := fluCh s ch.val
    let gone := (k.fault = 1 ∧ modClk s = true ∧ passed s k.faultAt tickMs = true ∧ runsShort w = true) ∨ (k.fault = 2 ∧ modClk s = true) ∨
      (k.fault = 3 ∧ k.calBad = false)
    let stuck := k.stuck = true ∧ k.fault ≠ 1
    let only := fun (t : State) => ∀ c, c ≠ ch.val → fluCh t c = fluCh s c
    (¬gone → exec (.channelRestore ch w) s = .next s) ∧
    (gone → stuck → ∃ t, exec (.channelRestore ch w) s = .next t ∧ raised 64 t = true ∧ only t ∧ fluCh t ch.val = { k with fault := 1 }) ∧
    (gone → ¬stuck → k.calBad = true → ∃ t, exec (.channelRestore ch w) s = .next t ∧ raised 64 t = true ∧ only t ∧
      fluCh t ch.val = { k with stuck := false, fault := 3 }) ∧
    (gone → ¬stuck → k.calBad = false → ∃ t, exec (.channelRestore ch w) s = .next t ∧ raised 65 t = true ∧ only t ∧
      fluCh t ch.val = { k with stuck := false, fault := 0, settling := some s.elapsed })) ∧
  (∀ s : State, ∃ t, exec .settlingEnd s = .next t ∧ t.flu.settling = s.flu.settling.filter (fun a => !passed s a settleTicks) ∧
    ∀ k < 12, fluCh t k = { fluCh s k with settling := (fluCh s k).settling.filter (fun a => !passed s a settleTicks) }) ∧
  (∀ s : State,
    (dark s .flu = true ∨ modClk s = false ∨ param s .flume 0 0 = 0 → exec .msyncRise s = .next s) ∧
    (dark s .flu = false → modClk s = true → param s .flume 0 0 ≠ 0 → ∃ t, exec .msyncRise s = .next t ∧ raised 66 t = true ∧
      cnt 0x90018 t = sat32 (cnt 0x90018 s + 1) ∧ t.flu.settling = some s.elapsed ∧ t.flu.resetDue = none ∧ t.flu.fade = none ∧
      t.flu.resetIvs = intervalNow s :: s.flu.resetIvs ∧ t.flu.chans = s.flu.chans ∧
      t.flu.edges = s.flu.edges ++ [{ kind := .reset, tick := s.elapsed, ns := stampNow s, toNs := 0 }])) ∧
  (∀ (f t0 : Nat) (s : State), dark s .flu = false → s.flu.fade = some (f, t0) →
    (passed s t0 (f * tickP32) = false → exec .fadeComplete s = .next s) ∧
    (passed s t0 (f * tickP32) = true → ∃ t, exec .fadeComplete s = .next t ∧ raised 67 t = true ∧
      t.flu = { (noteFlu s).flu with fade := none, fadeIvs := intervalNow s :: s.flu.fadeIvs })) ∧
  (∀ (b : List (List (Option (BitVec 128)))) (s : State), dark s .flu = false →
    let sec := secDone s
    let hi := sec * 1000000000
    let s1 := feed b (drawFree 48 s).2
    let free : Int := (drawFree 48 s).1 - 2 ^ 47
    let u := fluPass hi free s1
    (s.flu.secAt = sec ∨ (s.fan.st ≠ .unset ∧ endOf s s.flu.interval < sec) → exec (.flumeSecondEnd b) s = .next s) ∧
    (s.flu.secAt ≠ sec → s.fan.st = .unset ∨ sec ≤ endOf s s.flu.interval → ∃ t, exec (.flumeSecondEnd b) s = .next t ∧
      t.flu.secAt = sec ∧ t.flu.freq = secondFreq sec s ∧ t.flu.liveSeq = (s.flu.liveSeq + 1) % 2 ^ 32 ∧
      (∀ k < 12, fluCh t k = (chanOuts hi s1 k).ch ∧
        ((chanOuts hi s1 k).clips ≠ [] → raised 71 t = true ∧
          cnt (0x9010C + 16 * k) t = sat32 (cnt (0x9010C + 16 * k) s + (chanOuts hi s1 k).clips.length))) ∧
      ∀ p, let x := tget {} s.flu.pts p
        let y := tget {} t.flu.pts p
        let z := ptRun s1 hi free x
        (x.elems = [] → y = x) ∧
        (x.elems ≠ [] → y.imp = z.imp ∧ y.exp = z.exp ∧ y.varh = z.varh ∧ y.invalid = z.invalid ∧ y.fillN = z.fillN ∧
          y.live.map (·.vrms) = x.elems.map (fun e =>
            rms (((w8Second sec u e.vch).filter (fun w => decide (x.startAt + gdW8Ticks < w.1))).map (·.2)))))) ∧
  (∀ (ph : Fin 3) (b : List (List (Option (BitVec 128)))) (s : State),
    (dark s .flu = true ∨ modClk s = false → exec (.zeroCrossing ph b) s = .next s) ∧
    (dark s .flu = false → modClk s = true →
      (newCrossing (feed b s) (ph.val + 1) = none → exec (.zeroCrossing ph b) s = .next (feed b s)) ∧
      ∀ rise x, newCrossing (feed b s) (ph.val + 1) = some (rise, x) → ∃ t, exec (.zeroCrossing ph b) s = .next t ∧
        t.flu.chans = s.flu.chans ∧ t.flu.period = meanPeriod (tget [] t.flu.rises 1) ∧
        (rise = true → tget [] t.flu.rises (ph.val + 1) = (x :: tget [] s.flu.rises (ph.val + 1)).take 80 ∧ t.flu.falls = s.flu.falls) ∧
        (rise = false → tget [] t.flu.falls (ph.val + 1) = (x :: tget [] s.flu.falls (ph.val + 1)).take 80 ∧ t.flu.rises = s.flu.rises) ∧
        (t.flu.refOk = s.flu.refOk ∨ (raised 69 t = true ∧ raised 53 t = true ∧ t.lea.refOk = t.flu.refOk)))) ∧
  ∀ (bad : List (Fin 12)) (bank : Bool) (b : List (List (Option (BitVec 128)))) (s : State), dark s .flu = false → s.fan.st ≠ .unset →
    (closable s = 0 → exec (.flumeIntervalClose bad bank b) s = .next s) ∧
    (0 < closable s →
      let n := s.flu.interval + closable s
      ∃ t, exec (.flumeIntervalClose bad bank b) s = .next t ∧ t.flu.interval = n ∧ t.flu.lastInt = (n - 1) % 2 ^ 32 ∧
        (∀ p, (tget {} s.flu.pts p).elems ≠ [] → ∃ r, (tget {} t.flu.pts p).recs.head? = some r ∧ r.interval = n - 1 ∧
          (bank = true → r.plaus ≠ 0 ∧ raised 68 t = true)) ∧
        (∀ k ∈ bad, (fluCh s k.val).role ≠ 0 → (fluCh s k.val).fault = 0 → (fluCh t k.val).fault = 3 ∧ raised 64 t = true) ∧
        ∀ k : Fin 12, let x := fluCh s k.val
          let y := fluCh t k.val
          y.staged = x.staged.filter (fun e => !decide (e.1 ≤ n)) ∧
          (x.staged.filter (fun e => decide (e.1 ≤ n)) = [] ∨ k ∈ bad → y.user = x.user) ∧
          ∀ m r, x.staged = [(m, r)] → m ≤ n → k ∉ bad → y.user = r ∧ raised 70 t = true)

/-- TIME_SET from UNSET steps the time to the value given, with its event, and enters ACQUIRE with the RTC as source; within
JUMP_THR it never moves the reading, and beyond it answers TIME_JUMP_REFUSED, counted and told of, the reading and rate
untouched. TIME_FORCE 0 steps to the value given; 1 needs an error of the source, or NOT_FOUND, and makes it the source.
UTC_OFFSET sets offset and flags with the event, unless PTP gave them. At the end of a flagged day the offset rises or falls by
one and the flags clear. In SYNC the RTC takes the time once a second. A usable source of higher rank held for SWITCH_HOLD is
selected without moving the reading. PTP is lost once no master is heard or three Sync intervals pass without an exchange, PPS once its
edges stop; a selected source that is lost leaves HOLDOVER. (R312, R318, R319, R320, R321, R322, R323, R324, R325, R326, R380) -/
def Obligations.fantail_time : Prop :=
  (∀ (c : Ctx) (sec : U64) (ns : U32) (s : State), accepts (.timeSet c sec ns) s = true →
    (999999999 < ns.toNat ∨ 2 ^ 48 ≤ sec.toNat → exec (.timeSet c sec ns) s = .next (reply c .badParam 0 c.xin.length s)) ∧
    (ns.toNat ≤ 999999999 → sec.toNat < 2 ^ 48 →
      let e : Int := (sec.toNat * 1000000000 + ns.toNat : Nat) - (nowNs s : Int)
      (s.fan.st = .unset → ∃ t, exec (.timeSet c sec ns) s = .next (finish c .ok 0 [] t) ∧ nowNs t = sec.toNat * 1000000000 + ns.toNat ∧
        t.fan.st = .acquire ∧ t.fan.rep = 3 ∧ raised 75 t = true ∧ rawCount t = rawCount s) ∧
      (s.fan.st ≠ .unset → e.natAbs ≤ paramN s .fantail 1 0 * 1000 → ∃ t, exec (.timeSet c sec ns) s = .next (finish c .ok 0 [] t) ∧
        nowNs t = nowNs s ∧ t.fan.rep = 3 ∧ t.fan.freq = s.fan.freq ∧ t.fan.sel = s.fan.sel) ∧
      (s.fan.st ≠ .unset → paramN s .fantail 1 0 * 1000 < e.natAbs → ∃ t, exec (.timeSet c sec ns) s = .next (reply c .timeJumpRefused 0 c.xin.length t) ∧
        nowNs t = nowNs s ∧ t.fan.rate = s.fan.rate ∧ t.fan.st = s.fan.st ∧ raised 74 t = true ∧
        cnt 0x3003C t = sat32 (cnt 0x3003C s + 1)))) ∧
  (∀ (c : Ctx) (mode src : Byte) (sec : U64) (ns : U32) (s : State), accepts (.timeForce c mode src sec ns) s = true →
    (mode ≠ 1 ∨ 3 < src.toNat ∨ tget none s.fan.srcErr src.toNat ≠ none →
      1 < mode.toNat ∨ 999999999 < ns.toNat ∨ 2 ^ 48 ≤ sec.toNat ∨ (mode = 1 ∧ (sec ≠ 0 ∨ ns ≠ 0 ∨ 3 < src.toNat)) →
      exec (.timeForce c mode src sec ns) s = .next (reply c .badParam 0 c.xin.length s)) ∧
    (mode = 0 → ns.toNat ≤ 999999999 → sec.toNat < 2 ^ 48 → ∃ t, exec (.timeForce c mode src sec ns) s = .next (finish c .ok 0 [] t) ∧
      nowNs t = sec.toNat * 1000000000 + ns.toNat ∧ t.fan.st = .acquire ∧ t.fan.rep = 3 ∧ raised 75 t = true) ∧
    (mode = 1 → src.toNat ≤ 3 → tget none s.fan.srcErr src.toNat = none →
      exec (.timeForce c mode src sec ns) s = .next (reply c .notFound 0 c.xin.length s)) ∧
    (mode = 1 → sec = 0 → ns = 0 → src.toNat ≤ 3 →
      ∀ e, tget none s.fan.srcErr src.toNat = some e → ∃ t, exec (.timeForce c mode src sec ns) s = .next (finish c .ok 0 [] t) ∧
        t.fan.rep = src.toNat ∧ t.fan.sel = src.toNat ∧ t.fan.st = .acquire ∧ raised 75 t = true ∧
        (0 ≤ nowNs s + e → (nowNs t : Int) = nowNs s + e))) ∧
  (∀ (c : Ctx) (ofs : U16) (leap : Byte) (s : State), accepts (.utcOffset c ofs leap) s = true →
    (s.fan.fromPtp = true → exec (.utcOffset c ofs leap) s = .next (reply c .refusedState 0 c.xin.length s)) ∧
    (s.fan.fromPtp = false → 3 ≤ leap.toNat → exec (.utcOffset c ofs leap) s = .next (reply c .badParam 0 c.xin.length s)) ∧
    (s.fan.fromPtp = false → leap.toNat < 3 → ∃ t, exec (.utcOffset c ofs leap) s = .next (finish c .ok 0 [] t) ∧ t.fan.utcOfs = ofs.toNat ∧
      t.fan.leap61 = bit leap.toNat 0 ∧ t.fan.leap59 = bit leap.toNat 1 ∧ raised 79 t = true ∧ nowNs t = nowNs s)) ∧
  (∀ s : State, dark s .fan = false →
    (s.fan.st ≠ .unset →
      (s.fan.leap61 = true → s.fan.leapAt + 1 ≤ utcNow s → ∃ t, exec .leapSecondEnd s = .next t ∧ t.fan.utcOfs = (s.fan.utcOfs + 1) % 65536 ∧
        t.fan.leap61 = false ∧ raised 79 t = true) ∧
      (s.fan.leap61 = false → s.fan.leap59 = true → s.fan.leapAt ≤ utcNow s + 1 → ∃ t, exec .leapSecondEnd s = .next t ∧
        t.fan.utcOfs = (s.fan.utcOfs + 65535) % 65536 ∧ t.fan.leap59 = false ∧ raised 79 t = true)) ∧
    (s.fan.leap61 = false → s.fan.leap59 = false → exec .leapSecondEnd s = .next s) ∧
    (s.fan.st ≠ .sync → exec .rtcLoad s = .next s) ∧
    (s.fan.st = .sync → s.pwr.rtcValid = false ∨ passed s s.pwr.rtcAt tickS = true → exec .rtcLoad s = .next { s with pwr := { s.pwr with
      rtcBase := nowNs s * 32768 / 1000000000, rtcAt := s.elapsed, rtcValid := true } }) ∧
    (s.fan.st ≠ .unset → 0 < s.fan.sel → srcUsable s 0 = true → tget 0 s.fan.upAt 0 ≠ 0 →
      passed s (tget 0 s.fan.upAt 0 - 1) (paramN s .fantail 6 0 * tickS) = true → ∃ t, exec .switchHoldElapsed s = .next t ∧
        t.fan.sel = 0 ∧ t.fan.rate = s.fan.freq ∧ nowNs t = nowNs s ∧ t.fan.st = (if s.fan.st = .holdover then .holdover else .acquire)) ∧
    (s.fan.sel = 0 → exec .switchHoldElapsed s = .next s)) ∧
  ∀ s : State, dark s .fan = false →
    (s.fan.ptpUsable = true → s.fan.masters.all (annGone s) = true ∨
        (∃ a, s.fan.exchAt = some a ∧ passed s a (3 * s.fan.syncPeriod + 1) = true) → ∃ t, exec (.sourceLost 0) s = .next t ∧
      t.fan.ptpUsable = false ∧ nowNs t = nowNs s ∧
      (s.fan.sel = 0 → s.fan.st ≠ .unset → t.fan.st = .holdover ∧ t.fan.rep = 3 ∧ t.fan.sel ≠ 0 ∧ t.fan.rate = s.fan.freq) ∧
      (s.fan.sel ≠ 0 → t.fan.st = s.fan.st ∧ t.fan.sel = s.fan.sel)) ∧
    (∀ a, s.fan.ptpUsable = true →
      s.fan.masters.any (fun m => !annGone s m && (masterFit m || s.fan.master == some m.port)) = true → s.fan.exchAt = some a →
      passed s a (3 * s.fan.syncPeriod + 1) = false → ∃ t, exec (.sourceLost 0) s = .next t ∧ t.fan.ptpUsable = true ∧
        t.fan.st = s.fan.st ∧ t.fan.sel = s.fan.sel) ∧
    (s.fan.ppsUsable = true → passed s (ppsGoodAt s) (3 * tickS + 40001) = false → exec (.sourceLost 1) s = .next s) ∧
    (s.fan.ppsUsable = true → passed s (ppsGoodAt s) (3 * tickS + 40001) = true → ∃ t, exec (.sourceLost 1) s = .next t ∧
      t.fan.ppsUsable = false ∧ raised 77 t = true ∧ nowNs t = nowNs s ∧
      (s.fan.sel = 1 → s.fan.st ≠ .unset → t.fan.st = .holdover ∧ t.fan.rep = 3 ∧ t.fan.sel ≠ 1 ∧ t.fan.rate = s.fan.freq) ∧
      (s.fan.sel ≠ 1 → t.fan.st = s.fan.st ∧ t.fan.sel = s.fan.sel)) ∧
    (s.fan.sel = 2 → s.van.up ≠ .track → s.fan.st ≠ .unset → ∃ t, exec (.sourceLost 2) s = .next t ∧ t.fan.st = .holdover ∧
      t.fan.rep = 3 ∧ t.fan.sel ≠ 2 ∧ nowNs t = nowNs s)

/-- PTP_TRANSMIT of an event frame hands it to its port, and answers BAD_PARAM for any other frame, POWERED_DOWN without the ports'
clock; as it leaves, a two-step frame goes unchanged and its stamp joins the queue or is lost, counted and told of; a one-step Sync
carries its time; the command completes OK. A forwarded event message leaves on the other port with its residence time added and
is counted; any other goes as it came; one addressed to the device's own PTP port is not forwarded. The first Announce of a sender is noted,
a second within four intervals (the model's reading, log entry 78) makes it the master, with the event; a Sync, its Follow_Up and the
Delay_Resp of that master make a sample of PTP; other senders' messages change nothing. A Delay_Req goes each interval with the next
number. The first edge of PPS_IN is kept, one in tolerance counts toward use, one away from every whole second is counted as missed. PPS_OUT
rises within 2 ns of a whole second and falls after the width it rose with. (R32, R311, R320, R323, R327, R328, R329, R330, R331, R332, R333,
R380) -/
def Obligations.fantail_messages : Prop :=
  (∀ (c : Ctx) (port mode : Byte) (id len : U16) (s : State), accepts (.ptpTransmit c port mode id len) s = true → c.xlen = (len.toNat + 3) / 4 * 4 →
    (ptpEvent (c.xin.take len.toNat) = none → exec (.ptpTransmit c port mode id len) s = .next (reply c .badParam 0 c.xin.length s)) ∧
    ∀ o k, ptpEvent (c.xin.take len.toNat) = some (o, k) →
      (1 < port.toNat ∨ 1 < mode.toNat ∨ (mode.toNat = 0 ∧ k = 2) →
        exec (.ptpTransmit c port mode id len) s = .next (reply c .badParam 0 c.xin.length s)) ∧
      (port.toNat ≤ 1 → mode.toNat ≤ 1 → mode.toNat = 1 ∨ k ≠ 2 →
        (ethUp s = false → exec (.ptpTransmit c port mode id len) s = .next (reply c .poweredDown 0 c.xin.length (openRecord 0 s))) ∧
        (ethUp s = true → exec (.ptpTransmit c port mode id len) s = .next (onJob (jobOf c s)
          (fun e => { e with started := true, moved := c.xin.length }) { s with fan := { s.fan with ptpOut := s.fan.ptpOut ++
          [⟨jobOf c s, port.toNat, mode.toNat == 1, id.toNat, c.xin.take len.toNat⟩] } })))) ∧
  (∀ (port : Fin 2) (frac : Fin 32) (s : State), dark s .fan = false →
    (ethUp s = false ∨ s.fan.ptpOut.find? (fun p => p.port == port.val) = none → exec (.ptpFrameEgress port frac) s = .next s) ∧
    ∀ p, ethUp s = true → s.fan.ptpOut.find? (fun p => p.port == port.val) = some p →
      let s1 := { s with fan := { s.fan with ptpOut := s.fan.ptpOut.erase p } }
      let s2 := emit (.ethFrame port.val (withFcs p.frame)) s1
      (p.twoStep = false → exec (.ptpFrameEgress port frac) s = .next (replyLater p.job .ok 0
        (emit (.ethFrame port.val (withFcs (oneStep p.frame (stampFix s frac.val / 2 ^ 41)))) s1))) ∧
      (p.twoStep = true → ∃ t, exec (.ptpFrameEgress port frac) s = .next (replyLater p.job .ok 0 t) ∧
        t = pushStamp (stampEntry p (stampFix s frac.val)) s2 ∧ .ethFrame port.val (withFcs p.frame) ∈ t.out ∧
        ((queue s 3).length < qcap 3 → t.fan = s1.fan ∧
          (queue t 3).map (·.body) = (queue s 3).map (·.body) ++ [.bytes (stampEntry p (stampFix s frac.val))]) ∧
        (qcap 3 ≤ (queue s 3).length → queue t 3 = queue s 3 ∧ raised 76 t = true ∧ cnt 0x30038 t = sat32 (cnt 0x30038 s + 1)))) ∧
  (∀ (port : Fin 2) (l : List Byte) (res : Nat) (s : State), dark s .fan = false →
    (ethUp s = false ∨ ownPtp port.val l = true → exec (.ptpTransparentForward port l res) s = .next s) ∧
    (ethUp s = true → ownPtp port.val l = false → ptpEvent l = none → exec (.ptpTransparentForward port l res) s = .next (emit (.ethFrame (1 - port.val) (withFcs l)) s)) ∧
    ∀ o k, ethUp s = true → ownPtp port.val l = false → ptpEvent l = some (o, k) →
      let l1 := patch l (o + 8) (beBytes 8 (ofBe (slice l (o + 8) 8) + res))
      let l2 := if k = 0 ∨ (k = 1 ∧ slice l (o - 8 + 6) 2 = [0, 0]) then l1 else patch l1 (o - 8 + 6) (udpSum l1 (o - 8) k)
      exec (.ptpTransparentForward port l res) s = .next (bump 0x30044 1 (emit (.ethFrame (1 - port.val) (withFcs l2)) s))) ∧
  (∀ (port : Fin 2) (dom : Byte) (tr : Fin 3) (frac : Fin 32) (src : Nat) (seq : U16) (x : Int) (s : State),
    let rx := fun m => exec (.ptpMessageReceived port dom tr frac m) s
    (ptpHeard s port.val dom.toNat tr.val = false → ∀ m, rx m = .next s) ∧
    (ptpHeard s port.val dom.toNat tr.val = true →
      (∀ rank gm l utc, -3 ≤ l → l ≤ 4 → s.fan.master = none →
        (s.fan.masters = [] → ∃ t k, rx (.announce src rank gm l utc) = .next t ∧ t.fan.master = none ∧ t.fan.masters = [k] ∧ k.port = src ∧
          k.rank = rank ∧ k.lastAt = s.elapsed) ∧
        ∀ m, s.fan.masters = [m] → m.port = src → s.elapsed ≤ m.lastAt + 4 * logTicks l → ∃ t, rx (.announce src rank gm l utc) = .next t ∧
          t.fan.master = some src ∧ t.fan.gm = gm.toNat ∧ raised 78 t = true) ∧
      (∀ rank gm l utc, l < -3 ∨ 4 < l → rx (.announce src rank gm l utc) = .next s) ∧
      (s.fan.master ≠ some src → (∀ l org, rx (.sync src seq l org) = .next s) ∧ rx (.followUp src seq x) = .next s ∧
        rx (.delayResp src seq x) = .next s) ∧
      (s.fan.master = some src →
        (∀ l, -7 ≤ l → l ≤ 4 → rx (.sync src seq l none) = .next { s with fan := { s.fan with
          syncPeriod := logTicks l, t2 := some (stampNs s frac.val : Int), t1 := none, syncSeq := some seq.toNat } } ∧
          rx (.sync src seq l (some x)) = .next { s with fan := { s.fan with
            syncPeriod := logTicks l, t2 := some (stampNs s frac.val : Int), t1 := some (ptpNs x), syncSeq := none } }) ∧
        (∀ l org, l < -7 ∨ 4 < l → rx (.sync src seq l org) = .next s) ∧
        (s.fan.syncSeq = some seq.toNat → rx (.followUp src seq x) = .next { s with fan := { s.fan with
          t1 := some (ptpNs x), syncSeq := none } }) ∧
        ∀ a b t3, s.fan.t1 = some a → s.fan.t2 = some b → s.fan.dreq = some (seq.toNat, t3) → ∃ t, rx (.delayResp src seq x) = .next t ∧
          t.fan.ptpUsable = true ∧ t.fan.exchAt = some s.elapsed ∧
          tget none t.fan.srcErr 0 = some (((a - b) + (ptpNs x - t3)).fdiv 2)))) ∧
  ∀ (frac : Fin 32) (s : State), dark s .fan = false →
    (srcEnabled s 0 = false ∨ s.fan.master = none ∨ passed s s.fan.dreqAt (logTicks (param s .fantail 10 0)) = false →
      exec (.delayReqSend frac) s = .next s) ∧
    (srcEnabled s 0 = true → s.fan.master.isSome = true → passed s s.fan.dreqAt (logTicks (param s .fantail 10 0)) = true →
      exec (.delayReqSend frac) s = .next (emitEth (.ethFrame (paramN s .fantail 7 0) (withFcs (Config.ptpFrame (paramN s .fantail 7 0)
        (paramN s .fantail 7 1) (delayReqBytes (paramN s .fantail 8 0) s.fan.dreqSeq)))) { s with fan := { s.fan with
          dreq := some (s.fan.dreqSeq, (stampNs s frac.val : Int)), dreqAt := s.elapsed, dreqSeq := (s.fan.dreqSeq + 1) % 65536 } })) ∧
    (srcEnabled s 1 = false ∨ s.fan.st = .unset → exec (.ppsInEdge frac) s = .next s) ∧
    (srcEnabled s 1 = true → s.fan.st ≠ .unset →
      (s.fan.ppsLast = none → exec (.ppsInEdge frac) s = .next { s with fan := { s.fan with ppsLast := some s.elapsed, ppsRun := 1 } }) ∧
      ∀ a, s.fan.ppsLast = some a →
        (tickS - 40000 ≤ s.elapsed - a → s.elapsed - a ≤ tickS + 40000 → ∃ t, exec (.ppsInEdge frac) s = .next t ∧ t.fan.ppsRun = s.fan.ppsRun + 1 ∧
          t.fan.ppsLast = some s.elapsed ∧ t.fan.ppsUsable = (s.fan.ppsUsable || decide (3 ≤ s.fan.ppsRun + 1))) ∧
        (s.elapsed - a < tickS - 40000 ∨ tickS + 40000 < s.elapsed - a → ∃ t, exec (.ppsInEdge frac) s = .next t ∧ t.fan.ppsRun = 1 ∧
          t.fan.ppsUsable = s.fan.ppsUsable ∧ t.fan.ppsLast = some s.elapsed ∧
          cnt 0x30048 t = sat32 (cnt 0x30048 s + b2n (ppsOff (s.elapsed - a))))) ∧
    (∀ a, s.fan.ppsOut = true → s.fan.ppsRose = some a →
      (passed s a s.fan.ppsWidth = false → exec .ppsOutPulse s = .next s) ∧
      (passed s a s.fan.ppsWidth = true → exec .ppsOutPulse s = .next (emit (.pin "PPS_OUT" 0)
        { s with fan := { s.fan with ppsOut := false } }))) ∧
    (s.fan.ppsOut = false → s.fan.ppsRose = none → param s .fantail 12 0 = 1 → s.fan.st ≠ .unset →
      ((nowFix s + 2 * 2 ^ 41) % (1000000000 * 2 ^ 41) ≤ 4 * 2 ^ 41 → exec .ppsOutPulse s = .next (emit (.pin "PPS_OUT" 1)
        { s with fan := { s.fan with ppsOut := true, ppsRose := some s.elapsed, ppsWidth := paramN s .fantail 12 1 * tickMs } })) ∧
      (4 * 2 ^ 41 < (nowFix s + 2 * 2 ^ 41) % (1000000000 * 2 ^ 41) → exec .ppsOutPulse s = .next s))

/-- HMR_SET of a good size and base gives the region to Granary, which fills it with clean map pages, written to their places with their
CRC-32s kept; while one is in use or ended only size 0 is taken. A DMA error on the region ends its use, is told of, and counts the map page
NAND then serves. ARCHIVE_READ answers REFUSED_STATE where the channel has no archive to read, BUSY while it mounts, NOT_FOUND below the
window, BAD_PARAM beyond its end or off a unit, and otherwise as many whole units as fit, OK when every one reads as its tag says and
POISONED when not, the map unchanged. MEDIA_STATUS answers the channel's state and its 64 bytes. FORMAT with its confirmation starts
mounting, without it answers BAD_PARAM. A mount that ends leaves a channel with an anchor READY, or READ_ONLY once exhausted, its event
raised, no generation beyond the highest known, and one without UNFORMATTED; a format's end answers its command and raises the event, every
good block of CHK erased once more, the retired ones kept, and an anchor in force. (R381, R408, R409, R411, R412, R414, R420, R422, R439)
-/
def Obligations.granary_commands : Prop :=
  (∀ (c : Ctx) (size : U16) (base : U64) (s : State), accepts (.hmrSet c size base) s = true →
    (size.toNat ≠ 0 → s.gra.hmrUse = true ∨ s.gra.hmrEnded = true → exec (.hmrSet c size base) s = .next (reply c .refusedState 0 c.xin.length s)) ∧
    (size.toNat = 0 ∨ (s.gra.hmrUse = false ∧ s.gra.hmrEnded = false) →
      (1024 < size.toNat ∨ base.toNat % 4096 ≠ 0 → exec (.hmrSet c size base) s = .next (reply c .badParam 0 c.xin.length s)) ∧
      (size.toNat ≤ 1024 → base.toNat % 4096 = 0 → ∃ t h, exec (.hmrSet c size base) s = .next (finish c .ok 0 [] t) ∧ t.gra = { s.gra with
          hmrBase := base.toNat, hmrMiB := size.toNat, hmrUse := size.toNat != 0, hmrEnded := false, hmr := h } ∧
        (size.toNat = 0 → h = [] ∧ t.out = s.out) ∧
        ∀ p k, tget none h p = some k → s.gra.dirtyMap.contains p = false ∧ k = crc32 (mapBytes s p) ∧
          .hmr (base.toNat + 16384 * p) (mapBytes s p) dataAttr ∈ t.out))) ∧
  (∀ (page : Nat) (s : State),
    (s.gra.hmrUse = false → exec (.hmrDmaError page) s = .next s) ∧
    (s.gra.hmrUse = true → ∃ t, exec (.hmrDmaError page) s = .next t ∧ t.gra.hmrUse = false ∧ t.gra.hmrEnded = true ∧
      raised 85 t = true ∧ t.gra.map = s.gra.map ∧
      cnt 0xA0018 t = (if (tget none s.gra.dir page).isSome then sat32 (cnt 0xA0018 s + 1) else cnt 0xA0018 s))) ∧
  (∀ (c : Ctx) (ofs : U64) (reads : List (Nat × Nat)) (s : State), accepts (.archiveRead c ofs reads) s = true → c.xlen % 16384 = 0 →
    let st := s.gra.arc.st
    (st = .absent ∨ st = .unformatted ∨ st = .failed ∨ st = .gated →
      exec (.archiveRead c ofs reads) s = .next (reply c .refusedState 0 c.xin.length s)) ∧
    (st = .mounting → exec (.archiveRead c ofs reads) s = .next (reply c (if ofs.toNat % 16384 = 0 then .busy else .badParam) 0 c.xin.length s)) ∧
    (st = .ready ∨ st = .readOnly →
      let low := (s.gra.wp - s.gra.cap) * 16384
      (ofs.toNat < low → exec (.archiveRead c ofs reads) s = .next (reply c .notFound 0 c.xin.length s)) ∧
      (low ≤ ofs.toNat → ofs.toNat % 16384 ≠ 0 ∨ s.gra.wp * 16384 ≤ ofs.toNat →
        exec (.archiveRead c ofs reads) s = .next (reply c .badParam 0 c.xin.length s)) ∧
      (low ≤ ofs.toNat → ofs.toNat % 16384 = 0 → ofs.toNat < s.gra.wp * 16384 →
        let n := min (c.xlen / 16384) (s.gra.wp - ofs.toNat / 16384)
        let got := (List.range n).map (fun k => let lu := (ofs.toNat / 16384 + k) % max 1 s.gra.cap
          (tget none s.gra.map lu).bind (unitAt s.gra.arc lu))
        ∃ t, exec (.archiveRead c ofs reads) s = .next (finish c (if got.all (·.isSome) then .ok else .poisoned) n
            ((got.map (fun u => u.getD (zeros 16384))).flatten) t) ∧
          t.gra.map = s.gra.map ∧ t.gra.wp = s.gra.wp ∧ t.gra.cap = s.gra.cap))) ∧
  (∀ (c : Ctx) (ch : Byte) (s : State), accepts (.mediaStatus c ch) s = true → c.xlen = 64 →
    (1 < ch.toNat → exec (.mediaStatus c ch) s = .next (reply c .badParam 0 c.xin.length s)) ∧
    (ch.toNat ≤ 1 → exec (.mediaStatus c ch) s = .next (finish c .ok (chanCode (chan s (ch.toNat == 1)).st) (statusBlock (ch.toNat == 1) s) s))) ∧
  (∀ (c : Ctx) (ch : Byte) (x : U32) (s : State), accepts (.format c ch x) s = true →
    let k := chan s (ch.toNat == 1)
    (1 < ch.toNat → exec (.format c ch x) s = .next (reply c .badParam 0 c.xin.length s)) ∧
    (ch.toNat ≤ 1 → k.st = .absent ∨ k.st = .gated ∨ (ch.toNat = 1 ∧ grp s 3 = false) →
      exec (.format c ch x) s = .next (reply c .refusedState 0 c.xin.length s)) ∧
    (ch.toNat ≤ 1 → k.st ≠ .absent → k.st ≠ .gated → ch.toNat = 0 ∨ grp s 3 = true →
      (x.toNat ≠ 0x464D5424 → exec (.format c ch x) s = .next (reply c .badParam 0 c.xin.length s)) ∧
      (x.toNat = 0x464D5424 → k.st = .mounting → exec (.format c ch x) s = .next (reply c .busy 0 c.xin.length s)) ∧
      (x.toNat = 0x464D5424 → k.st ≠ .mounting →
        let s1 := if ch.toNat = 1 then abandonCkpt 2 .refusedState s else divertRing s
        exec (.format c ch x) s = .next (onJob (jobOf c s) (fun e => { e with started := true, moved := c.xin.length })
          (setChan (ch.toNat == 1) { k with st := .mounting, format := some (jobOf c s) } s1))))) ∧
  ∀ (ch : Bool) (ms : Nat) (found : List Nat) (media : List (Nat × Option RawPage)) (s : State), halted s .gra 10 = false →
    let go := exec (.mountRebuildComplete ch ms found media) s
    let c1 := if ch then { takeMedia media (chan s ch) with band := bandGuess (takeMedia media (chan s ch)) } else chan s ch
    ((chan s ch).st ≠ .mounting → go = .next s) ∧
    ((chan s ch).st = .mounting →
      ((chan s ch).format = none → anchorScan c1 = none → ∃ t, go = .next t ∧
        chan t ch = { c1 with st := .unformatted } ∧ chan t (!ch) = chan s (!ch) ∧ (ch = true → t.chk = [])) ∧
      (∀ w a, (chan s ch).format = none → anchorScan c1 = some (w, a) → ∃ t, go = .next t ∧
        (chan t ch).st = (if a.exhausted then .readOnly else .ready) ∧ raised 84 t = true ∧ t.gra.rebuildMs = ms ∧
        (chan t ch).aseq = a.aseq ∧ chan t (!ch) = chan s (!ch) ∧
        (ch = true → t.chk.length ≤ 2 ∧ s.brk.lastGen ≤ t.brk.lastGen ∧ ∀ g ∈ t.chk, g.gen ≤ t.brk.lastGen) ∧
        (ch = false → t.gra.cap = a.cap ∧ a.w34 ≤ t.gra.wp ∧ t.gra.journal = [])) ∧
      ∀ w, (chan s ch).format = some w → ∃ t, go = .next t ∧ raised 84 t = true ∧
        (chan t ch).format = none ∧ (chan t ch).formats = (chan s ch).formats + 1 ∧ t.gra.rebuildMs = ms ∧ chan t (!ch) = chan s (!ch) ∧
        (pair t w.1).inflight = (pair s w.1).inflight.map (fun e =>
          if e.serial = w.2 then { e with reply := some { status := .ok, result := 0, xdone := e.moved } } else e) ∧
        (ch = false → t.gra.arc.st = .ready ∨ t.gra.arc.st = .readOnly ∨ t.gra.arc.st = .failed) ∧
        (ch = true → t.chk = [] ∧ (t.gra.chk.st = .ready ∨ t.gra.chk.st = .failed) ∧
          (∀ b, s.gra.chk.retired.contains b = true → t.gra.chk.retired.contains b = true) ∧
          (t.gra.chk.st = .ready → (anchorScan t.gra.chk).isSome = true ∧
            ∀ b < totalBlocks true s.gra.chk, t.gra.chk.retired.contains b = false →
              tget 0 t.gra.chk.erase b = tget 0 s.gra.chk.erase b + 1)))

/-- A unit programmed takes the oldest of the ring to the next page under the next unit number, its map entry journalled, and reads
there as its R424 bytes; a failed program leaves a torn page and the block is retired once no valid page is left in it, counted and
told of. With too few free blocks it waits; with no spare and nothing to collect the channel is exhausted: READ_ONLY, with its event.
A copy keeps its source's DSEQ and is not committed until the journal is written. A failed system page retires its block and is written
anew; a failed checkpoint page retires its block and the checkpoint goes on without it, its pages of the stream in that block to be written
again. A program that a loss of the claim has caught ends inside the NAND. A block erased loses its pages, gains a count and joins the free
list, only where nothing in it is in use; a failed erase retires it. A read with RW_THR corrections or more, to 40, schedules its block; more
are uncorrectable, which marks the page, and is counted and told of. The journal is written when its time has come and not before, with the
allocation list, and waits where its area has no page left. Open units too old are closed as short. The patrol moves on to the next
programmed page. The third time in a row that a target is not ready the channel is FAILED, with its event. While the channel is not in use
nothing happens. (R406, R407, R409, R410, R413, R416, R417, R418, R419, R421, R422, R424) -/
def Obligations.granary_media : Prop :=
  (∀ (b : Nat) (s : State), halted s .gra 10 = false → s.gra.arc.st = .ready →
    (∀ (u : OpenUnit) (rest : List OpenUnit) (ppn : Nat) (c1 : Chan), nextPage false s.gra.arc = some (ppn, c1) → s.gra.ring = u :: rest →
      let n := s.gra.wp
      (s.gra.cap ≠ 0 → paramN s .granary 8 0 ≤ c1.free.length → ∃ t v, exec (.nandProgramDone false .unit b true) s = .next t ∧
        t.gra.wp = n + 1 ∧ tget none t.gra.map (n % s.gra.cap) = some v ∧ v.2 = s.gra.arc.wseq ∧
        (s.gra.journal.length + s.gra.gc.length < 999 → c1.opened < 48 → s.gra.cache.length < s.gra.cacheMiB * 64 → s.gra.hmrUse = false →
          t.gra.ring = rest ∧ v.1 = ppn ∧ unitAt t.gra.arc (n % s.gra.cap) v = some (unitBytes u n) ∧
          t.gra.journal = s.gra.journal ++ [(n % s.gra.cap, ppn, s.gra.arc.wseq)])) ∧
      (let k := blockOf s.gra.arc ppn
       ∃ t q, exec (.nandProgramDone false .unit b false) s = .next t ∧ t.gra.wp = n ∧ t.gra.map = s.gra.map ∧
        tget none t.gra.arc.pages ppn = some q ∧ q.body = .torn ∧ cnt 0xA011C t = sat32 (cnt 0xA011C s + 1) ∧
        (t.gra.arc.failing.any (fun f => f.1 == k) = true ∨ t.gra.arc.retired.contains k = true) ∧
        (validUnits s k = [] → s.gra.arc.retired.contains k = false → t.gra.arc.retired.contains k = true ∧ raised 81 t = true))) ∧
    (s.gra.ring ≠ [] → s.gra.cap ≠ 0 → (∀ x, nextPage false s.gra.arc = some x → x.2.free.length < paramN s .granary 8 0) →
      (s.gra.arc.spare ≠ 0 ∨ gcAble s = true → exec (.nandProgramDone false .unit b true) s = .next s) ∧
      (s.gra.arc.spare = 0 → gcAble s = false → ∃ t, exec (.nandProgramDone false .unit b true) s = .next t ∧
        t.gra.arc.st = .readOnly ∧ t.gra.arc.exhausted = true ∧ raised 80 t = true)) ∧
    (copySource s = none → ∀ ok, exec (.nandProgramDone false .copy b ok) s = .next s) ∧
    (∀ (k : Nat) (rw : Bool) (e : Nat × Nat × Nat) (l : List (Nat × Nat × Nat)) (ppn : Nat) (c1 : Chan), copySource s = some (k, rw) →
      s.gra.arc.band.contains k = false → s.gra.arc.sys.contains k = false →
      (validUnits s k).filter (fun e => !s.gra.gc.any (fun g => g.lunit == e.1)) = e :: l → nextPage true s.gra.arc = some (ppn, c1) →
      s.gra.journal.length + s.gra.gc.length < 999 → c1.opened < 48 → ∃ t q, exec (.nandProgramDone false .copy b true) s = .next t ∧
        t.gra.gc = s.gra.gc ++ [⟨e.1, e.2.1, ppn⟩] ∧ t.gra.map = s.gra.map ∧ tget none t.gra.arc.pages ppn = some q ∧
        q.lunit = e.1 ∧ q.dseq = e.2.2 ∧ q.tflags = (if rw then 2 else 1) ∧ some q.body = (unitAt s.gra.arc e.1 e.2).map .unit ∧
        cnt 0xA0124 t = sat32 (cnt 0xA0124 s + 1))) ∧
  (∀ (ch : Bool) (b : Nat) (s : State), halted s .gra 10 = false →
    ((chan s ch).st ≠ .ready → ch = false ∨ (chan s ch).st ≠ .gated ∨ s.cut = none → ∀ w ok, exec (.nandProgramDone ch w b ok) s = .next s) ∧
    (∀ ok, exec (.nandProgramDone true .unit b ok) s = .next s ∧ exec (.nandProgramDone false .ckpt b ok) s = .next s) ∧
    (∀ r k n p, s.gra.chk.st = .gated → s.cut = some (r, k) → r.done = false → r.open_ = some (n, p) → p < pagesPer s.gra.chk →
      (∃ t q, exec (.nandProgramDone true .ckpt b true) s = .next t ∧ t.cut = none ∧ t.snap = none ∧ t.brk = { s.brk with run := none } ∧
        tget none t.gra.chk.pages (n * pagesPer s.gra.chk + p) = some q ∧ kindOf q.body = 4 ∧ q.lunit = r.gen % 2 ^ 32) ∧
      ∃ t q, exec (.nandProgramDone true .ckpt b false) s = .next t ∧ t.cut = none ∧ t.brk = s.brk ∧
        tget none t.gra.chk.pages (n * pagesPer s.gra.chk + p) = some q ∧ q.body = .torn) ∧
    ((chan s ch).st = .ready →
      exec (.nandProgramDone ch .system b true) s = .next (setChan ch { chan s ch with notReady := targetOk (chan s ch) b } s) ∧
      ((chan s ch).pages.all (fun e => blockOf (chan s ch) e.1 != b) = true → exec (.nandProgramDone ch .system b false) s = .next s) ∧
      (∀ ppn q, tget none (chan s ch).pages ppn = some q → blockOf (chan s ch) ppn = b → kindOf q.body ≠ 0 → kindOf q.body ≠ 4 →
        (chan s ch).retired.contains b = false → ∃ t, exec (.nandProgramDone ch .system b false) s = .next t ∧ raised 81 t = true ∧
          (chan t ch).retired.contains b = true ∧ cnt (graReg 0x11C ch) t = sat32 (cnt (graReg 0x11C ch) s + 1))) ∧
    (s.gra.chk.st = .ready → s.brk.run = none ∨ s.snap = none → ∀ ok, exec (.nandProgramDone true .ckpt b ok) s = .next s) ∧
    ∀ r k n p, s.gra.chk.st = .ready → s.brk.run = some r → s.snap = some k → r.done = false → r.open_ = some (n, p) →
      p < pagesPer s.gra.chk → s.gra.chk.retired.contains n = false → ∃ t u, exec (.nandProgramDone true .ckpt b false) s = .next t ∧
        raised 81 t = true ∧ t.gra.chk.retired.contains n = true ∧ cnt (graReg 0x11C true) t = sat32 (cnt (graReg 0x11C true) s + 1) ∧
        t.snap = some k ∧ t.brk = { s.brk with run := some u } ∧ u = { r with open_ := none, sp := u.sp, extents := u.extents } ∧
        (∀ e, r.extents.getLast? = some e → blockOf s.gra.chk e = n → u.sp = r.sp - (p - e % pagesPer s.gra.chk))) ∧
  (∀ (ch : Bool) (b : Nat) (s : State), halted s .gra 10 = false → (chan s ch).st = .ready ∨ (chan s ch).st = .readOnly →
    (mayErase ch b s = false → exec (.nandEraseDone ch b true) s = .next s ∧
      (justErased ch b s = false → exec (.nandEraseDone ch b false) s = .next s)) ∧
    (mayErase ch b s = true → (chan s ch).format = none → ∃ t, exec (.nandEraseDone ch b true) s = .next t ∧
      (chan t ch).free = (chan s ch).free ++ [b] ∧
      tget 0 (chan t ch).erase b = tget 0 (chan s ch).erase b + 1 ∧ (chan t ch).retired = (chan s ch).retired ∧
      ∀ p, blockOf (chan s ch) p = b → tget none (chan t ch).pages p = none) ∧
    (mayErase ch b s = true ∨ justErased ch b s = true → ∃ t, exec (.nandEraseDone ch b false) s = .next t ∧
      (chan t ch).retired = b :: (chan s ch).retired ∧ raised 81 t = true ∧
      cnt (graReg 0x120 ch) t = sat32 (cnt (graReg 0x120 ch) s + 1))) ∧
  (∀ (ch pat : Bool) (ppn : U32) (tg : Fin 8) (s : State), halted s .gra 10 = false →
    let k := chan s ch
    let b := blockOf k ppn.toNat
    (k.st ≠ .ready → k.st ≠ .readOnly → (∀ corr, exec (.nandReadDone ch ppn corr pat) s = .next s) ∧ exec (.patrolRead ch) s = .next s ∧
      exec (.targetNotReady ch tg) s = .next s ∧
      (k.st ≠ .gated → k.format = none → ∀ ok, exec (.nandEraseDone ch b ok) s = .next s)) ∧
    (k.st = .ready ∨ k.st = .readOnly →
      (∀ n, n ≤ 40 → ∃ t, exec (.nandReadDone ch ppn (some n) pat) s = .next t ∧
        cnt (graReg 0x110 ch) t = max n (cnt (graReg 0x110 ch) s) ∧
        (n < paramN s .granary 6 0 → chan t ch = k) ∧
        (paramN s .granary 6 0 ≤ n → k.retired.contains b = false → b ∈ (chan t ch).rewrite)) ∧
      (∀ corr, (∀ n, corr = some n → 40 < n) → ∃ t, exec (.nandReadDone ch ppn corr pat) s = .next t ∧ raised 82 t = true ∧
        cnt (graReg 0x118 ch) t = sat32 (cnt (graReg 0x118 ch) s + 1) ∧
        (∀ q, tget none k.pages ppn.toNat = some q → tget none (chan t ch).pages ppn.toNat = some { q with bad := true }) ∧
        (pat = true → k.retired.contains b = false → (chan t ch).rewrite.head? = some b)) ∧
      (let l := (patrolPages ch s).filter (fun p => decide (k.patrol ≤ p))
       (∀ p r, l = p :: r → exec (.patrolRead ch) s = .next (setChan ch { k with patrol := r.foldl min p + 1 } s)) ∧
       (l = [] → passed s k.patrolAt (paramN s .granary 7 0 * 86400 * tickS) = false → exec (.patrolRead ch) s = .next s) ∧
       (l = [] → passed s k.patrolAt (paramN s .granary 7 0 * 86400 * tickS) = true →
         exec (.patrolRead ch) s = .next (setChan ch { k with patrol := 0, patrolAt := s.elapsed } s))) ∧
      (tget 0 k.notReady tg.val < 2 → exec (.targetNotReady ch tg) s = .next (setChan ch { k with
        notReady := tset 0 k.notReady tg.val (tget 0 k.notReady tg.val + 1) } s)) ∧
      (2 ≤ tget 0 k.notReady tg.val → ∃ t, exec (.targetNotReady ch tg) s = .next t ∧ (chan t ch).st = .failed ∧ raised 86 t = true ∧
        chan t (!ch) = chan s (!ch) ∧ (ch = true → t.brk.run = none)))) ∧
  ∀ s : State, halted s .gra 10 = false →
    (s.gra.arc.st ≠ .ready ∨ passed s s.gra.journalAt (paramN s .granary 0 0 * tickMs) = false ∨ sysPage s.gra.arc = none →
      exec .journalTimer s = .next s) ∧
    (s.gra.arc.st = .ready → passed s s.gra.journalAt (paramN s .granary 0 0 * tickMs) = true → ∀ ppn c, sysPage s.gra.arc = some (ppn, c) →
      ∃ t, exec .journalTimer s = .next t ∧ t.gra.journal = [] ∧ t.gra.journalAt = s.elapsed ∧ t.gra.gc = [] ∧
        (s.gra.journalPages + 1 < 4096 → t.gra.journalPages = s.gra.journalPages + 1 ∧
          (s.gra.gc = [] → cnt 0xA0128 t = sat32 (cnt 0xA0128 s + 1) ∧ ∃ q, tget none t.gra.arc.pages ppn = some q ∧
            q.body = journalBody s.gra.arc s.gra.journal))) ∧
    (s.gra.opens = [] → s.gra.ring = [] → exec .arcFlushTimer s = .next s) ∧
    ∀ k u, s.gra.opens = [(k, some u)] → s.gra.ring = [] →
      (passed s u.since (paramN s .granary 1 0 * tickMs) = false → exec .arcFlushTimer s = .next s) ∧
      (passed s u.since (paramN s .granary 1 0 * tickMs) = true → s.gra.arc.st ≠ .ready → exec .arcFlushTimer s = .next { s with gra := { s.gra with
        opens := [], ring := [{ u with short := true }] } }) ∧
      (passed s u.since (paramN s .granary 1 0 * tickMs) = true → s.gra.arc.st = .ready → ∀ ppn c1, nextPage false s.gra.arc = some (ppn, c1) →
        s.gra.cap ≠ 0 → paramN s .granary 8 0 ≤ c1.free.length → s.gra.arc.failing = [] → s.gra.journalPages + 2 < 4096 → s.gra.hmrUse = false →
        ∃ t, exec .arcFlushTimer s = .next t ∧ t.gra.ring = [] ∧ t.gra.opens = [] ∧ t.gra.wp = s.gra.wp + 1 ∧
          (t.gra.journal = [] ∨ sysPage t.gra.arc = none))

/-- With Granary powered, a rising edge of BKP_ACTIVE flushes Granary (every open unit but the event stream's, which an event of
the flush may open again, is closed, and where the archive channel is ready after it, its journal area not full, the journal is written),
raises the
backup-power event and sets PWR_STATUS.BKP; the power state stays. A level already high is no edge and changes nothing. (R493)
-/
def Obligations.backup_power_rise : Prop :=
  ∀ s : State, (s.pwr.bkp = true → exec .bkpActiveRise s = .next s) ∧
    (s.pwr.bkp = false → dark s .gra = false → ∃ u t, u = graFlush s ∧
      exec .bkpActiveRise s = .next t ∧ t = raise 106 1 0 { u with pwr := { s.pwr with bkp := true } } ∧
      (∀ k, k ≠ 2 → tget none u.gra.opens k = none) ∧ (u.gra.arc.st = .ready → sysPage u.gra.arc ≠ none → u.gra.journal = [] ∧ u.gra.journalAt = s.elapsed) ∧
      raised 106 t = true ∧ t.pwr.bkp = true ∧ t.pwr.st = s.pwr.st)

/-- For every state in which a device that does not hold the claim has no output group enabled, and every step that answers a
next state, the next state has none enabled either unless it holds the claim: whatever the command is, the four groups of R434
are enabled only by a device that holds the claim. (R432, R434, R183, R216, R283, R409) -/
def Obligations.groups_gated_always : Prop :=
  ∀ s t : State, Gated s → step s = .next t → Gated t

/-- After reset the claim is not held and no group is enabled, the level is 0, the role is LISTEN, the lifecycle is BLANK (log
entry 6: a device as shipped), Fantail is UNSET, every queue pair is DISABLED, every internal queue is empty, no event is
pending, no command waits, the power state is RUN, and the first step with an empty queue only lets one TB period pass (log
entry 1). (R434, R435, R449, R323, R346, R391, R348, R490) -/
def Obligations.reset_state : Prop :=
  Gated State.reset ∧ State.reset.brk.hold = false ∧ State.reset.brk.groups = 0 ∧ State.reset.brk.level = 0 ∧
  State.reset.brk.role = .listen ∧ State.reset.sec.lc = 0 ∧ State.reset.fan.st = .unset ∧ (∀ p, (pair State.reset p).st = .disabled) ∧
  (∀ q, queue State.reset q = []) ∧ State.reset.evt.pend = 0 ∧ State.reset.pending = [] ∧ State.reset.pwr.st = .run ∧
  ∃ t, step State.reset = .next t ∧ t.elapsed = State.reset.elapsed + 1 ∧ t.brk = State.reset.brk ∧ rawCount t = rawCount State.reset + 1
end

