-- ==== Sys2Proof/Laws/Table.lean ====
section
/-! SUPPORT. The laws of sparse tables: a read after a write gives the value written, a write leaves every other key alone, and the
canonical form is kept. -/

namespace Sys2Proof.Machine

variable {α : Type}

/-- A list with only greater keys holds nothing at a key. -/
theorem tget_below (d : α) (k : Nat) (t : Tab α) (h : ∀ e ∈ t.head?, k < e.1) : tget d t k = d := by
  cases t with
  | nil => rfl
  | cons e t => simp only [List.head?_cons, Option.mem_def, Option.some.injEq, forall_eq'] at h; simp [tget, h]

/-- What is left of a table after its leading keys up to `k` are dropped holds nothing at `k`. -/
theorem tget_dropWhile (d : α) (k : Nat) (t : Tab α) : tget d (t.dropWhile (fun e => decide (e.1 ≤ k))) k = d := by
  refine tget_below d k _ fun e he => ?_
  have := List.head?_dropWhile_not (fun e : Nat × α => decide (e.1 ≤ k)) t
  rw [he] at this
  simpa using this

/-- Dropping a table's leading keys up to `k` changes nothing at a greater key. -/
theorem tget_dropWhile_above (d : α) (k j : Nat) (h : k < j) (t : Tab α) :
    tget d (t.dropWhile (fun e => decide (e.1 ≤ k))) j = tget d t j := by
  induction t with
  | nil => rfl
  | cons e t ih =>
    by_cases hk : e.1 ≤ k
    · rw [List.dropWhile_cons_of_pos (by simpa using hk), ih]
      have h1 : ¬ j < e.1 := by omega
      have h2 : ¬ j = e.1 := by omega
      simp [tget, h1, h2]
    · rw [List.dropWhile_cons_of_neg (by simpa using hk)]

/-- The place of a sorted table's first key. -/
theorem tsorted_cons {e : Nat × α} {t : Tab α} : tsorted (e :: t) = true ↔ (∀ f ∈ t.head?, e.1 < f.1) ∧ tsorted t = true := by
  obtain ⟨a, v⟩ := e
  cases t with
  | nil => simp [tsorted]
  | cons f t => obtain ⟨b, w⟩ := f; simp [tsorted]

/-- A function applied to every listed value, leaving the default alone, applies to every read. -/
theorem tget_map (d : α) (g : α → α) (hd : g d = d) (t : Tab α) (k : Nat) :
    tget d (t.map (fun e => (e.1, g e.2))) k = g (tget d t k) := by
  induction t with
  | nil => exact hd.symm
  | cons e t ih =>
    simp only [List.map_cons, tget]
    split
    · exact hd.symm
    · split
      · rfl
      · exact ih

variable [DecidableEq α]

/-- A read after a write to the same key gives the value written. -/
@[simp] theorem tget_tset_same (d : α) (t : Tab α) (k : Nat) (v : α) : tget d (tset d t k v) k = v := by
  induction t with
  | nil => simp only [tset]; split <;> simp_all [tget]
  | cons e t ih =>
    obtain ⟨k', v'⟩ := e
    simp only [tset]
    split
    · split <;> simp_all [tget]
    · split
      · split
        · next h => rw [tget_dropWhile]; exact h.symm
        · simp_all [tget]
      · rename_i h _
        simp [tget, *]

/-- A write leaves every other key alone. -/
theorem tget_tset_other (d : α) (t : Tab α) (k j : Nat) (v : α) (h : j ≠ k) : tget d (tset d t k v) j = tget d t j := by
  induction t with
  | nil => simp only [tset]; split <;> simp [tget, h]
  | cons e t ih =>
    obtain ⟨k', v'⟩ := e
    simp only [tset]
    split
    · split
      · rfl
      · by_cases hj : j < k
        · have : j < k' := by omega
          simp [tget, hj, this]
        · simp [tget, hj, h]
    · split
      · next hk =>
        subst hk
        split
        · by_cases hj : k < j
          · rw [tget_dropWhile_above d k j hj]
            have h1 : ¬ j < k := by omega
            simp [tget, h1, h]
          · have hj' : j < k := by omega
            simp only [tget, hj', if_true]
            refine tget_below d j _ fun e he => ?_
            have := List.head?_dropWhile_not (fun e : Nat × α => decide (e.1 ≤ k)) t
            rw [he] at this
            simp at this
            omega
        · simp [tget, h]
      · simp only [tget, ih]

theorem twf_cons {d : α} {e : Nat × α} {t : Tab α} :
    twf d (e :: t) = true ↔ (∀ f ∈ t.head?, e.1 < f.1) ∧ e.2 ≠ d ∧ twf d t = true := by
  simp only [twf, Bool.and_eq_true, tsorted_cons, List.all_cons, decide_eq_true_eq]
  rw [and_assoc, and_left_comm (b := e.2 ≠ d)]

/-- A write keeps the canonical form, and its first key is not below both the key written and the keys there were. -/
theorem twf_tset_head (d : α) (t : Tab α) (k : Nat) (v : α) (h : twf d t = true) :
    twf d (tset d t k v) = true ∧ ∀ m, m < k → (∀ f ∈ t.head?, m < f.1) → ∀ f ∈ (tset d t k v).head?, m < f.1 := by
  induction t with
  | nil => simp only [tset]; split <;> simp_all [twf, tsorted]
  | cons e t ih =>
    obtain ⟨k', v'⟩ := e
    obtain ⟨hh, hv, ht⟩ := twf_cons.mp h
    simp only [tset]
    split
    · split
      · exact ⟨h, fun m _ hf => hf⟩
      · next hk hd => exact ⟨twf_cons.mpr ⟨by simpa using hk, hd, h⟩, fun m hm _ => by simpa using hm⟩
    · split
      · next hk =>
        subst hk
        split
        · have hs : t.dropWhile (fun e => decide (e.1 ≤ k)) = t := by
            cases t with
            | nil => rfl
            | cons f t => exact List.dropWhile_cons_of_neg (by have := hh f (by simp); simpa using this)
          rw [hs]
          exact ⟨ht, fun m hm _ f hf => Nat.lt_trans hm (hh f hf)⟩
        · next hd => exact ⟨twf_cons.mpr ⟨hh, hd, ht⟩, fun m hm _ => by simpa using hm⟩
      · next h1 h2 =>
        obtain ⟨i1, i2⟩ := ih ht
        exact ⟨twf_cons.mpr ⟨i2 k' (by omega) hh, hv, i1⟩, fun m hm hf => by simpa using hf⟩

/-- Every write keeps the canonical form of a table. -/
theorem twf_tset {d : α} {t : Tab α} (h : twf d t = true) (k : Nat) (v : α) : twf d (tset d t k v) = true :=
  (twf_tset_head d t k v h).1

theorem twf_tmod {d : α} {t : Tab α} (h : twf d t = true) (k : Nat) (f : α → α) : twf d (tmod d t k f) = true :=
  twf_tset h k _

@[simp] theorem tget_tmod_same (d : α) (t : Tab α) (k : Nat) (f : α → α) : tget d (tmod d t k f) k = f (tget d t k) :=
  tget_tset_same d t k _

end Sys2Proof.Machine
end

