-- ==== Sys2Proof/Laws/Raise.lean ====
section
/-! SUPPORT. What raising an event and asking for a record can do, said once: only the event, log, queue, counter, output and archive-ring
parts of the state change, and of a queue pair only its count towards a signal. -/

namespace Sys2Proof.Machine

/-- `t` follows `s` by raised events, stored records and archived items alone. -/
structure EventOnly (s t : State) : Prop where
  rest : t = { s with evt := t.evt, hop := t.hop, out := t.out, log := t.log, gra := t.gra, que := t.que, rc := t.rc }
  hop : t.hop = { s.hop with pairs := t.hop.pairs }
  pairs : ∀ p, pair t p = { pair s p with unsig := (pair t p).unsig }
  queues : ∀ q, q ≠ 4 → queue t q = queue s q
  pend : ∀ c, s.evt.pend.getLsbD c = true → t.evt.pend.getLsbD c = true
  ring : t.gra = { s.gra with opens := t.gra.opens, ring := t.gra.ring, ringLost := t.gra.ringLost,
                              lossRun := t.gra.lossRun, lossAt := t.gra.lossAt }
  sent : ∃ l, t.out = l ++ s.out
  counts : ∀ a, a ∉ [0xA0014, 0xE0018, 0xE001C, 0xF0188] → cnt a t = cnt a s
  route : t.evt.route = s.evt.route
  masks : t.evt.unmasked = s.evt.unmasked

theorem EventOnly.refl (s : State) : EventOnly s s :=
  ⟨rfl, rfl, fun _ => rfl, fun _ _ => rfl, fun _ h => h, rfl, ⟨[], rfl⟩, fun _ _ => rfl, rfl, rfl⟩

theorem EventOnly.trans {s t u : State} (h : EventOnly s t) (k : EventOnly t u) : EventOnly s u where
  rest := by rw [k.rest, h.rest]
  hop := by rw [k.hop, h.hop]
  pairs p := by rw [k.pairs p, h.pairs p]
  queues q hq := (k.queues q hq).trans (h.queues q hq)
  pend c hc := k.pend c (h.pend c hc)
  ring := by rw [k.ring, h.ring]
  sent := by obtain ⟨l, hl⟩ := h.sent; obtain ⟨m, hm⟩ := k.sent; exact ⟨m ++ l, by rw [hm, hl, List.append_assoc]⟩
  counts a ha := (k.counts a ha).trans (h.counts a ha)
  route := k.route.trans h.route
  masks := k.masks.trans h.masks

/-! ### Each operation -/

theorem pair_map (t : Tab QPair) (v p : Nat) :
    tget {} (t.map (fun p => if p.2.vector = v then (p.1, { p.2 with unsig := 0 }) else p)) p =
      if (tget {} t p).vector = v then { tget {} t p with unsig := 0 } else tget {} t p := by
  have h : (fun p : Nat × QPair => if p.2.vector = v then (p.1, { p.2 with unsig := 0 }) else p) =
      fun e => (e.1, if e.2.vector = v then { e.2 with unsig := 0 } else e.2) := by
    funext e; split <;> rfl
  rw [h]
  exact tget_map ({} : QPair) (fun q => if q.vector = v then { q with unsig := 0 } else q) (by split <;> rfl) t p

theorem getLsbD_setBit {w : Nat} (x : BitVec w) (k c : Nat) :
    (setBit x k).getLsbD c = (x.getLsbD c || (decide (c < w) && decide (c = k))) := by
  simp only [setBit, BitVec.getLsbD_or, BitVec.getLsbD_shiftLeft, BitVec.getLsbD_ofNat]
  by_cases h3 : c = k
  · subst h3; by_cases h1 : c < w
    · have : 0 < w := by omega
      simp [h1, this]
    · simp [h1]
  · have h : c < k ∨ Nat.testBit 1 (c - k) = false := by
      rcases Nat.lt_or_ge c k with h | h
      · exact .inl h
      · exact .inr (Nat.testBit_lt_two_pow (Nat.one_lt_two_pow (by omega)))
    rcases h with h | h <;> simp [h, h3]

theorem sendMsg_eventOnly (v : Nat) (s : State) : EventOnly s (sendMsg v s) where
  rest := rfl
  hop := rfl
  pairs p := by
    have := pair_map s.hop.pairs v p
    simp only [pair, sendMsg]
    rw [this]; split <;> rfl
  queues _ _ := rfl
  pend _ h := h
  ring := rfl
  sent := ⟨[_], rfl⟩
  counts _ _ := rfl
  route := rfl
  masks := rfl

theorem owe_eventOnly (x : BitVec 32) (s : State) : EventOnly s { s with evt := { s.evt with owed := x } } :=
  ⟨rfl, rfl, fun _ => rfl, fun _ _ => rfl, fun _ h => h, rfl, ⟨[], rfl⟩, fun _ _ => rfl, rfl, rfl⟩

theorem signal_eventOnly (v : Nat) (s : State) : EventOnly s (signal v s) := by
  unfold signal; split
  · exact owe_eventOnly _ s
  · exact sendMsg_eventOnly v s

theorem raiseBit_eventOnly (code : Nat) (s : State) : EventOnly s (raiseBit code s) := by
  have h : EventOnly s { s with evt := { s.evt with pend := setBit s.evt.pend code } } :=
    ⟨rfl, rfl, fun _ => rfl, fun _ _ => rfl, fun c hc => by simp [getLsbD_setBit, hc], rfl, ⟨[], rfl⟩,
      fun _ _ => rfl, rfl, rfl⟩
  simp only [raiseBit]; split
  · exact h.trans (signal_eventOnly _ _)
  · exact h

/-- A source's pending bit stands after its raise (R357). -/
theorem raiseBit_pend (code : Nat) (h : code < 128) (s : State) : (raiseBit code s).evt.pend.getLsbD code = true := by
  have h1 : (setBit s.evt.pend code).getLsbD code = true := by simp [getLsbD_setBit, h]
  simp only [raiseBit]; split
  · exact (signal_eventOnly _ { s with evt := { s.evt with pend := setBit s.evt.pend code } }).pend code h1
  · exact h1

/-- A counter of the recorder and the archive ring counts. -/
theorem bump_eventOnly (a n : Nat) (ha : a ∈ [0xA0014, 0xE0018, 0xE001C, 0xF0188]) (s : State) : EventOnly s (bump a n s) where
  rest := rfl
  hop := rfl
  pairs _ := rfl
  queues _ _ := rfl
  pend _ h := h
  ring := rfl
  sent := ⟨[], rfl⟩
  counts _ hb := tget_tset_other _ _ _ _ _ (fun e => hb (e ▸ ha))
  route := rfl
  masks := rfl

/-- A change of the recorder alone. -/
theorem log_eventOnly (l : LogState) (s : State) : EventOnly s { s with log := l } :=
  ⟨rfl, rfl, fun _ => rfl, fun _ _ => rfl, fun _ h => h, rfl, ⟨[], rfl⟩, fun _ _ => rfl, rfl, rfl⟩

/-- A change of the archive ring alone. -/
theorem ring_eventOnly (g : GraState) (s : State)
    (h : g = { s.gra with opens := g.opens, ring := g.ring, ringLost := g.ringLost, lossRun := g.lossRun, lossAt := g.lossAt }) :
    EventOnly s { s with gra := g } :=
  ⟨rfl, rfl, fun _ => rfl, fun _ _ => rfl, fun _ h => h, h, ⟨[], rfl⟩, fun _ _ => rfl, rfl, rfl⟩

theorem setQueue4_eventOnly (l : List QItem) (s : State) : EventOnly s (setQueue 4 l s) where
  rest := rfl
  hop := rfl
  pairs _ := rfl
  queues _ hq := tget_tset_other _ _ _ _ _ hq
  pend _ h := h
  ring := rfl
  sent := ⟨[], rfl⟩
  counts _ _ := rfl
  route := rfl
  masks := rfl

theorem giveLost_eventOnly (stream n : Nat) (s : State) : EventOnly s (giveLost stream n s) := by
  unfold giveLost; dsimp only; split <;> exact ring_eventOnly _ s rfl

theorem ringLoss_eventOnly (stream n : Nat) (s : State) : EventOnly s (ringLoss stream n s).1 := by
  simp only [ringLoss]; split
  · exact ((ring_eventOnly _ s rfl).trans (bump_eventOnly _ _ (by decide) _)).trans (ring_eventOnly _ _ rfl)
  · exact (ring_eventOnly _ s rfl).trans (bump_eventOnly _ _ (by decide) _)

theorem ringPut_eventOnly (u : OpenUnit) (s : State) : EventOnly s (ringPut u s).1 := by
  unfold ringPut; split
  · split
    · exact ((ring_eventOnly _ s rfl).trans (giveLost_eventOnly _ _ _)).trans (ringLoss_eventOnly _ _ _)
    · exact ring_eventOnly _ s rfl
  · exact ring_eventOnly _ s rfl

theorem closeUnit_eventOnly (stream : Nat) (short : Bool) (s : State) : EventOnly s (closeUnit stream short s).1 := by
  unfold closeUnit; split
  · exact .refl s
  · exact (ring_eventOnly _ s rfl).trans (ringPut_eventOnly _ _)

theorem arcPush_eventOnly (stream : Nat) (item : List Byte) (seq : Nat) (s : State) : EventOnly s (arcPush stream item seq s).1 := by
  simp only [arcPush]
  split
  · exact (closeUnit_eventOnly _ _ s).trans (ring_eventOnly _ _ rfl)
  · exact ring_eventOnly _ s rfl

theorem bankRec_eventOnly (r : Rec) (s : State) : EventOnly s (bankRec r s) := by
  unfold bankRec; split
  · exact log_eventOnly _ s
  · exact bump_eventOnly _ _ (by decide) s

theorem takeToken_eventOnly (code : Nat) (s : State) : EventOnly s (takeToken code s).2 := by
  unfold takeToken; split
  · exact .refl s
  · simp only; split
    · exact log_eventOnly _ s
    · exact (log_eventOnly _ s).trans (bump_eventOnly _ _ (by decide) _)

/-- Noting a queue's depth changes no queue. -/
theorem depthMark_eventOnly (q : Nat) (s : State) : EventOnly s (depthMark q s).1 := by
  have h : ∀ v, EventOnly s { s with que := { s.que with hwm := (v : QueueState).hwm, hwRaised := v.hwRaised } } := fun v =>
    ⟨rfl, rfl, fun _ => rfl, fun _ _ => rfl, fun _ h => h, rfl, ⟨[], rfl⟩, fun _ _ => rfl, rfl, rfl⟩
  simp only [depthMark]
  split
  · exact h { hwm := _, hwRaised := _ }
  split
  · exact h { hwm := _, hwRaised := _ }
  · exact h { hwm := _, hwRaised := _ }

theorem storeRec_eventOnly (code a b c d : Nat) (s : State) : EventOnly s (storeRec code a b c d s).1 := by
  have h : ∀ i q, EventOnly s (if tget (1 : Int) s.cfg (10 * 2 ^ 32 + 3 * 2 ^ 16) == 1 then arcPush 2 i q s else (s, [])).1 := by
    intro i q; split
    · exact arcPush_eventOnly _ _ _ s
    · exact .refl s
  simp only [storeRec]; split
  · exact (h _ _).trans ((log_eventOnly _ _).trans ((setQueue4_eventOnly _ _).trans (depthMark_eventOnly _ _)))
  · exact (h _ _).trans (log_eventOnly _ _)

theorem logRecord_eventOnly (code a b c d : Nat) (s : State) : EventOnly s (logRecord code a b c d s).1 := by
  simp only [logRecord]
  split
  · split
    · refine EventOnly.trans ?_ (bankRec_eventOnly _ _)
      split
      · exact .refl s
      · exact bump_eventOnly _ _ (by decide) s
    · exact bump_eventOnly _ _ (by decide) s
  split
  · split
    · exact (log_eventOnly _ s).trans (bankRec_eventOnly _ _)
    · exact bump_eventOnly _ _ (by decide) s
  have h : EventOnly s (if s.log.full then (false, bump 0xE0018 1 s) else takeToken code s).2 := by
    split
    · exact bump_eventOnly _ _ (by decide) s
    · exact takeToken_eventOnly code s
  generalize (if s.log.full then (false, bump 0xE0018 1 s) else takeToken code s) = r at h ⊢
  split
  · exact h
  split
  · exact h.trans ((bump_eventOnly _ _ (by decide) _).trans ((storeRec_eventOnly ..).trans (log_eventOnly _ _)))
  split
  · exact h.trans ((bump_eventOnly _ _ (by decide) _).trans (bump_eventOnly _ _ (by decide) _))
  split
  · exact h.trans ((storeRec_eventOnly ..).trans (log_eventOnly _ _))
  · exact h.trans (storeRec_eventOnly ..)

theorem foldl_eventOnly {α : Type} (f : State → α → State) (hf : ∀ t e, EventOnly t (f t e)) (l : List α) (s : State) :
    EventOnly s (l.foldl f s) := by
  induction l generalizing s with
  | nil => exact .refl s
  | cons e l ih => exact (hf s e).trans (ih _)

theorem raiseN_eventOnly (n code a b c d : Nat) (s : State) : EventOnly s (raiseN n code a b c d s) := by
  induction n generalizing code a b c d s with
  | zero => exact raiseBit_eventOnly code s
  | succ n ih =>
    refine ((raiseBit_eventOnly code s).trans (logRecord_eventOnly ..)).trans (foldl_eventOnly _ (fun t e => ?_) _ _)
    split
    · exact raiseBit_eventOnly _ t
    · exact ih ..

/-- Raising an event changes nothing else. -/
theorem raise_eventOnly (code a b : Nat) (s : State) : EventOnly s (raise code a b s) := raiseN_eventOnly ..

/-- A source's pending bit stands after its raise, recorded or not (R357). -/
theorem raise_pend (code a b : Nat) (h : code < 128) (s : State) : (raise code a b s).evt.pend.getLsbD code = true := by
  refine (foldl_eventOnly _ (fun t e => ?_) _ _).pend code
    ((logRecord_eventOnly code a b 0 0 (raiseBit code s)).pend code (raiseBit_pend code h s))
  split
  · exact raiseBit_eventOnly _ t
  · exact raiseN_eventOnly ..

theorem raiseAll_eventOnly (ev : List (Nat × Nat × Nat)) (s : State) : EventOnly s (raiseAll ev s) := by
  unfold raiseAll
  refine foldl_eventOnly _ (fun t e => ?_) ev s
  exact raise_eventOnly ..

theorem archive_eventOnly (stream : Nat) (item : List Byte) (seq : Nat) (s : State) : EventOnly s (archive stream item seq s) :=
  (arcPush_eventOnly ..).trans (raiseAll_eventOnly ..)

theorem recordOnly_eventOnly (code a b : Nat) (s : State) : EventOnly s (recordOnly code a b s) := by
  refine (logRecord_eventOnly ..).trans (foldl_eventOnly _ (fun t e => ?_) _ _)
  split
  · exact raiseBit_eventOnly _ t
  · exact raise_eventOnly _ _ _ t

/-! ### The fields raising leaves alone -/

variable {s t : State}

theorem EventOnly.d3hot (h : EventOnly s t) : t.hop.d3hot = s.hop.d3hot := by rw [h.hop]
theorem EventOnly.elapsed (h : EventOnly s t) : t.elapsed = s.elapsed := (congrArg State.elapsed h.rest :)
theorem EventOnly.pending (h : EventOnly s t) : t.pending = s.pending := (congrArg State.pending h.rest :)
theorem EventOnly.cfg (h : EventOnly s t) : t.cfg = s.cfg := (congrArg State.cfg h.rest :)
theorem EventOnly.fan (h : EventOnly s t) : t.fan = s.fan := (congrArg State.fan h.rest :)
theorem EventOnly.pwr (h : EventOnly s t) : t.pwr = s.pwr := (congrArg State.pwr h.rest :)
theorem EventOnly.dev (h : EventOnly s t) : t.dev = s.dev := (congrArg State.dev h.rest :)
theorem EventOnly.led (h : EventOnly s t) : t.led = s.led := (congrArg State.led h.rest :)
theorem EventOnly.ing (h : EventOnly s t) : t.ing = s.ing := (congrArg State.ing h.rest :)
theorem EventOnly.wei (h : EventOnly s t) : t.wei = s.wei := (congrArg State.wei h.rest :)
theorem EventOnly.van (h : EventOnly s t) : t.van = s.van := (congrArg State.van h.rest :)
theorem EventOnly.lea (h : EventOnly s t) : t.lea = s.lea := (congrArg State.lea h.rest :)
theorem EventOnly.tai (h : EventOnly s t) : t.tai = s.tai := (congrArg State.tai h.rest :)
theorem EventOnly.flu (h : EventOnly s t) : t.flu = s.flu := (congrArg State.flu h.rest :)
theorem EventOnly.brk (h : EventOnly s t) : t.brk = s.brk := (congrArg State.brk h.rest :)
theorem EventOnly.sec (h : EventOnly s t) : t.sec = s.sec := (congrArg State.sec h.rest :)
theorem EventOnly.saf (h : EventOnly s t) : t.saf = s.saf := (congrArg State.saf h.rest :)
theorem EventOnly.svc (h : EventOnly s t) : t.svc = s.svc := (congrArg State.svc h.rest :)
theorem EventOnly.chk (h : EventOnly s t) : t.chk = s.chk := (congrArg State.chk h.rest :)
theorem EventOnly.snap (h : EventOnly s t) : t.snap = s.snap := (congrArg State.snap h.rest :)
theorem EventOnly.cut (h : EventOnly s t) : t.cut = s.cut := (congrArg State.cut h.rest :)
theorem EventOnly.free (h : EventOnly s t) : t.free = s.free := (congrArg State.free h.rest :)

theorem EventOnly.dark (h : EventOnly s t) (b : Blk) : dark t b = dark s b := by simp only [Machine.dark, h.pwr, h.dev]
theorem EventOnly.frozen (h : EventOnly s t) (m : Nat) : frozen t m = frozen s m := by simp only [Machine.frozen, h.sec]
theorem EventOnly.pcieHeld (h : EventOnly s t) : pcieHeld t = pcieHeld s := by
  simp only [Machine.pcieHeld, h.d3hot, h.frozen, h.dev]

@[simp] theorem raise_elapsed (c a b : Nat) (s : State) : (raise c a b s).elapsed = s.elapsed := (raise_eventOnly ..).elapsed
@[simp] theorem raise_pending (c a b : Nat) (s : State) : (raise c a b s).pending = s.pending := (raise_eventOnly ..).pending
@[simp] theorem raise_cfg (c a b : Nat) (s : State) : (raise c a b s).cfg = s.cfg := (raise_eventOnly ..).cfg
@[simp] theorem raise_fan (c a b : Nat) (s : State) : (raise c a b s).fan = s.fan := (raise_eventOnly ..).fan
@[simp] theorem raise_pwr (c a b : Nat) (s : State) : (raise c a b s).pwr = s.pwr := (raise_eventOnly ..).pwr
@[simp] theorem raise_dev (c a b : Nat) (s : State) : (raise c a b s).dev = s.dev := (raise_eventOnly ..).dev
@[simp] theorem raise_led (c a b : Nat) (s : State) : (raise c a b s).led = s.led := (raise_eventOnly ..).led
@[simp] theorem raise_ing (c a b : Nat) (s : State) : (raise c a b s).ing = s.ing := (raise_eventOnly ..).ing
@[simp] theorem raise_wei (c a b : Nat) (s : State) : (raise c a b s).wei = s.wei := (raise_eventOnly ..).wei
@[simp] theorem raise_van (c a b : Nat) (s : State) : (raise c a b s).van = s.van := (raise_eventOnly ..).van
@[simp] theorem raise_lea (c a b : Nat) (s : State) : (raise c a b s).lea = s.lea := (raise_eventOnly ..).lea
@[simp] theorem raise_tai (c a b : Nat) (s : State) : (raise c a b s).tai = s.tai := (raise_eventOnly ..).tai
@[simp] theorem raise_flu (c a b : Nat) (s : State) : (raise c a b s).flu = s.flu := (raise_eventOnly ..).flu
@[simp] theorem raise_brk (c a b : Nat) (s : State) : (raise c a b s).brk = s.brk := (raise_eventOnly ..).brk
@[simp] theorem raise_sec (c a b : Nat) (s : State) : (raise c a b s).sec = s.sec := (raise_eventOnly ..).sec
@[simp] theorem raise_saf (c a b : Nat) (s : State) : (raise c a b s).saf = s.saf := (raise_eventOnly ..).saf
@[simp] theorem raise_svc (c a b : Nat) (s : State) : (raise c a b s).svc = s.svc := (raise_eventOnly ..).svc
@[simp] theorem raise_chk (c a b : Nat) (s : State) : (raise c a b s).chk = s.chk := (raise_eventOnly ..).chk
@[simp] theorem raise_snap (c a b : Nat) (s : State) : (raise c a b s).snap = s.snap := (raise_eventOnly ..).snap
@[simp] theorem raise_free (c a b : Nat) (s : State) : (raise c a b s).free = s.free := (raise_eventOnly ..).free

/-- What is in flight on a pair is not touched by a raise. -/
@[simp] theorem raise_inflight (c a b : Nat) (s : State) (p : Nat) : (pair (raise c a b s) p).inflight = (pair s p).inflight := by
  rw [(raise_eventOnly c a b s).pairs p]
@[simp] theorem raise_d3hot (c a b : Nat) (s : State) : (raise c a b s).hop.d3hot = s.hop.d3hot := (raise_eventOnly ..).d3hot

end Sys2Proof.Machine
end

