-- ==== Sys2Proof/Laws/Command.lean ====
section
/-! SUPPORT. The one law of host commands: an accepted command of good form answers what its body answers; and the step's cases. -/

namespace Sys2Proof.Machine

/-- What a transfer reaches is the first part of a buffer it was given. -/
theorem mem_of_mem_reached {b : Nat × Nat} : ∀ {l : List (Nat × Nat)} {n : Nat}, b ∈ reached n l → ∃ a ∈ l, b.1 = a.1 ∧ b.2 ≤ a.2
  | [], _, h => by simp [reached] at h
  | a :: l, n, h => by
    unfold reached at h
    split at h
    · simp at h
    · rcases List.mem_cons.1 h with h | h
      · exact ⟨a, List.mem_cons_self, by simp [h], by simp [h, Nat.min_le_left]⟩
      · obtain ⟨a', h1, h2⟩ := mem_of_mem_reached h
        exact ⟨a', List.mem_cons_of_mem _ h1, h2⟩

/-- A rule that covers an access covers its first part. -/
theorem covers_le {r : FwRule} {addr len len' : Nat} {w : Bool} (hl : len' ≤ len) (h : covers r addr len w = true) :
    covers r addr len' w = true := by
  simp only [covers, Bool.and_eq_true, decide_eq_true_eq] at h ⊢
  exact ⟨⟨h.1.1, by omega⟩, h.2⟩

/-- A granted access's first part is granted. -/
theorem granted_le {s : State} {m addr len len' : Nat} {w : Bool} (hl : len' ≤ len) (h : granted s m addr len w = true) :
    granted s m addr len' w = true := by
  simp only [granted, Bool.and_eq_true, Bool.or_eq_true, List.any_eq_true, decide_eq_true_eq] at h ⊢
  obtain ⟨h1, h2⟩ := h
  exact ⟨h1.imp id (fun ⟨r, h3, h4, h5⟩ => ⟨r, h3, h4, covers_le hl h5⟩), h2.imp id (fun ⟨r, h3, h4⟩ => ⟨r, h3, covers_le hl h4⟩)⟩

/-- What an accepted command is: a host command that starts next, with nothing in its way, and whose writes are granted. -/
theorem accepts_host {i : Instr} {s : State} (h : accepts i s = true) :
    ∃ k, hostCmd i = some k ∧ (!startable k s || (pcieHeld s && needsDma k && (xfault k.c s).isNone)) = false ∧ xfault k.c s = none ∧
      gate k.op s = none ∧ ∀ n, refusedWrite k.c n s = none := by
  unfold accepts at h
  cases hk : hostCmd i with
  | none => simp [hk] at h
  | some k =>
    simp only [hk, Bool.and_eq_true, Bool.or_eq_true, Bool.not_eq_true', Option.isNone_iff_eq_none, List.all_eq_true] at h
    obtain ⟨⟨⟨⟨h1, h2⟩, h3⟩, h4⟩, h5⟩ := h
    refine ⟨k, rfl, ?_, h3, h4, fun n => ?_⟩
    · rcases h2 with h2 | h2 <;> simp [h1, h2]
    · simp only [refusedWrite, List.find?_eq_none]
      intro b hb
      obtain ⟨a, ha, h6, h7⟩ := mem_of_mem_reached hb
      simp [h6, granted_le h7 (h5 a ha)]

/-- What an accepted command of good form leaves, by what its body answers (R365). -/
theorem command_accepted {i : Instr} {k : HostCmd} {form : Bool} {body : State → CmdRes} {s : State}
    (h : accepts i s = true) (hk : hostCmd i = some k) (hf : form = true) :
    command i form body s = (match body s with
      | .ok t r d => finish k.c .ok r d t
      | .done st t r d => finish k.c st r d t
      | .fail st t => reply k.c st 0 k.c.xin.length t
      | .later t => onJob (jobOf k.c s) (fun e => { e with started := true, moved := k.c.xin.length }) t) := by
  obtain ⟨k', h0, h1, h2, h3, h4⟩ := accepts_host h
  obtain rfl : k' = k := Option.some.inj (h0.symm.trans hk)
  simp only [command, hk, runCmd]
  rw [h1, hf, h2, h3]
  cases body s <;> simp [complete, h4]

/-- A malformed command that is otherwise accepted answers BAD_PARAM and changes nothing but its reply (R365). -/
theorem command_malformed {i : Instr} {k : HostCmd} {body : State → CmdRes} {s : State} (h : accepts i s = true)
    (hk : hostCmd i = some k) : command i false body s = reply k.c .badParam 0 0 s := by
  obtain ⟨k', h0, h1, h2, -⟩ := accepts_host h
  obtain rfl : k' = k := Option.some.inj (h0.symm.trans hk)
  simp only [command, hk, runCmd]
  rw [h1, h2]
  rfl

/-- A raise leaves its pending bit, and every one that stood before. -/
@[simp] theorem raised_raise (c a b : Nat) (s : State) (h : c < 128) : raised c (raise c a b s) = true := raise_pend c a b h s

theorem raised_mono {s t : State} (h : EventOnly s t) {c : Nat} (hc : raised c s = true) : raised c t = true := h.pend c hc

/-- A step on an empty queue is one TB period; otherwise the front command runs with the rest waiting. -/
theorem step_nil {s : State} (h : s.pending = []) : step s = .next (tick s) := by simp only [step, h]

theorem step_cons {s : State} {i : Instr} {l : List Instr} (h : s.pending = i :: l) : step s = exec i { s with pending := l } := by
  simp only [step, h]

end Sys2Proof.Machine
end

