-- ==== Sys2Proof/Laws/State.lean ====
section
/-! SUPPORT. Each named update of one part of the state, field by field: what it leaves as it was, and what it puts there. -/

namespace Sys2Proof.Machine

/-! ### `setPair` -/

@[simp] theorem setPair_elapsed (p : Nat) (q : QPair) (s : State) : (setPair p q s).elapsed = s.elapsed := rfl
@[simp] theorem setPair_pending (p : Nat) (q : QPair) (s : State) : (setPair p q s).pending = s.pending := rfl
@[simp] theorem setPair_cfg (p : Nat) (q : QPair) (s : State) : (setPair p q s).cfg = s.cfg := rfl
@[simp] theorem setPair_rc (p : Nat) (q : QPair) (s : State) : (setPair p q s).rc = s.rc := rfl
@[simp] theorem setPair_evt (p : Nat) (q : QPair) (s : State) : (setPair p q s).evt = s.evt := rfl
@[simp] theorem setPair_log (p : Nat) (q : QPair) (s : State) : (setPair p q s).log = s.log := rfl
@[simp] theorem setPair_que (p : Nat) (q : QPair) (s : State) : (setPair p q s).que = s.que := rfl
@[simp] theorem setPair_fan (p : Nat) (q : QPair) (s : State) : (setPair p q s).fan = s.fan := rfl
@[simp] theorem setPair_pwr (p : Nat) (q : QPair) (s : State) : (setPair p q s).pwr = s.pwr := rfl
@[simp] theorem setPair_dev (p : Nat) (q : QPair) (s : State) : (setPair p q s).dev = s.dev := rfl
@[simp] theorem setPair_led (p : Nat) (q : QPair) (s : State) : (setPair p q s).led = s.led := rfl
@[simp] theorem setPair_ing (p : Nat) (q : QPair) (s : State) : (setPair p q s).ing = s.ing := rfl
@[simp] theorem setPair_wei (p : Nat) (q : QPair) (s : State) : (setPair p q s).wei = s.wei := rfl
@[simp] theorem setPair_van (p : Nat) (q : QPair) (s : State) : (setPair p q s).van = s.van := rfl
@[simp] theorem setPair_lea (p : Nat) (q : QPair) (s : State) : (setPair p q s).lea = s.lea := rfl
@[simp] theorem setPair_tai (p : Nat) (q : QPair) (s : State) : (setPair p q s).tai = s.tai := rfl
@[simp] theorem setPair_flu (p : Nat) (q : QPair) (s : State) : (setPair p q s).flu = s.flu := rfl
@[simp] theorem setPair_gra (p : Nat) (q : QPair) (s : State) : (setPair p q s).gra = s.gra := rfl
@[simp] theorem setPair_brk (p : Nat) (q : QPair) (s : State) : (setPair p q s).brk = s.brk := rfl
@[simp] theorem setPair_sec (p : Nat) (q : QPair) (s : State) : (setPair p q s).sec = s.sec := rfl
@[simp] theorem setPair_saf (p : Nat) (q : QPair) (s : State) : (setPair p q s).saf = s.saf := rfl
@[simp] theorem setPair_svc (p : Nat) (q : QPair) (s : State) : (setPair p q s).svc = s.svc := rfl
@[simp] theorem setPair_chk (p : Nat) (q : QPair) (s : State) : (setPair p q s).chk = s.chk := rfl
@[simp] theorem setPair_snap (p : Nat) (q : QPair) (s : State) : (setPair p q s).snap = s.snap := rfl
@[simp] theorem setPair_cut (p : Nat) (q : QPair) (s : State) : (setPair p q s).cut = s.cut := rfl
@[simp] theorem setPair_out (p : Nat) (q : QPair) (s : State) : (setPair p q s).out = s.out := rfl
@[simp] theorem setPair_free (p : Nat) (q : QPair) (s : State) : (setPair p q s).free = s.free := rfl

/-! ### `setQueue` -/

@[simp] theorem setQueue_elapsed (q : Nat) (l : List QItem) (s : State) : (setQueue q l s).elapsed = s.elapsed := rfl
@[simp] theorem setQueue_pending (q : Nat) (l : List QItem) (s : State) : (setQueue q l s).pending = s.pending := rfl
@[simp] theorem setQueue_cfg (q : Nat) (l : List QItem) (s : State) : (setQueue q l s).cfg = s.cfg := rfl
@[simp] theorem setQueue_rc (q : Nat) (l : List QItem) (s : State) : (setQueue q l s).rc = s.rc := rfl
@[simp] theorem setQueue_hop (q : Nat) (l : List QItem) (s : State) : (setQueue q l s).hop = s.hop := rfl
@[simp] theorem setQueue_evt (q : Nat) (l : List QItem) (s : State) : (setQueue q l s).evt = s.evt := rfl
@[simp] theorem setQueue_log (q : Nat) (l : List QItem) (s : State) : (setQueue q l s).log = s.log := rfl
@[simp] theorem setQueue_fan (q : Nat) (l : List QItem) (s : State) : (setQueue q l s).fan = s.fan := rfl
@[simp] theorem setQueue_pwr (q : Nat) (l : List QItem) (s : State) : (setQueue q l s).pwr = s.pwr := rfl
@[simp] theorem setQueue_dev (q : Nat) (l : List QItem) (s : State) : (setQueue q l s).dev = s.dev := rfl
@[simp] theorem setQueue_led (q : Nat) (l : List QItem) (s : State) : (setQueue q l s).led = s.led := rfl
@[simp] theorem setQueue_ing (q : Nat) (l : List QItem) (s : State) : (setQueue q l s).ing = s.ing := rfl
@[simp] theorem setQueue_wei (q : Nat) (l : List QItem) (s : State) : (setQueue q l s).wei = s.wei := rfl
@[simp] theorem setQueue_van (q : Nat) (l : List QItem) (s : State) : (setQueue q l s).van = s.van := rfl
@[simp] theorem setQueue_lea (q : Nat) (l : List QItem) (s : State) : (setQueue q l s).lea = s.lea := rfl
@[simp] theorem setQueue_tai (q : Nat) (l : List QItem) (s : State) : (setQueue q l s).tai = s.tai := rfl
@[simp] theorem setQueue_flu (q : Nat) (l : List QItem) (s : State) : (setQueue q l s).flu = s.flu := rfl
@[simp] theorem setQueue_gra (q : Nat) (l : List QItem) (s : State) : (setQueue q l s).gra = s.gra := rfl
@[simp] theorem setQueue_brk (q : Nat) (l : List QItem) (s : State) : (setQueue q l s).brk = s.brk := rfl
@[simp] theorem setQueue_sec (q : Nat) (l : List QItem) (s : State) : (setQueue q l s).sec = s.sec := rfl
@[simp] theorem setQueue_saf (q : Nat) (l : List QItem) (s : State) : (setQueue q l s).saf = s.saf := rfl
@[simp] theorem setQueue_svc (q : Nat) (l : List QItem) (s : State) : (setQueue q l s).svc = s.svc := rfl
@[simp] theorem setQueue_chk (q : Nat) (l : List QItem) (s : State) : (setQueue q l s).chk = s.chk := rfl
@[simp] theorem setQueue_snap (q : Nat) (l : List QItem) (s : State) : (setQueue q l s).snap = s.snap := rfl
@[simp] theorem setQueue_cut (q : Nat) (l : List QItem) (s : State) : (setQueue q l s).cut = s.cut := rfl
@[simp] theorem setQueue_out (q : Nat) (l : List QItem) (s : State) : (setQueue q l s).out = s.out := rfl
@[simp] theorem setQueue_free (q : Nat) (l : List QItem) (s : State) : (setQueue q l s).free = s.free := rfl

/-! ### `emit` -/

@[simp] theorem emit_elapsed (o : Out) (s : State) : (emit o s).elapsed = s.elapsed := rfl
@[simp] theorem emit_pending (o : Out) (s : State) : (emit o s).pending = s.pending := rfl
@[simp] theorem emit_cfg (o : Out) (s : State) : (emit o s).cfg = s.cfg := rfl
@[simp] theorem emit_rc (o : Out) (s : State) : (emit o s).rc = s.rc := rfl
@[simp] theorem emit_hop (o : Out) (s : State) : (emit o s).hop = s.hop := rfl
@[simp] theorem emit_evt (o : Out) (s : State) : (emit o s).evt = s.evt := rfl
@[simp] theorem emit_log (o : Out) (s : State) : (emit o s).log = s.log := rfl
@[simp] theorem emit_que (o : Out) (s : State) : (emit o s).que = s.que := rfl
@[simp] theorem emit_fan (o : Out) (s : State) : (emit o s).fan = s.fan := rfl
@[simp] theorem emit_pwr (o : Out) (s : State) : (emit o s).pwr = s.pwr := rfl
@[simp] theorem emit_dev (o : Out) (s : State) : (emit o s).dev = s.dev := rfl
@[simp] theorem emit_led (o : Out) (s : State) : (emit o s).led = s.led := rfl
@[simp] theorem emit_ing (o : Out) (s : State) : (emit o s).ing = s.ing := rfl
@[simp] theorem emit_wei (o : Out) (s : State) : (emit o s).wei = s.wei := rfl
@[simp] theorem emit_van (o : Out) (s : State) : (emit o s).van = s.van := rfl
@[simp] theorem emit_lea (o : Out) (s : State) : (emit o s).lea = s.lea := rfl
@[simp] theorem emit_tai (o : Out) (s : State) : (emit o s).tai = s.tai := rfl
@[simp] theorem emit_flu (o : Out) (s : State) : (emit o s).flu = s.flu := rfl
@[simp] theorem emit_gra (o : Out) (s : State) : (emit o s).gra = s.gra := rfl
@[simp] theorem emit_brk (o : Out) (s : State) : (emit o s).brk = s.brk := rfl
@[simp] theorem emit_sec (o : Out) (s : State) : (emit o s).sec = s.sec := rfl
@[simp] theorem emit_saf (o : Out) (s : State) : (emit o s).saf = s.saf := rfl
@[simp] theorem emit_svc (o : Out) (s : State) : (emit o s).svc = s.svc := rfl
@[simp] theorem emit_chk (o : Out) (s : State) : (emit o s).chk = s.chk := rfl
@[simp] theorem emit_snap (o : Out) (s : State) : (emit o s).snap = s.snap := rfl
@[simp] theorem emit_cut (o : Out) (s : State) : (emit o s).cut = s.cut := rfl
@[simp] theorem emit_free (o : Out) (s : State) : (emit o s).free = s.free := rfl

/-! ### `bump` -/

@[simp] theorem bump_elapsed (a n : Nat) (s : State) : (bump a n s).elapsed = s.elapsed := rfl
@[simp] theorem bump_pending (a n : Nat) (s : State) : (bump a n s).pending = s.pending := rfl
@[simp] theorem bump_cfg (a n : Nat) (s : State) : (bump a n s).cfg = s.cfg := rfl
@[simp] theorem bump_hop (a n : Nat) (s : State) : (bump a n s).hop = s.hop := rfl
@[simp] theorem bump_evt (a n : Nat) (s : State) : (bump a n s).evt = s.evt := rfl
@[simp] theorem bump_log (a n : Nat) (s : State) : (bump a n s).log = s.log := rfl
@[simp] theorem bump_que (a n : Nat) (s : State) : (bump a n s).que = s.que := rfl
@[simp] theorem bump_fan (a n : Nat) (s : State) : (bump a n s).fan = s.fan := rfl
@[simp] theorem bump_pwr (a n : Nat) (s : State) : (bump a n s).pwr = s.pwr := rfl
@[simp] theorem bump_dev (a n : Nat) (s : State) : (bump a n s).dev = s.dev := rfl
@[simp] theorem bump_led (a n : Nat) (s : State) : (bump a n s).led = s.led := rfl
@[simp] theorem bump_ing (a n : Nat) (s : State) : (bump a n s).ing = s.ing := rfl
@[simp] theorem bump_wei (a n : Nat) (s : State) : (bump a n s).wei = s.wei := rfl
@[simp] theorem bump_van (a n : Nat) (s : State) : (bump a n s).van = s.van := rfl
@[simp] theorem bump_lea (a n : Nat) (s : State) : (bump a n s).lea = s.lea := rfl
@[simp] theorem bump_tai (a n : Nat) (s : State) : (bump a n s).tai = s.tai := rfl
@[simp] theorem bump_flu (a n : Nat) (s : State) : (bump a n s).flu = s.flu := rfl
@[simp] theorem bump_gra (a n : Nat) (s : State) : (bump a n s).gra = s.gra := rfl
@[simp] theorem bump_brk (a n : Nat) (s : State) : (bump a n s).brk = s.brk := rfl
@[simp] theorem bump_sec (a n : Nat) (s : State) : (bump a n s).sec = s.sec := rfl
@[simp] theorem bump_saf (a n : Nat) (s : State) : (bump a n s).saf = s.saf := rfl
@[simp] theorem bump_svc (a n : Nat) (s : State) : (bump a n s).svc = s.svc := rfl
@[simp] theorem bump_chk (a n : Nat) (s : State) : (bump a n s).chk = s.chk := rfl
@[simp] theorem bump_snap (a n : Nat) (s : State) : (bump a n s).snap = s.snap := rfl
@[simp] theorem bump_cut (a n : Nat) (s : State) : (bump a n s).cut = s.cut := rfl
@[simp] theorem bump_out (a n : Nat) (s : State) : (bump a n s).out = s.out := rfl
@[simp] theorem bump_free (a n : Nat) (s : State) : (bump a n s).free = s.free := rfl

/-! ### `setEntry` -/

@[simp] theorem setEntry_elapsed (i : Nat) (e : Entry) (s : State) : (setEntry i e s).elapsed = s.elapsed := rfl
@[simp] theorem setEntry_pending (i : Nat) (e : Entry) (s : State) : (setEntry i e s).pending = s.pending := rfl
@[simp] theorem setEntry_cfg (i : Nat) (e : Entry) (s : State) : (setEntry i e s).cfg = s.cfg := rfl
@[simp] theorem setEntry_rc (i : Nat) (e : Entry) (s : State) : (setEntry i e s).rc = s.rc := rfl
@[simp] theorem setEntry_hop (i : Nat) (e : Entry) (s : State) : (setEntry i e s).hop = s.hop := rfl
@[simp] theorem setEntry_evt (i : Nat) (e : Entry) (s : State) : (setEntry i e s).evt = s.evt := rfl
@[simp] theorem setEntry_log (i : Nat) (e : Entry) (s : State) : (setEntry i e s).log = s.log := rfl
@[simp] theorem setEntry_que (i : Nat) (e : Entry) (s : State) : (setEntry i e s).que = s.que := rfl
@[simp] theorem setEntry_fan (i : Nat) (e : Entry) (s : State) : (setEntry i e s).fan = s.fan := rfl
@[simp] theorem setEntry_pwr (i : Nat) (e : Entry) (s : State) : (setEntry i e s).pwr = s.pwr := rfl
@[simp] theorem setEntry_dev (i : Nat) (e : Entry) (s : State) : (setEntry i e s).dev = s.dev := rfl
@[simp] theorem setEntry_ing (i : Nat) (e : Entry) (s : State) : (setEntry i e s).ing = s.ing := rfl
@[simp] theorem setEntry_wei (i : Nat) (e : Entry) (s : State) : (setEntry i e s).wei = s.wei := rfl
@[simp] theorem setEntry_van (i : Nat) (e : Entry) (s : State) : (setEntry i e s).van = s.van := rfl
@[simp] theorem setEntry_lea (i : Nat) (e : Entry) (s : State) : (setEntry i e s).lea = s.lea := rfl
@[simp] theorem setEntry_tai (i : Nat) (e : Entry) (s : State) : (setEntry i e s).tai = s.tai := rfl
@[simp] theorem setEntry_flu (i : Nat) (e : Entry) (s : State) : (setEntry i e s).flu = s.flu := rfl
@[simp] theorem setEntry_gra (i : Nat) (e : Entry) (s : State) : (setEntry i e s).gra = s.gra := rfl
@[simp] theorem setEntry_brk (i : Nat) (e : Entry) (s : State) : (setEntry i e s).brk = s.brk := rfl
@[simp] theorem setEntry_sec (i : Nat) (e : Entry) (s : State) : (setEntry i e s).sec = s.sec := rfl
@[simp] theorem setEntry_saf (i : Nat) (e : Entry) (s : State) : (setEntry i e s).saf = s.saf := rfl
@[simp] theorem setEntry_svc (i : Nat) (e : Entry) (s : State) : (setEntry i e s).svc = s.svc := rfl
@[simp] theorem setEntry_chk (i : Nat) (e : Entry) (s : State) : (setEntry i e s).chk = s.chk := rfl
@[simp] theorem setEntry_snap (i : Nat) (e : Entry) (s : State) : (setEntry i e s).snap = s.snap := rfl
@[simp] theorem setEntry_cut (i : Nat) (e : Entry) (s : State) : (setEntry i e s).cut = s.cut := rfl
@[simp] theorem setEntry_out (i : Nat) (e : Entry) (s : State) : (setEntry i e s).out = s.out := rfl
@[simp] theorem setEntry_free (i : Nat) (e : Entry) (s : State) : (setEntry i e s).free = s.free := rfl

/-! ### `setNode` -/

@[simp] theorem setNode_elapsed (k : Nat) (v : Node) (s : State) : (setNode k v s).elapsed = s.elapsed := rfl
@[simp] theorem setNode_pending (k : Nat) (v : Node) (s : State) : (setNode k v s).pending = s.pending := rfl
@[simp] theorem setNode_cfg (k : Nat) (v : Node) (s : State) : (setNode k v s).cfg = s.cfg := rfl
@[simp] theorem setNode_rc (k : Nat) (v : Node) (s : State) : (setNode k v s).rc = s.rc := rfl
@[simp] theorem setNode_hop (k : Nat) (v : Node) (s : State) : (setNode k v s).hop = s.hop := rfl
@[simp] theorem setNode_evt (k : Nat) (v : Node) (s : State) : (setNode k v s).evt = s.evt := rfl
@[simp] theorem setNode_log (k : Nat) (v : Node) (s : State) : (setNode k v s).log = s.log := rfl
@[simp] theorem setNode_que (k : Nat) (v : Node) (s : State) : (setNode k v s).que = s.que := rfl
@[simp] theorem setNode_fan (k : Nat) (v : Node) (s : State) : (setNode k v s).fan = s.fan := rfl
@[simp] theorem setNode_pwr (k : Nat) (v : Node) (s : State) : (setNode k v s).pwr = s.pwr := rfl
@[simp] theorem setNode_dev (k : Nat) (v : Node) (s : State) : (setNode k v s).dev = s.dev := rfl
@[simp] theorem setNode_ing (k : Nat) (v : Node) (s : State) : (setNode k v s).ing = s.ing := rfl
@[simp] theorem setNode_wei (k : Nat) (v : Node) (s : State) : (setNode k v s).wei = s.wei := rfl
@[simp] theorem setNode_van (k : Nat) (v : Node) (s : State) : (setNode k v s).van = s.van := rfl
@[simp] theorem setNode_lea (k : Nat) (v : Node) (s : State) : (setNode k v s).lea = s.lea := rfl
@[simp] theorem setNode_tai (k : Nat) (v : Node) (s : State) : (setNode k v s).tai = s.tai := rfl
@[simp] theorem setNode_flu (k : Nat) (v : Node) (s : State) : (setNode k v s).flu = s.flu := rfl
@[simp] theorem setNode_gra (k : Nat) (v : Node) (s : State) : (setNode k v s).gra = s.gra := rfl
@[simp] theorem setNode_brk (k : Nat) (v : Node) (s : State) : (setNode k v s).brk = s.brk := rfl
@[simp] theorem setNode_sec (k : Nat) (v : Node) (s : State) : (setNode k v s).sec = s.sec := rfl
@[simp] theorem setNode_saf (k : Nat) (v : Node) (s : State) : (setNode k v s).saf = s.saf := rfl
@[simp] theorem setNode_svc (k : Nat) (v : Node) (s : State) : (setNode k v s).svc = s.svc := rfl
@[simp] theorem setNode_chk (k : Nat) (v : Node) (s : State) : (setNode k v s).chk = s.chk := rfl
@[simp] theorem setNode_snap (k : Nat) (v : Node) (s : State) : (setNode k v s).snap = s.snap := rfl
@[simp] theorem setNode_cut (k : Nat) (v : Node) (s : State) : (setNode k v s).cut = s.cut := rfl
@[simp] theorem setNode_out (k : Nat) (v : Node) (s : State) : (setNode k v s).out = s.out := rfl
@[simp] theorem setNode_free (k : Nat) (v : Node) (s : State) : (setNode k v s).free = s.free := rfl

/-! ### `topoUp` -/

@[simp] theorem topoUp_elapsed (s : State) : (topoUp s).elapsed = s.elapsed := rfl
@[simp] theorem topoUp_pending (s : State) : (topoUp s).pending = s.pending := rfl
@[simp] theorem topoUp_cfg (s : State) : (topoUp s).cfg = s.cfg := rfl
@[simp] theorem topoUp_rc (s : State) : (topoUp s).rc = s.rc := rfl
@[simp] theorem topoUp_hop (s : State) : (topoUp s).hop = s.hop := rfl
@[simp] theorem topoUp_evt (s : State) : (topoUp s).evt = s.evt := rfl
@[simp] theorem topoUp_log (s : State) : (topoUp s).log = s.log := rfl
@[simp] theorem topoUp_que (s : State) : (topoUp s).que = s.que := rfl
@[simp] theorem topoUp_fan (s : State) : (topoUp s).fan = s.fan := rfl
@[simp] theorem topoUp_pwr (s : State) : (topoUp s).pwr = s.pwr := rfl
@[simp] theorem topoUp_dev (s : State) : (topoUp s).dev = s.dev := rfl
@[simp] theorem topoUp_ing (s : State) : (topoUp s).ing = s.ing := rfl
@[simp] theorem topoUp_wei (s : State) : (topoUp s).wei = s.wei := rfl
@[simp] theorem topoUp_van (s : State) : (topoUp s).van = s.van := rfl
@[simp] theorem topoUp_lea (s : State) : (topoUp s).lea = s.lea := rfl
@[simp] theorem topoUp_tai (s : State) : (topoUp s).tai = s.tai := rfl
@[simp] theorem topoUp_flu (s : State) : (topoUp s).flu = s.flu := rfl
@[simp] theorem topoUp_gra (s : State) : (topoUp s).gra = s.gra := rfl
@[simp] theorem topoUp_brk (s : State) : (topoUp s).brk = s.brk := rfl
@[simp] theorem topoUp_sec (s : State) : (topoUp s).sec = s.sec := rfl
@[simp] theorem topoUp_saf (s : State) : (topoUp s).saf = s.saf := rfl
@[simp] theorem topoUp_svc (s : State) : (topoUp s).svc = s.svc := rfl
@[simp] theorem topoUp_chk (s : State) : (topoUp s).chk = s.chk := rfl
@[simp] theorem topoUp_snap (s : State) : (topoUp s).snap = s.snap := rfl
@[simp] theorem topoUp_cut (s : State) : (topoUp s).cut = s.cut := rfl
@[simp] theorem topoUp_out (s : State) : (topoUp s).out = s.out := rfl
@[simp] theorem topoUp_free (s : State) : (topoUp s).free = s.free := rfl

/-! ### `setDl` -/

@[simp] theorem setDl_elapsed (i : Nat) (r : DlRec) (s : State) : (setDl i r s).elapsed = s.elapsed := rfl
@[simp] theorem setDl_pending (i : Nat) (r : DlRec) (s : State) : (setDl i r s).pending = s.pending := rfl
@[simp] theorem setDl_cfg (i : Nat) (r : DlRec) (s : State) : (setDl i r s).cfg = s.cfg := rfl
@[simp] theorem setDl_rc (i : Nat) (r : DlRec) (s : State) : (setDl i r s).rc = s.rc := rfl
@[simp] theorem setDl_hop (i : Nat) (r : DlRec) (s : State) : (setDl i r s).hop = s.hop := rfl
@[simp] theorem setDl_evt (i : Nat) (r : DlRec) (s : State) : (setDl i r s).evt = s.evt := rfl
@[simp] theorem setDl_log (i : Nat) (r : DlRec) (s : State) : (setDl i r s).log = s.log := rfl
@[simp] theorem setDl_que (i : Nat) (r : DlRec) (s : State) : (setDl i r s).que = s.que := rfl
@[simp] theorem setDl_fan (i : Nat) (r : DlRec) (s : State) : (setDl i r s).fan = s.fan := rfl
@[simp] theorem setDl_pwr (i : Nat) (r : DlRec) (s : State) : (setDl i r s).pwr = s.pwr := rfl
@[simp] theorem setDl_dev (i : Nat) (r : DlRec) (s : State) : (setDl i r s).dev = s.dev := rfl
@[simp] theorem setDl_led (i : Nat) (r : DlRec) (s : State) : (setDl i r s).led = s.led := rfl
@[simp] theorem setDl_ing (i : Nat) (r : DlRec) (s : State) : (setDl i r s).ing = s.ing := rfl
@[simp] theorem setDl_wei (i : Nat) (r : DlRec) (s : State) : (setDl i r s).wei = s.wei := rfl
@[simp] theorem setDl_van (i : Nat) (r : DlRec) (s : State) : (setDl i r s).van = s.van := rfl
@[simp] theorem setDl_lea (i : Nat) (r : DlRec) (s : State) : (setDl i r s).lea = s.lea := rfl
@[simp] theorem setDl_flu (i : Nat) (r : DlRec) (s : State) : (setDl i r s).flu = s.flu := rfl
@[simp] theorem setDl_gra (i : Nat) (r : DlRec) (s : State) : (setDl i r s).gra = s.gra := rfl
@[simp] theorem setDl_brk (i : Nat) (r : DlRec) (s : State) : (setDl i r s).brk = s.brk := rfl
@[simp] theorem setDl_sec (i : Nat) (r : DlRec) (s : State) : (setDl i r s).sec = s.sec := rfl
@[simp] theorem setDl_saf (i : Nat) (r : DlRec) (s : State) : (setDl i r s).saf = s.saf := rfl
@[simp] theorem setDl_svc (i : Nat) (r : DlRec) (s : State) : (setDl i r s).svc = s.svc := rfl
@[simp] theorem setDl_chk (i : Nat) (r : DlRec) (s : State) : (setDl i r s).chk = s.chk := rfl
@[simp] theorem setDl_snap (i : Nat) (r : DlRec) (s : State) : (setDl i r s).snap = s.snap := rfl
@[simp] theorem setDl_cut (i : Nat) (r : DlRec) (s : State) : (setDl i r s).cut = s.cut := rfl
@[simp] theorem setDl_out (i : Nat) (r : DlRec) (s : State) : (setDl i r s).out = s.out := rfl
@[simp] theorem setDl_free (i : Nat) (r : DlRec) (s : State) : (setDl i r s).free = s.free := rfl

/-! ### `setCamp` -/

@[simp] theorem setCamp_elapsed (c : Nat) (v : Camp) (s : State) : (setCamp c v s).elapsed = s.elapsed := rfl
@[simp] theorem setCamp_pending (c : Nat) (v : Camp) (s : State) : (setCamp c v s).pending = s.pending := rfl
@[simp] theorem setCamp_cfg (c : Nat) (v : Camp) (s : State) : (setCamp c v s).cfg = s.cfg := rfl
@[simp] theorem setCamp_rc (c : Nat) (v : Camp) (s : State) : (setCamp c v s).rc = s.rc := rfl
@[simp] theorem setCamp_hop (c : Nat) (v : Camp) (s : State) : (setCamp c v s).hop = s.hop := rfl
@[simp] theorem setCamp_evt (c : Nat) (v : Camp) (s : State) : (setCamp c v s).evt = s.evt := rfl
@[simp] theorem setCamp_log (c : Nat) (v : Camp) (s : State) : (setCamp c v s).log = s.log := rfl
@[simp] theorem setCamp_que (c : Nat) (v : Camp) (s : State) : (setCamp c v s).que = s.que := rfl
@[simp] theorem setCamp_fan (c : Nat) (v : Camp) (s : State) : (setCamp c v s).fan = s.fan := rfl
@[simp] theorem setCamp_pwr (c : Nat) (v : Camp) (s : State) : (setCamp c v s).pwr = s.pwr := rfl
@[simp] theorem setCamp_dev (c : Nat) (v : Camp) (s : State) : (setCamp c v s).dev = s.dev := rfl
@[simp] theorem setCamp_led (c : Nat) (v : Camp) (s : State) : (setCamp c v s).led = s.led := rfl
@[simp] theorem setCamp_ing (c : Nat) (v : Camp) (s : State) : (setCamp c v s).ing = s.ing := rfl
@[simp] theorem setCamp_wei (c : Nat) (v : Camp) (s : State) : (setCamp c v s).wei = s.wei := rfl
@[simp] theorem setCamp_van (c : Nat) (v : Camp) (s : State) : (setCamp c v s).van = s.van := rfl
@[simp] theorem setCamp_lea (c : Nat) (v : Camp) (s : State) : (setCamp c v s).lea = s.lea := rfl
@[simp] theorem setCamp_flu (c : Nat) (v : Camp) (s : State) : (setCamp c v s).flu = s.flu := rfl
@[simp] theorem setCamp_gra (c : Nat) (v : Camp) (s : State) : (setCamp c v s).gra = s.gra := rfl
@[simp] theorem setCamp_brk (c : Nat) (v : Camp) (s : State) : (setCamp c v s).brk = s.brk := rfl
@[simp] theorem setCamp_sec (c : Nat) (v : Camp) (s : State) : (setCamp c v s).sec = s.sec := rfl
@[simp] theorem setCamp_saf (c : Nat) (v : Camp) (s : State) : (setCamp c v s).saf = s.saf := rfl
@[simp] theorem setCamp_svc (c : Nat) (v : Camp) (s : State) : (setCamp c v s).svc = s.svc := rfl
@[simp] theorem setCamp_chk (c : Nat) (v : Camp) (s : State) : (setCamp c v s).chk = s.chk := rfl
@[simp] theorem setCamp_snap (c : Nat) (v : Camp) (s : State) : (setCamp c v s).snap = s.snap := rfl
@[simp] theorem setCamp_cut (c : Nat) (v : Camp) (s : State) : (setCamp c v s).cut = s.cut := rfl
@[simp] theorem setCamp_out (c : Nat) (v : Camp) (s : State) : (setCamp c v s).out = s.out := rfl
@[simp] theorem setCamp_free (c : Nat) (v : Camp) (s : State) : (setCamp c v s).free = s.free := rfl

/-! ### `setRepair` -/

@[simp] theorem setRepair_elapsed (n : Nat) (v : Repair) (s : State) : (setRepair n v s).elapsed = s.elapsed := rfl
@[simp] theorem setRepair_pending (n : Nat) (v : Repair) (s : State) : (setRepair n v s).pending = s.pending := rfl
@[simp] theorem setRepair_cfg (n : Nat) (v : Repair) (s : State) : (setRepair n v s).cfg = s.cfg := rfl
@[simp] theorem setRepair_rc (n : Nat) (v : Repair) (s : State) : (setRepair n v s).rc = s.rc := rfl
@[simp] theorem setRepair_hop (n : Nat) (v : Repair) (s : State) : (setRepair n v s).hop = s.hop := rfl
@[simp] theorem setRepair_evt (n : Nat) (v : Repair) (s : State) : (setRepair n v s).evt = s.evt := rfl
@[simp] theorem setRepair_log (n : Nat) (v : Repair) (s : State) : (setRepair n v s).log = s.log := rfl
@[simp] theorem setRepair_que (n : Nat) (v : Repair) (s : State) : (setRepair n v s).que = s.que := rfl
@[simp] theorem setRepair_fan (n : Nat) (v : Repair) (s : State) : (setRepair n v s).fan = s.fan := rfl
@[simp] theorem setRepair_pwr (n : Nat) (v : Repair) (s : State) : (setRepair n v s).pwr = s.pwr := rfl
@[simp] theorem setRepair_dev (n : Nat) (v : Repair) (s : State) : (setRepair n v s).dev = s.dev := rfl
@[simp] theorem setRepair_led (n : Nat) (v : Repair) (s : State) : (setRepair n v s).led = s.led := rfl
@[simp] theorem setRepair_ing (n : Nat) (v : Repair) (s : State) : (setRepair n v s).ing = s.ing := rfl
@[simp] theorem setRepair_wei (n : Nat) (v : Repair) (s : State) : (setRepair n v s).wei = s.wei := rfl
@[simp] theorem setRepair_van (n : Nat) (v : Repair) (s : State) : (setRepair n v s).van = s.van := rfl
@[simp] theorem setRepair_lea (n : Nat) (v : Repair) (s : State) : (setRepair n v s).lea = s.lea := rfl
@[simp] theorem setRepair_flu (n : Nat) (v : Repair) (s : State) : (setRepair n v s).flu = s.flu := rfl
@[simp] theorem setRepair_gra (n : Nat) (v : Repair) (s : State) : (setRepair n v s).gra = s.gra := rfl
@[simp] theorem setRepair_brk (n : Nat) (v : Repair) (s : State) : (setRepair n v s).brk = s.brk := rfl
@[simp] theorem setRepair_sec (n : Nat) (v : Repair) (s : State) : (setRepair n v s).sec = s.sec := rfl
@[simp] theorem setRepair_saf (n : Nat) (v : Repair) (s : State) : (setRepair n v s).saf = s.saf := rfl
@[simp] theorem setRepair_svc (n : Nat) (v : Repair) (s : State) : (setRepair n v s).svc = s.svc := rfl
@[simp] theorem setRepair_chk (n : Nat) (v : Repair) (s : State) : (setRepair n v s).chk = s.chk := rfl
@[simp] theorem setRepair_snap (n : Nat) (v : Repair) (s : State) : (setRepair n v s).snap = s.snap := rfl
@[simp] theorem setRepair_cut (n : Nat) (v : Repair) (s : State) : (setRepair n v s).cut = s.cut := rfl
@[simp] theorem setRepair_out (n : Nat) (v : Repair) (s : State) : (setRepair n v s).out = s.out := rfl
@[simp] theorem setRepair_free (n : Nat) (v : Repair) (s : State) : (setRepair n v s).free = s.free := rfl

/-! ### `setGw` -/

@[simp] theorem setGw_elapsed (g : Nat) (v : Gw) (s : State) : (setGw g v s).elapsed = s.elapsed := rfl
@[simp] theorem setGw_pending (g : Nat) (v : Gw) (s : State) : (setGw g v s).pending = s.pending := rfl
@[simp] theorem setGw_cfg (g : Nat) (v : Gw) (s : State) : (setGw g v s).cfg = s.cfg := rfl
@[simp] theorem setGw_rc (g : Nat) (v : Gw) (s : State) : (setGw g v s).rc = s.rc := rfl
@[simp] theorem setGw_hop (g : Nat) (v : Gw) (s : State) : (setGw g v s).hop = s.hop := rfl
@[simp] theorem setGw_evt (g : Nat) (v : Gw) (s : State) : (setGw g v s).evt = s.evt := rfl
@[simp] theorem setGw_log (g : Nat) (v : Gw) (s : State) : (setGw g v s).log = s.log := rfl
@[simp] theorem setGw_que (g : Nat) (v : Gw) (s : State) : (setGw g v s).que = s.que := rfl
@[simp] theorem setGw_fan (g : Nat) (v : Gw) (s : State) : (setGw g v s).fan = s.fan := rfl
@[simp] theorem setGw_pwr (g : Nat) (v : Gw) (s : State) : (setGw g v s).pwr = s.pwr := rfl
@[simp] theorem setGw_dev (g : Nat) (v : Gw) (s : State) : (setGw g v s).dev = s.dev := rfl
@[simp] theorem setGw_led (g : Nat) (v : Gw) (s : State) : (setGw g v s).led = s.led := rfl
@[simp] theorem setGw_wei (g : Nat) (v : Gw) (s : State) : (setGw g v s).wei = s.wei := rfl
@[simp] theorem setGw_van (g : Nat) (v : Gw) (s : State) : (setGw g v s).van = s.van := rfl
@[simp] theorem setGw_lea (g : Nat) (v : Gw) (s : State) : (setGw g v s).lea = s.lea := rfl
@[simp] theorem setGw_tai (g : Nat) (v : Gw) (s : State) : (setGw g v s).tai = s.tai := rfl
@[simp] theorem setGw_flu (g : Nat) (v : Gw) (s : State) : (setGw g v s).flu = s.flu := rfl
@[simp] theorem setGw_gra (g : Nat) (v : Gw) (s : State) : (setGw g v s).gra = s.gra := rfl
@[simp] theorem setGw_brk (g : Nat) (v : Gw) (s : State) : (setGw g v s).brk = s.brk := rfl
@[simp] theorem setGw_sec (g : Nat) (v : Gw) (s : State) : (setGw g v s).sec = s.sec := rfl
@[simp] theorem setGw_saf (g : Nat) (v : Gw) (s : State) : (setGw g v s).saf = s.saf := rfl
@[simp] theorem setGw_svc (g : Nat) (v : Gw) (s : State) : (setGw g v s).svc = s.svc := rfl
@[simp] theorem setGw_chk (g : Nat) (v : Gw) (s : State) : (setGw g v s).chk = s.chk := rfl
@[simp] theorem setGw_snap (g : Nat) (v : Gw) (s : State) : (setGw g v s).snap = s.snap := rfl
@[simp] theorem setGw_cut (g : Nat) (v : Gw) (s : State) : (setGw g v s).cut = s.cut := rfl
@[simp] theorem setGw_out (g : Nat) (v : Gw) (s : State) : (setGw g v s).out = s.out := rfl
@[simp] theorem setGw_free (g : Nat) (v : Gw) (s : State) : (setGw g v s).free = s.free := rfl

/-! ### `setLane` -/

@[simp] theorem setLane_elapsed (l : Nat) (v : Lane) (s : State) : (setLane l v s).elapsed = s.elapsed := rfl
@[simp] theorem setLane_pending (l : Nat) (v : Lane) (s : State) : (setLane l v s).pending = s.pending := rfl
@[simp] theorem setLane_cfg (l : Nat) (v : Lane) (s : State) : (setLane l v s).cfg = s.cfg := rfl
@[simp] theorem setLane_rc (l : Nat) (v : Lane) (s : State) : (setLane l v s).rc = s.rc := rfl
@[simp] theorem setLane_hop (l : Nat) (v : Lane) (s : State) : (setLane l v s).hop = s.hop := rfl
@[simp] theorem setLane_evt (l : Nat) (v : Lane) (s : State) : (setLane l v s).evt = s.evt := rfl
@[simp] theorem setLane_log (l : Nat) (v : Lane) (s : State) : (setLane l v s).log = s.log := rfl
@[simp] theorem setLane_que (l : Nat) (v : Lane) (s : State) : (setLane l v s).que = s.que := rfl
@[simp] theorem setLane_fan (l : Nat) (v : Lane) (s : State) : (setLane l v s).fan = s.fan := rfl
@[simp] theorem setLane_pwr (l : Nat) (v : Lane) (s : State) : (setLane l v s).pwr = s.pwr := rfl
@[simp] theorem setLane_dev (l : Nat) (v : Lane) (s : State) : (setLane l v s).dev = s.dev := rfl
@[simp] theorem setLane_led (l : Nat) (v : Lane) (s : State) : (setLane l v s).led = s.led := rfl
@[simp] theorem setLane_wei (l : Nat) (v : Lane) (s : State) : (setLane l v s).wei = s.wei := rfl
@[simp] theorem setLane_van (l : Nat) (v : Lane) (s : State) : (setLane l v s).van = s.van := rfl
@[simp] theorem setLane_lea (l : Nat) (v : Lane) (s : State) : (setLane l v s).lea = s.lea := rfl
@[simp] theorem setLane_tai (l : Nat) (v : Lane) (s : State) : (setLane l v s).tai = s.tai := rfl
@[simp] theorem setLane_flu (l : Nat) (v : Lane) (s : State) : (setLane l v s).flu = s.flu := rfl
@[simp] theorem setLane_gra (l : Nat) (v : Lane) (s : State) : (setLane l v s).gra = s.gra := rfl
@[simp] theorem setLane_brk (l : Nat) (v : Lane) (s : State) : (setLane l v s).brk = s.brk := rfl
@[simp] theorem setLane_sec (l : Nat) (v : Lane) (s : State) : (setLane l v s).sec = s.sec := rfl
@[simp] theorem setLane_saf (l : Nat) (v : Lane) (s : State) : (setLane l v s).saf = s.saf := rfl
@[simp] theorem setLane_svc (l : Nat) (v : Lane) (s : State) : (setLane l v s).svc = s.svc := rfl
@[simp] theorem setLane_chk (l : Nat) (v : Lane) (s : State) : (setLane l v s).chk = s.chk := rfl
@[simp] theorem setLane_snap (l : Nat) (v : Lane) (s : State) : (setLane l v s).snap = s.snap := rfl
@[simp] theorem setLane_cut (l : Nat) (v : Lane) (s : State) : (setLane l v s).cut = s.cut := rfl
@[simp] theorem setLane_out (l : Nat) (v : Lane) (s : State) : (setLane l v s).out = s.out := rfl
@[simp] theorem setLane_free (l : Nat) (v : Lane) (s : State) : (setLane l v s).free = s.free := rfl

/-! ### `setReserve` -/

@[simp] theorem setReserve_elapsed (k : Nat) (r : Reserve) (s : State) : (setReserve k r s).elapsed = s.elapsed := rfl
@[simp] theorem setReserve_pending (k : Nat) (r : Reserve) (s : State) : (setReserve k r s).pending = s.pending := rfl
@[simp] theorem setReserve_cfg (k : Nat) (r : Reserve) (s : State) : (setReserve k r s).cfg = s.cfg := rfl
@[simp] theorem setReserve_rc (k : Nat) (r : Reserve) (s : State) : (setReserve k r s).rc = s.rc := rfl
@[simp] theorem setReserve_hop (k : Nat) (r : Reserve) (s : State) : (setReserve k r s).hop = s.hop := rfl
@[simp] theorem setReserve_evt (k : Nat) (r : Reserve) (s : State) : (setReserve k r s).evt = s.evt := rfl
@[simp] theorem setReserve_log (k : Nat) (r : Reserve) (s : State) : (setReserve k r s).log = s.log := rfl
@[simp] theorem setReserve_que (k : Nat) (r : Reserve) (s : State) : (setReserve k r s).que = s.que := rfl
@[simp] theorem setReserve_fan (k : Nat) (r : Reserve) (s : State) : (setReserve k r s).fan = s.fan := rfl
@[simp] theorem setReserve_pwr (k : Nat) (r : Reserve) (s : State) : (setReserve k r s).pwr = s.pwr := rfl
@[simp] theorem setReserve_dev (k : Nat) (r : Reserve) (s : State) : (setReserve k r s).dev = s.dev := rfl
@[simp] theorem setReserve_led (k : Nat) (r : Reserve) (s : State) : (setReserve k r s).led = s.led := rfl
@[simp] theorem setReserve_wei (k : Nat) (r : Reserve) (s : State) : (setReserve k r s).wei = s.wei := rfl
@[simp] theorem setReserve_van (k : Nat) (r : Reserve) (s : State) : (setReserve k r s).van = s.van := rfl
@[simp] theorem setReserve_lea (k : Nat) (r : Reserve) (s : State) : (setReserve k r s).lea = s.lea := rfl
@[simp] theorem setReserve_tai (k : Nat) (r : Reserve) (s : State) : (setReserve k r s).tai = s.tai := rfl
@[simp] theorem setReserve_flu (k : Nat) (r : Reserve) (s : State) : (setReserve k r s).flu = s.flu := rfl
@[simp] theorem setReserve_gra (k : Nat) (r : Reserve) (s : State) : (setReserve k r s).gra = s.gra := rfl
@[simp] theorem setReserve_brk (k : Nat) (r : Reserve) (s : State) : (setReserve k r s).brk = s.brk := rfl
@[simp] theorem setReserve_sec (k : Nat) (r : Reserve) (s : State) : (setReserve k r s).sec = s.sec := rfl
@[simp] theorem setReserve_saf (k : Nat) (r : Reserve) (s : State) : (setReserve k r s).saf = s.saf := rfl
@[simp] theorem setReserve_svc (k : Nat) (r : Reserve) (s : State) : (setReserve k r s).svc = s.svc := rfl
@[simp] theorem setReserve_chk (k : Nat) (r : Reserve) (s : State) : (setReserve k r s).chk = s.chk := rfl
@[simp] theorem setReserve_snap (k : Nat) (r : Reserve) (s : State) : (setReserve k r s).snap = s.snap := rfl
@[simp] theorem setReserve_cut (k : Nat) (r : Reserve) (s : State) : (setReserve k r s).cut = s.cut := rfl
@[simp] theorem setReserve_out (k : Nat) (r : Reserve) (s : State) : (setReserve k r s).out = s.out := rfl
@[simp] theorem setReserve_free (k : Nat) (r : Reserve) (s : State) : (setReserve k r s).free = s.free := rfl

/-! ### `setVport` -/

@[simp] theorem setVport_elapsed (p : Nat) (v : VPort) (s : State) : (setVport p v s).elapsed = s.elapsed := rfl
@[simp] theorem setVport_pending (p : Nat) (v : VPort) (s : State) : (setVport p v s).pending = s.pending := rfl
@[simp] theorem setVport_cfg (p : Nat) (v : VPort) (s : State) : (setVport p v s).cfg = s.cfg := rfl
@[simp] theorem setVport_rc (p : Nat) (v : VPort) (s : State) : (setVport p v s).rc = s.rc := rfl
@[simp] theorem setVport_hop (p : Nat) (v : VPort) (s : State) : (setVport p v s).hop = s.hop := rfl
@[simp] theorem setVport_evt (p : Nat) (v : VPort) (s : State) : (setVport p v s).evt = s.evt := rfl
@[simp] theorem setVport_log (p : Nat) (v : VPort) (s : State) : (setVport p v s).log = s.log := rfl
@[simp] theorem setVport_que (p : Nat) (v : VPort) (s : State) : (setVport p v s).que = s.que := rfl
@[simp] theorem setVport_fan (p : Nat) (v : VPort) (s : State) : (setVport p v s).fan = s.fan := rfl
@[simp] theorem setVport_pwr (p : Nat) (v : VPort) (s : State) : (setVport p v s).pwr = s.pwr := rfl
@[simp] theorem setVport_dev (p : Nat) (v : VPort) (s : State) : (setVport p v s).dev = s.dev := rfl
@[simp] theorem setVport_led (p : Nat) (v : VPort) (s : State) : (setVport p v s).led = s.led := rfl
@[simp] theorem setVport_ing (p : Nat) (v : VPort) (s : State) : (setVport p v s).ing = s.ing := rfl
@[simp] theorem setVport_wei (p : Nat) (v : VPort) (s : State) : (setVport p v s).wei = s.wei := rfl
@[simp] theorem setVport_lea (p : Nat) (v : VPort) (s : State) : (setVport p v s).lea = s.lea := rfl
@[simp] theorem setVport_tai (p : Nat) (v : VPort) (s : State) : (setVport p v s).tai = s.tai := rfl
@[simp] theorem setVport_flu (p : Nat) (v : VPort) (s : State) : (setVport p v s).flu = s.flu := rfl
@[simp] theorem setVport_gra (p : Nat) (v : VPort) (s : State) : (setVport p v s).gra = s.gra := rfl
@[simp] theorem setVport_brk (p : Nat) (v : VPort) (s : State) : (setVport p v s).brk = s.brk := rfl
@[simp] theorem setVport_sec (p : Nat) (v : VPort) (s : State) : (setVport p v s).sec = s.sec := rfl
@[simp] theorem setVport_saf (p : Nat) (v : VPort) (s : State) : (setVport p v s).saf = s.saf := rfl
@[simp] theorem setVport_svc (p : Nat) (v : VPort) (s : State) : (setVport p v s).svc = s.svc := rfl
@[simp] theorem setVport_chk (p : Nat) (v : VPort) (s : State) : (setVport p v s).chk = s.chk := rfl
@[simp] theorem setVport_snap (p : Nat) (v : VPort) (s : State) : (setVport p v s).snap = s.snap := rfl
@[simp] theorem setVport_cut (p : Nat) (v : VPort) (s : State) : (setVport p v s).cut = s.cut := rfl
@[simp] theorem setVport_out (p : Nat) (v : VPort) (s : State) : (setVport p v s).out = s.out := rfl
@[simp] theorem setVport_free (p : Nat) (v : VPort) (s : State) : (setVport p v s).free = s.free := rfl

/-! ### `setLport` -/

@[simp] theorem setLport_elapsed (p : Nat) (v : LPort) (s : State) : (setLport p v s).elapsed = s.elapsed := rfl
@[simp] theorem setLport_pending (p : Nat) (v : LPort) (s : State) : (setLport p v s).pending = s.pending := rfl
@[simp] theorem setLport_cfg (p : Nat) (v : LPort) (s : State) : (setLport p v s).cfg = s.cfg := rfl
@[simp] theorem setLport_rc (p : Nat) (v : LPort) (s : State) : (setLport p v s).rc = s.rc := rfl
@[simp] theorem setLport_hop (p : Nat) (v : LPort) (s : State) : (setLport p v s).hop = s.hop := rfl
@[simp] theorem setLport_evt (p : Nat) (v : LPort) (s : State) : (setLport p v s).evt = s.evt := rfl
@[simp] theorem setLport_log (p : Nat) (v : LPort) (s : State) : (setLport p v s).log = s.log := rfl
@[simp] theorem setLport_que (p : Nat) (v : LPort) (s : State) : (setLport p v s).que = s.que := rfl
@[simp] theorem setLport_fan (p : Nat) (v : LPort) (s : State) : (setLport p v s).fan = s.fan := rfl
@[simp] theorem setLport_pwr (p : Nat) (v : LPort) (s : State) : (setLport p v s).pwr = s.pwr := rfl
@[simp] theorem setLport_dev (p : Nat) (v : LPort) (s : State) : (setLport p v s).dev = s.dev := rfl
@[simp] theorem setLport_led (p : Nat) (v : LPort) (s : State) : (setLport p v s).led = s.led := rfl
@[simp] theorem setLport_ing (p : Nat) (v : LPort) (s : State) : (setLport p v s).ing = s.ing := rfl
@[simp] theorem setLport_wei (p : Nat) (v : LPort) (s : State) : (setLport p v s).wei = s.wei := rfl
@[simp] theorem setLport_van (p : Nat) (v : LPort) (s : State) : (setLport p v s).van = s.van := rfl
@[simp] theorem setLport_tai (p : Nat) (v : LPort) (s : State) : (setLport p v s).tai = s.tai := rfl
@[simp] theorem setLport_flu (p : Nat) (v : LPort) (s : State) : (setLport p v s).flu = s.flu := rfl
@[simp] theorem setLport_gra (p : Nat) (v : LPort) (s : State) : (setLport p v s).gra = s.gra := rfl
@[simp] theorem setLport_brk (p : Nat) (v : LPort) (s : State) : (setLport p v s).brk = s.brk := rfl
@[simp] theorem setLport_sec (p : Nat) (v : LPort) (s : State) : (setLport p v s).sec = s.sec := rfl
@[simp] theorem setLport_saf (p : Nat) (v : LPort) (s : State) : (setLport p v s).saf = s.saf := rfl
@[simp] theorem setLport_svc (p : Nat) (v : LPort) (s : State) : (setLport p v s).svc = s.svc := rfl
@[simp] theorem setLport_chk (p : Nat) (v : LPort) (s : State) : (setLport p v s).chk = s.chk := rfl
@[simp] theorem setLport_snap (p : Nat) (v : LPort) (s : State) : (setLport p v s).snap = s.snap := rfl
@[simp] theorem setLport_cut (p : Nat) (v : LPort) (s : State) : (setLport p v s).cut = s.cut := rfl
@[simp] theorem setLport_out (p : Nat) (v : LPort) (s : State) : (setLport p v s).out = s.out := rfl
@[simp] theorem setLport_free (p : Nat) (v : LPort) (s : State) : (setLport p v s).free = s.free := rfl

/-! ### `setWnode` -/

@[simp] theorem setWnode_elapsed (k : Nat) (v : WNode) (s : State) : (setWnode k v s).elapsed = s.elapsed := rfl
@[simp] theorem setWnode_pending (k : Nat) (v : WNode) (s : State) : (setWnode k v s).pending = s.pending := rfl
@[simp] theorem setWnode_cfg (k : Nat) (v : WNode) (s : State) : (setWnode k v s).cfg = s.cfg := rfl
@[simp] theorem setWnode_rc (k : Nat) (v : WNode) (s : State) : (setWnode k v s).rc = s.rc := rfl
@[simp] theorem setWnode_hop (k : Nat) (v : WNode) (s : State) : (setWnode k v s).hop = s.hop := rfl
@[simp] theorem setWnode_evt (k : Nat) (v : WNode) (s : State) : (setWnode k v s).evt = s.evt := rfl
@[simp] theorem setWnode_log (k : Nat) (v : WNode) (s : State) : (setWnode k v s).log = s.log := rfl
@[simp] theorem setWnode_que (k : Nat) (v : WNode) (s : State) : (setWnode k v s).que = s.que := rfl
@[simp] theorem setWnode_fan (k : Nat) (v : WNode) (s : State) : (setWnode k v s).fan = s.fan := rfl
@[simp] theorem setWnode_pwr (k : Nat) (v : WNode) (s : State) : (setWnode k v s).pwr = s.pwr := rfl
@[simp] theorem setWnode_dev (k : Nat) (v : WNode) (s : State) : (setWnode k v s).dev = s.dev := rfl
@[simp] theorem setWnode_led (k : Nat) (v : WNode) (s : State) : (setWnode k v s).led = s.led := rfl
@[simp] theorem setWnode_ing (k : Nat) (v : WNode) (s : State) : (setWnode k v s).ing = s.ing := rfl
@[simp] theorem setWnode_van (k : Nat) (v : WNode) (s : State) : (setWnode k v s).van = s.van := rfl
@[simp] theorem setWnode_lea (k : Nat) (v : WNode) (s : State) : (setWnode k v s).lea = s.lea := rfl
@[simp] theorem setWnode_tai (k : Nat) (v : WNode) (s : State) : (setWnode k v s).tai = s.tai := rfl
@[simp] theorem setWnode_flu (k : Nat) (v : WNode) (s : State) : (setWnode k v s).flu = s.flu := rfl
@[simp] theorem setWnode_gra (k : Nat) (v : WNode) (s : State) : (setWnode k v s).gra = s.gra := rfl
@[simp] theorem setWnode_brk (k : Nat) (v : WNode) (s : State) : (setWnode k v s).brk = s.brk := rfl
@[simp] theorem setWnode_sec (k : Nat) (v : WNode) (s : State) : (setWnode k v s).sec = s.sec := rfl
@[simp] theorem setWnode_saf (k : Nat) (v : WNode) (s : State) : (setWnode k v s).saf = s.saf := rfl
@[simp] theorem setWnode_svc (k : Nat) (v : WNode) (s : State) : (setWnode k v s).svc = s.svc := rfl
@[simp] theorem setWnode_chk (k : Nat) (v : WNode) (s : State) : (setWnode k v s).chk = s.chk := rfl
@[simp] theorem setWnode_snap (k : Nat) (v : WNode) (s : State) : (setWnode k v s).snap = s.snap := rfl
@[simp] theorem setWnode_cut (k : Nat) (v : WNode) (s : State) : (setWnode k v s).cut = s.cut := rfl
@[simp] theorem setWnode_out (k : Nat) (v : WNode) (s : State) : (setWnode k v s).out = s.out := rfl
@[simp] theorem setWnode_free (k : Nat) (v : WNode) (s : State) : (setWnode k v s).free = s.free := rfl

/-! ### `setFluCh` -/

@[simp] theorem setFluCh_elapsed (c : Nat) (v : FluCh) (s : State) : (setFluCh c v s).elapsed = s.elapsed := rfl
@[simp] theorem setFluCh_pending (c : Nat) (v : FluCh) (s : State) : (setFluCh c v s).pending = s.pending := rfl
@[simp] theorem setFluCh_cfg (c : Nat) (v : FluCh) (s : State) : (setFluCh c v s).cfg = s.cfg := rfl
@[simp] theorem setFluCh_rc (c : Nat) (v : FluCh) (s : State) : (setFluCh c v s).rc = s.rc := rfl
@[simp] theorem setFluCh_hop (c : Nat) (v : FluCh) (s : State) : (setFluCh c v s).hop = s.hop := rfl
@[simp] theorem setFluCh_evt (c : Nat) (v : FluCh) (s : State) : (setFluCh c v s).evt = s.evt := rfl
@[simp] theorem setFluCh_log (c : Nat) (v : FluCh) (s : State) : (setFluCh c v s).log = s.log := rfl
@[simp] theorem setFluCh_que (c : Nat) (v : FluCh) (s : State) : (setFluCh c v s).que = s.que := rfl
@[simp] theorem setFluCh_fan (c : Nat) (v : FluCh) (s : State) : (setFluCh c v s).fan = s.fan := rfl
@[simp] theorem setFluCh_pwr (c : Nat) (v : FluCh) (s : State) : (setFluCh c v s).pwr = s.pwr := rfl
@[simp] theorem setFluCh_dev (c : Nat) (v : FluCh) (s : State) : (setFluCh c v s).dev = s.dev := rfl
@[simp] theorem setFluCh_led (c : Nat) (v : FluCh) (s : State) : (setFluCh c v s).led = s.led := rfl
@[simp] theorem setFluCh_ing (c : Nat) (v : FluCh) (s : State) : (setFluCh c v s).ing = s.ing := rfl
@[simp] theorem setFluCh_wei (c : Nat) (v : FluCh) (s : State) : (setFluCh c v s).wei = s.wei := rfl
@[simp] theorem setFluCh_van (c : Nat) (v : FluCh) (s : State) : (setFluCh c v s).van = s.van := rfl
@[simp] theorem setFluCh_lea (c : Nat) (v : FluCh) (s : State) : (setFluCh c v s).lea = s.lea := rfl
@[simp] theorem setFluCh_tai (c : Nat) (v : FluCh) (s : State) : (setFluCh c v s).tai = s.tai := rfl
@[simp] theorem setFluCh_gra (c : Nat) (v : FluCh) (s : State) : (setFluCh c v s).gra = s.gra := rfl
@[simp] theorem setFluCh_brk (c : Nat) (v : FluCh) (s : State) : (setFluCh c v s).brk = s.brk := rfl
@[simp] theorem setFluCh_sec (c : Nat) (v : FluCh) (s : State) : (setFluCh c v s).sec = s.sec := rfl
@[simp] theorem setFluCh_saf (c : Nat) (v : FluCh) (s : State) : (setFluCh c v s).saf = s.saf := rfl
@[simp] theorem setFluCh_svc (c : Nat) (v : FluCh) (s : State) : (setFluCh c v s).svc = s.svc := rfl
@[simp] theorem setFluCh_chk (c : Nat) (v : FluCh) (s : State) : (setFluCh c v s).chk = s.chk := rfl
@[simp] theorem setFluCh_snap (c : Nat) (v : FluCh) (s : State) : (setFluCh c v s).snap = s.snap := rfl
@[simp] theorem setFluCh_cut (c : Nat) (v : FluCh) (s : State) : (setFluCh c v s).cut = s.cut := rfl
@[simp] theorem setFluCh_out (c : Nat) (v : FluCh) (s : State) : (setFluCh c v s).out = s.out := rfl
@[simp] theorem setFluCh_free (c : Nat) (v : FluCh) (s : State) : (setFluCh c v s).free = s.free := rfl

/-! ### `setChk` -/

@[simp] theorem setChk_elapsed (c : Chan) (s : State) : (setChk c s).elapsed = s.elapsed := rfl
@[simp] theorem setChk_pending (c : Chan) (s : State) : (setChk c s).pending = s.pending := rfl
@[simp] theorem setChk_cfg (c : Chan) (s : State) : (setChk c s).cfg = s.cfg := rfl
@[simp] theorem setChk_rc (c : Chan) (s : State) : (setChk c s).rc = s.rc := rfl
@[simp] theorem setChk_hop (c : Chan) (s : State) : (setChk c s).hop = s.hop := rfl
@[simp] theorem setChk_evt (c : Chan) (s : State) : (setChk c s).evt = s.evt := rfl
@[simp] theorem setChk_log (c : Chan) (s : State) : (setChk c s).log = s.log := rfl
@[simp] theorem setChk_que (c : Chan) (s : State) : (setChk c s).que = s.que := rfl
@[simp] theorem setChk_fan (c : Chan) (s : State) : (setChk c s).fan = s.fan := rfl
@[simp] theorem setChk_pwr (c : Chan) (s : State) : (setChk c s).pwr = s.pwr := rfl
@[simp] theorem setChk_dev (c : Chan) (s : State) : (setChk c s).dev = s.dev := rfl
@[simp] theorem setChk_led (c : Chan) (s : State) : (setChk c s).led = s.led := rfl
@[simp] theorem setChk_ing (c : Chan) (s : State) : (setChk c s).ing = s.ing := rfl
@[simp] theorem setChk_wei (c : Chan) (s : State) : (setChk c s).wei = s.wei := rfl
@[simp] theorem setChk_van (c : Chan) (s : State) : (setChk c s).van = s.van := rfl
@[simp] theorem setChk_lea (c : Chan) (s : State) : (setChk c s).lea = s.lea := rfl
@[simp] theorem setChk_tai (c : Chan) (s : State) : (setChk c s).tai = s.tai := rfl
@[simp] theorem setChk_flu (c : Chan) (s : State) : (setChk c s).flu = s.flu := rfl
@[simp] theorem setChk_brk (c : Chan) (s : State) : (setChk c s).brk = s.brk := rfl
@[simp] theorem setChk_sec (c : Chan) (s : State) : (setChk c s).sec = s.sec := rfl
@[simp] theorem setChk_saf (c : Chan) (s : State) : (setChk c s).saf = s.saf := rfl
@[simp] theorem setChk_svc (c : Chan) (s : State) : (setChk c s).svc = s.svc := rfl
@[simp] theorem setChk_chk (c : Chan) (s : State) : (setChk c s).chk = s.chk := rfl
@[simp] theorem setChk_snap (c : Chan) (s : State) : (setChk c s).snap = s.snap := rfl
@[simp] theorem setChk_cut (c : Chan) (s : State) : (setChk c s).cut = s.cut := rfl
@[simp] theorem setChk_out (c : Chan) (s : State) : (setChk c s).out = s.out := rfl
@[simp] theorem setChk_free (c : Chan) (s : State) : (setChk c s).free = s.free := rfl

/-! ### `drawFree` -/

@[simp] theorem drawFree_elapsed (w : Nat) (s : State) : (drawFree w s).2.elapsed = s.elapsed := rfl
@[simp] theorem drawFree_pending (w : Nat) (s : State) : (drawFree w s).2.pending = s.pending := rfl
@[simp] theorem drawFree_cfg (w : Nat) (s : State) : (drawFree w s).2.cfg = s.cfg := rfl
@[simp] theorem drawFree_rc (w : Nat) (s : State) : (drawFree w s).2.rc = s.rc := rfl
@[simp] theorem drawFree_hop (w : Nat) (s : State) : (drawFree w s).2.hop = s.hop := rfl
@[simp] theorem drawFree_evt (w : Nat) (s : State) : (drawFree w s).2.evt = s.evt := rfl
@[simp] theorem drawFree_log (w : Nat) (s : State) : (drawFree w s).2.log = s.log := rfl
@[simp] theorem drawFree_que (w : Nat) (s : State) : (drawFree w s).2.que = s.que := rfl
@[simp] theorem drawFree_fan (w : Nat) (s : State) : (drawFree w s).2.fan = s.fan := rfl
@[simp] theorem drawFree_pwr (w : Nat) (s : State) : (drawFree w s).2.pwr = s.pwr := rfl
@[simp] theorem drawFree_dev (w : Nat) (s : State) : (drawFree w s).2.dev = s.dev := rfl
@[simp] theorem drawFree_led (w : Nat) (s : State) : (drawFree w s).2.led = s.led := rfl
@[simp] theorem drawFree_ing (w : Nat) (s : State) : (drawFree w s).2.ing = s.ing := rfl
@[simp] theorem drawFree_wei (w : Nat) (s : State) : (drawFree w s).2.wei = s.wei := rfl
@[simp] theorem drawFree_van (w : Nat) (s : State) : (drawFree w s).2.van = s.van := rfl
@[simp] theorem drawFree_lea (w : Nat) (s : State) : (drawFree w s).2.lea = s.lea := rfl
@[simp] theorem drawFree_tai (w : Nat) (s : State) : (drawFree w s).2.tai = s.tai := rfl
@[simp] theorem drawFree_flu (w : Nat) (s : State) : (drawFree w s).2.flu = s.flu := rfl
@[simp] theorem drawFree_gra (w : Nat) (s : State) : (drawFree w s).2.gra = s.gra := rfl
@[simp] theorem drawFree_brk (w : Nat) (s : State) : (drawFree w s).2.brk = s.brk := rfl
@[simp] theorem drawFree_sec (w : Nat) (s : State) : (drawFree w s).2.sec = s.sec := rfl
@[simp] theorem drawFree_saf (w : Nat) (s : State) : (drawFree w s).2.saf = s.saf := rfl
@[simp] theorem drawFree_svc (w : Nat) (s : State) : (drawFree w s).2.svc = s.svc := rfl
@[simp] theorem drawFree_chk (w : Nat) (s : State) : (drawFree w s).2.chk = s.chk := rfl
@[simp] theorem drawFree_snap (w : Nat) (s : State) : (drawFree w s).2.snap = s.snap := rfl
@[simp] theorem drawFree_cut (w : Nat) (s : State) : (drawFree w s).2.cut = s.cut := rfl
@[simp] theorem drawFree_out (w : Nat) (s : State) : (drawFree w s).2.out = s.out := rfl
@[simp] theorem drawFree_free (w : Nat) (s : State) : (drawFree w s).2.free = s.free + 1 := rfl

/-! ### Reading back -/

@[simp] theorem pair_setPair_same (p : Nat) (q : QPair) (s : State) : pair (setPair p q s) p = q := tget_tset_same _ _ _ _
theorem pair_setPair_other (p : Nat) (q : QPair) (s : State) {j : Nat} (h : j ≠ p) : pair (setPair p q s) j = pair s j := tget_tset_other _ _ _ _ _ h
@[simp] theorem queue_setQueue_same (p : Nat) (q : List QItem) (s : State) : queue (setQueue p q s) p = q := tget_tset_same _ _ _ _
theorem queue_setQueue_other (p : Nat) (q : List QItem) (s : State) {j : Nat} (h : j ≠ p) : queue (setQueue p q s) j = queue s j := tget_tset_other _ _ _ _ _ h
@[simp] theorem entry_setEntry_same (p : Nat) (q : Entry) (s : State) : entry (setEntry p q s) p = q := tget_tset_same _ _ _ _
theorem entry_setEntry_other (p : Nat) (q : Entry) (s : State) {j : Nat} (h : j ≠ p) : entry (setEntry p q s) j = entry s j := tget_tset_other _ _ _ _ _ h
@[simp] theorem node_setNode_same (p : Nat) (q : Node) (s : State) : node (setNode p q s) p = q := tget_tset_same _ _ _ _
theorem node_setNode_other (p : Nat) (q : Node) (s : State) {j : Nat} (h : j ≠ p) : node (setNode p q s) j = node s j := tget_tset_other _ _ _ _ _ h
@[simp] theorem dl_setDl_same (p : Nat) (q : DlRec) (s : State) : dl (setDl p q s) p = q := tget_tset_same _ _ _ _
theorem dl_setDl_other (p : Nat) (q : DlRec) (s : State) {j : Nat} (h : j ≠ p) : dl (setDl p q s) j = dl s j := tget_tset_other _ _ _ _ _ h
@[simp] theorem camp_setCamp_same (p : Nat) (q : Camp) (s : State) : camp (setCamp p q s) p = q := tget_tset_same _ _ _ _
theorem camp_setCamp_other (p : Nat) (q : Camp) (s : State) {j : Nat} (h : j ≠ p) : camp (setCamp p q s) j = camp s j := tget_tset_other _ _ _ _ _ h
@[simp] theorem repair_setRepair_same (p : Nat) (q : Repair) (s : State) : repair (setRepair p q s) p = q := tget_tset_same _ _ _ _
theorem repair_setRepair_other (p : Nat) (q : Repair) (s : State) {j : Nat} (h : j ≠ p) : repair (setRepair p q s) j = repair s j := tget_tset_other _ _ _ _ _ h
@[simp] theorem gwAt_setGw_same (p : Nat) (q : Gw) (s : State) : gwAt (setGw p q s) p = q := tget_tset_same _ _ _ _
theorem gwAt_setGw_other (p : Nat) (q : Gw) (s : State) {j : Nat} (h : j ≠ p) : gwAt (setGw p q s) j = gwAt s j := tget_tset_other _ _ _ _ _ h
@[simp] theorem lane_setLane_same (p : Nat) (q : Lane) (s : State) : lane (setLane p q s) p = q := tget_tset_same _ _ _ _
theorem lane_setLane_other (p : Nat) (q : Lane) (s : State) {j : Nat} (h : j ≠ p) : lane (setLane p q s) j = lane s j := tget_tset_other _ _ _ _ _ h
@[simp] theorem reserve_setReserve_same (p : Nat) (q : Reserve) (s : State) : reserve (setReserve p q s) p = q := tget_tset_same _ _ _ _
theorem reserve_setReserve_other (p : Nat) (q : Reserve) (s : State) {j : Nat} (h : j ≠ p) : reserve (setReserve p q s) j = reserve s j := tget_tset_other _ _ _ _ _ h
@[simp] theorem vport_setVport_same (p : Nat) (q : VPort) (s : State) : vport (setVport p q s) p = q := tget_tset_same _ _ _ _
theorem vport_setVport_other (p : Nat) (q : VPort) (s : State) {j : Nat} (h : j ≠ p) : vport (setVport p q s) j = vport s j := tget_tset_other _ _ _ _ _ h
@[simp] theorem lport_setLport_same (p : Nat) (q : LPort) (s : State) : lport (setLport p q s) p = q := tget_tset_same _ _ _ _
theorem lport_setLport_other (p : Nat) (q : LPort) (s : State) {j : Nat} (h : j ≠ p) : lport (setLport p q s) j = lport s j := tget_tset_other _ _ _ _ _ h
@[simp] theorem wnode_setWnode_same (p : Nat) (q : WNode) (s : State) : wnode (setWnode p q s) p = q := tget_tset_same _ _ _ _
theorem wnode_setWnode_other (p : Nat) (q : WNode) (s : State) {j : Nat} (h : j ≠ p) : wnode (setWnode p q s) j = wnode s j := tget_tset_other _ _ _ _ _ h
@[simp] theorem fluCh_setFluCh_same (p : Nat) (q : FluCh) (s : State) : fluCh (setFluCh p q s) p = q := tget_tset_same _ _ _ _
theorem fluCh_setFluCh_other (p : Nat) (q : FluCh) (s : State) {j : Nat} (h : j ≠ p) : fluCh (setFluCh p q s) j = fluCh s j := tget_tset_other _ _ _ _ _ h

end Sys2Proof.Machine
end

