-- ==== Sys2Proof/Laws/ClaimBase.lean ====
section
/-! SUPPORT. What the shared operations leave of the claim part of State: each keeps it as it was. -/

namespace Sys2Proof.Machine

/-! ### Ops -/

@[simp] theorem foldl_brk {α : Type} {f : State → α → State} (h : ∀ t e, (f t e).brk = t.brk) (s : State) (l : List α) :
    (l.foldl f s).brk = s.brk := by
  induction l generalizing s with
  | nil => rfl
  | cons a l ih => rw [List.foldl_cons, ih, h]

@[simp] theorem brk_ite (c : Prop) [Decidable c] (s t : State) : (if c then s else t).brk = if c then s.brk else t.brk := by split <;> rfl

/-- The state a command's body leaves. -/
def CmdRes.st : CmdRes → State
  | .ok t _ _ => t
  | .done _ t _ _ => t
  | .fail _ t => t
  | .later t => t

@[simp] theorem CmdRes.st_ite (c : Prop) [Decidable c] (a b : CmdRes) : (if c then a else b).st = if c then a.st else b.st := by split <;> rfl

@[simp] theorem CmdRes.st_ok (t : State) (r : Nat) (d : List Byte) : (CmdRes.ok t r d).st = t := rfl
@[simp] theorem CmdRes.st_done (x : Status) (t : State) (r : Nat) (d : List Byte) : (CmdRes.done x t r d).st = t := rfl
@[simp] theorem CmdRes.st_fail (x : Status) (t : State) : (CmdRes.fail x t).st = t := rfl
@[simp] theorem CmdRes.st_later (t : State) : (CmdRes.later t).st = t := rfl

theorem foldl_brk2 {α β : Type} {f : β × State → α → β × State} (h : ∀ a e, (f a e).2.brk = a.2.brk) (a : β × State) (l : List α) :
    (l.foldl f a).2.brk = a.2.brk := by
  induction l generalizing a with
  | nil => rfl
  | cons x l ih => rw [List.foldl_cons, ih, h]

/-- A state put together has the claim part it was given. -/
theorem mk_brk (elapsed_ : Nat) (pending_ : List Instr) (cfg_ : Tab Int) (rc_ : Tab Nat) (hop_ : HopState) (evt_ : EvtState) (log_ : LogState) (que_ : QueueState) (fan_ : FanState) (pwr_ : PwrState) (dev_ : DevState) (led_ : LedgerState) (ing_ : IngState) (wei_ : WeirState) (van_ : VaneState) (lea_ : LeatState) (tai_ : TailState) (flu_ : FluState) (gra_ : GraState) (brk_ : BrkState) (sec_ : SecState) (saf_ : SafState) (svc_ : SvcState) (chk_ : List Ckpt) (snap_ : Option Ckpt) (cut_ : Option (CkptRun × Ckpt)) (out_ : List Out) (free_ : Nat) :
    (State.mk elapsed_ pending_ cfg_ rc_ hop_ evt_ log_ que_ fan_ pwr_ dev_ led_ ing_ wei_ van_ lea_ tai_ flu_ gra_ brk_ sec_ saf_ svc_ chk_ snap_ cut_ out_ free_).brk = brk_ := rfl

@[simp] theorem emitEth_brk (o : Out) (s : State) : (emitEth o s).brk = s.brk := by
  unfold emitEth; (repeat' split) <;> simp only [emit_brk]

@[simp] theorem sendMsg_brk (v : Nat) (s : State) : (sendMsg v s).brk = s.brk := by
  simp only [sendMsg]

@[simp] theorem signal_brk (v : Nat) (s : State) : (signal v s).brk = s.brk := by
  unfold signal; (repeat' split) <;> simp only [sendMsg_brk]

@[simp] theorem raiseBit_brk (code : Nat) (s : State) : (raiseBit code s).brk = s.brk := by
  simp only [raiseBit, signal_brk, brk_ite, ite_self]

@[simp] theorem giveLost_brk (stream n : Nat) (s : State) : (giveLost stream n s).brk = s.brk := by
  simp only [giveLost]
  (repeat' split) <;> simp

@[simp] theorem ringLoss_brk (stream n : Nat) (s : State) : (ringLoss stream n s).1.brk = s.brk := by
  simp only [ringLoss]; (repeat' split) <;> simp

@[simp] theorem ringPut_brk (u : OpenUnit) (s : State) : (ringPut u s).1.brk = s.brk := by
  unfold ringPut
  (repeat' split) <;> simp only [giveLost_brk, ringLoss_brk]

@[simp] theorem closeUnit_brk (stream : Nat) (short : Bool) (s : State) : (closeUnit stream short s).1.brk = s.brk := by
  unfold closeUnit; (repeat' split) <;> simp only [ringPut_brk]

@[simp] theorem arcPush_brk (stream : Nat) (item : List Byte) (seq : Nat) (s : State) : (arcPush stream item seq s).1.brk = s.brk := by
  simp only [arcPush]; (repeat' split) <;> simp

@[simp] theorem bankRec_brk (r : Rec) (s : State) : (bankRec r s).brk = s.brk := by
  unfold bankRec; (repeat' split) <;> simp only [bump_brk]

@[simp] theorem depthMark_brk (q : Nat) (s : State) : (depthMark q s).1.brk = s.brk := by
  simp only [depthMark]; (repeat' split) <;> simp

@[simp] theorem takeToken_brk (code : Nat) (s : State) : (takeToken code s).2.brk = s.brk := by
  simp only [takeToken]; (repeat' split) <;> simp

@[simp] theorem storeRec_brk (code p0 p1 p2 p3 : Nat) (s0 : State) : (storeRec code p0 p1 p2 p3 s0).1.brk = s0.brk := by
  simp only [storeRec]; (repeat' split) <;> simp

@[simp] theorem logRecord_brk (code p0 p1 p2 p3 : Nat) (s : State) : (logRecord code p0 p1 p2 p3 s).1.brk = s.brk := by
  simp only [logRecord]; (repeat' split) <;> simp

@[simp] theorem raiseN_brk (n a b c d e : Nat) (s : State) : (raiseN n a b c d e s).brk = s.brk := by
  induction n generalizing a b c d e s <;> simp [raiseN, *]

@[simp] theorem raiseAll_brk (ev : List (Nat × Nat × Nat)) (s : State) : (raiseAll ev s).brk = s.brk := by
  simp [raiseAll]

@[simp] theorem archive_brk (stream : Nat) (item : List Byte) (seq : Nat) (s : State) : (archive stream item seq s).brk = s.brk := by
  simp only [archive, arcPush_brk, raiseAll_brk]

@[simp] theorem recordOnly_brk (code p0 p1 : Nat) (s : State) : (recordOnly code p0 p1 s).brk = s.brk := by
  simp [recordOnly]

@[simp] theorem openRecord_brk (k : Nat) (s : State) : (openRecord k s).brk = s.brk := by
  simp only [openRecord, recordOnly_brk]

@[simp] theorem captureViolation_brk (m : Nat) (write : Bool) (addr : Nat) (s : State) : (captureViolation m write addr s).brk = s.brk := by
  simp only [captureViolation, bump_brk, raise_brk]

@[simp] theorem queueDepthSeen_brk (q : Nat) (s : State) : (queueDepthSeen q s).brk = s.brk := by
  simp only [queueDepthSeen, depthMark_brk, raiseAll_brk]

@[simp] theorem queueLoss_brk (q : Nat) (s : State) : (queueLoss q s).brk = s.brk := by
  simp only [queueLoss, bump_brk, raise_brk, brk_ite, ite_self]

@[simp] theorem pushOver_brk (q : Nat) (b : QBody) (s : State) : (pushOver q b s).2.brk = s.brk := by
  simp only [pushOver]; (repeat' split) <;> simp

@[simp] theorem pushKeep_brk (q : Nat) (b : QBody) (s : State) : (pushKeep q b s).2.brk = s.brk := by
  simp only [pushKeep]; (repeat' split) <;> simp

@[simp] theorem reply_brk (c : Ctx) (st : Status) (result xdone : Nat) (s : State) : (reply c st result xdone s).brk = s.brk := by
  simp only [reply]
  (repeat' split) <;> simp

@[simp] theorem onJob_brk (w : Nat × Nat) (f : Inflight → Inflight) (s : State) : (onJob w f s).brk = s.brk := by
  simp only [onJob, setPair_brk]

@[simp] theorem replyLater_brk (w : Nat × Nat) (st : Status) (result : Nat) (s : State) : (replyLater w st result s).brk = s.brk := by
  rfl

@[simp] theorem finish_brk (c : Ctx) (st : Status) (r : Nat) (d : List Byte) (t : State) : (finish c st r d t).brk = t.brk := by
  unfold finish; (repeat' split) <;> simp only [emit_brk, reply_brk]

theorem complete_brk {c : Ctx} {st : Status} {r : Nat} {d : List Byte} {t s : State} (h : t.brk = s.brk) :
    (complete c st r d t s).brk = s.brk := by
  unfold complete; split <;> simp [h]

@[simp] theorem runCmd_brk {k : HostCmd} {form : Bool} {body : State → CmdRes} (h : ∀ t, (body t).st.brk = t.brk) (s : State) :
    (runCmd k form body s).brk = s.brk := by
  have h := h s
  unfold runCmd
  extract_lets c
  clear_value c
  repeat' split
  all_goals first | rfl | (simp; done) | (rename_i hb; rw [hb] at h; first | exact complete_brk h | simpa using h)

@[simp] theorem command_brk {i : Instr} {form : Bool} {body : State → CmdRes} (h : ∀ t, (body t).st.brk = t.brk) (s : State) :
    (command i form body s).brk = s.brk := by
  unfold command; split <;> simp [h]

@[simp] theorem refuse_brk (st : Status) (s : State) : (refuse st s).st.brk = s.brk := by
  rfl

/-! ### Params -/

@[simp] theorem configure_brk {g : Grp} {op : Byte} {ents : List CfgEntry} {refusal : List CfgEntry → State → Option Status}
    {after : Tab Int → State → State} (h : ∀ m t, (after m t).brk = t.brk) (s : State) :
    (configure g op ents refusal after s).st.brk = s.brk := by
  unfold configure
  (repeat' split) <;> simp [h]

/-! ### Hopper -/

@[simp] theorem badAccess_brk (s : State) : (badAccess s).brk = s.brk := by
  simp only [badAccess, bump_brk]

@[simp] theorem darkAccess_brk (bus addr : Nat) (s : State) : (darkAccess bus addr s).brk = s.brk := by
  simp only [darkAccess, bump_brk, openRecord_brk, brk_ite, ite_self]

@[simp] theorem regWrite_brk {b : Blk} {addr : Nat} {f : State → State} (s : State) (h : (f s).brk = s.brk) : (regWrite b addr f s).brk = s.brk := by
  unfold regWrite; split <;> simp [h]

@[simp] theorem binSignal_brk (p : Nat) (s : State) : (binSignal p s).brk = s.brk := by
  simp only [binSignal, setPair_brk, signal_brk]

@[simp] theorem hqTail_brk (p : Nat) (value : Nat) (be : Byte) (s : State) : (hqTail p value be s).brk = s.brk := by
  simp only [hqTail, badAccess_brk, setPair_brk, brk_ite, ite_self]

@[simp] theorem bqHead_brk (p : Nat) (value : Nat) (be : Byte) (s : State) : (bqHead p value be s).brk = s.brk := by
  simp only [bqHead, badAccess_brk, binSignal_brk, setPair_brk, brk_ite, ite_self]

@[simp] theorem pairEnable_brk (p : Nat) (value : Nat) (s : State) : (pairEnable p value s).brk = s.brk := by
  simp only [pairEnable, binSignal_brk, setPair_brk, brk_ite, ite_self]

@[simp] theorem pairDisable_brk (p : Nat) (value : Nat) (s : State) : (pairDisable p value s).brk = s.brk := by
  simp only [pairDisable]; (repeat' split) <;> simp

@[simp] theorem transferGuard_brk (p : Nat) (k : Packet) (s : State) : (transferGuard p k s).brk = s.brk := by
  unfold transferGuard; (repeat' split) <;> simp only [captureViolation_brk, setPair_brk]

@[simp] theorem fetchSlots_brk (p : Nat) (l : List Packet) (s : State) : (fetchSlots p l s).brk = s.brk := by
  induction l generalizing s with
  | nil => rfl
  | cons k t ih => rw [fetchSlots]; (repeat' split) <;> simp [ih]

@[simp] theorem fetchTurn_brk (p : Nat) (ks : List Packet) (s : State) : (fetchTurn p ks s).brk = s.brk := by
  unfold fetchTurn; (repeat' split) <;> simp only [fetchSlots_brk]

@[simp] theorem binOverrun_brk (p : Nat) (s : State) : (binOverrun p s).brk = s.brk := by
  simp only [binOverrun, bump_brk, raise_brk, brk_ite, ite_self]

@[simp] theorem writeReply_brk (p k : Nat) (parityBad : Bool) (s : State) : (writeReply p k parityBad s).brk = s.brk := by
  simp only [writeReply]; (repeat' split) <;> simp

@[simp] theorem judgedReply_brk (p k : Nat) (parityBad : Bool) (s : State) : (judgedReply p k parityBad s).brk = s.brk := by
  simp only [judgedReply, captureViolation_brk, writeReply_brk, brk_ite, ite_self]

@[simp] theorem binWrite_brk (p pick : Nat) (parityBad : Bool) (s : State) : (binWrite p pick parityBad s).brk = s.brk := by
  unfold binWrite; (repeat' split) <;> simp

@[simp] theorem flushReplies_brk (p n : Nat) (s : State) : (flushReplies p n s).brk = s.brk := by
  induction n generalizing s with
  | zero => rfl
  | succ n ih => rw [flushReplies]; split <;> simp [ih]

@[simp] theorem aggTimer_brk (p : Nat) (s : State) : (aggTimer p s).brk = s.brk := by
  simp only [aggTimer, binSignal_brk, brk_ite, ite_self]

@[simp] theorem sendOwed_brk (v : Nat) (s : State) : (sendOwed v s).brk = s.brk := by
  unfold sendOwed; (repeat' split) <;> simp only [sendMsg_brk]

@[simp] theorem sendAllOwed_brk (s : State) : (sendAllOwed s).brk = s.brk := by
  simp [sendAllOwed]

@[simp] theorem msixControl_brk (en fmask : Bool) (s : State) : (msixControl en fmask s).brk = s.brk := by
  simp only [msixControl, sendAllOwed_brk]

@[simp] theorem unmask_brk (vec : Option (Fin 32)) (s : State) : (unmask vec s).brk = s.brk := by
  unfold unmask
  (repeat' split) <;> simp only [msixControl_brk, sendOwed_brk]

@[simp] theorem pendClear_brk (k value : Nat) (s : State) : (pendClear k value s).brk = s.brk := by
  rfl

@[simp] theorem hostIfReset_brk (s : State) : (hostIfReset s).brk = s.brk := by
  rfl

@[simp] theorem pairFault_brk (p cause : Nat) (s : State) : (pairFault p cause s).brk = s.brk := by
  simp only [pairFault, raise_brk, setPair_brk, brk_ite, ite_self]

@[simp] theorem dmaDone_brk (p : Nat) (what : DmaWhat) (r : DmaResult) (s : State) : (dmaDone p what r s).brk = s.brk := by
  simp only [dmaDone]; (repeat' split) <;> simp

@[simp] theorem hopResume_brk (s : State) : (hopResume s).brk = s.brk := by
  simp [hopResume]

/-! ### Recorder -/

@[simp] theorem poisonDelivered_brk (q tag pos : Nat) (s : State) : (poisonDelivered q tag pos s).brk = s.brk := by
  simp only [poisonDelivered, raise_brk]

@[simp] theorem deliverPoison_brk (q tag n : Nat) (l : List QItem) (s : State) : (deliverPoison q tag n l s).brk = s.brk := by
  induction l generalizing n s with
  | nil => rfl
  | cons i t ih => rw [deliverPoison, ih]; split <;> simp

@[simp] theorem readBad_brk (q : Nat) (s : State) (pos : Nat) : (readBad q s pos).brk = s.brk := by
  unfold readBad; (repeat' split) <;> simp only [bump_brk, setQueue_brk]

@[simp] theorem fabricBad_brk (q : Nat) (bad : List Nat) (s : State) : (fabricBad q bad s).brk = s.brk := by
  unfold fabricBad
  refine foldl_brk (fun t k => ?_) _ _
  (repeat' split) <;> simp only [raise_brk, readBad_brk]

@[simp] theorem drain_brk (q : Nat) (max : Nat) (bad : List Nat) (c : Ctx) (s0 : State) : (drain q max bad c s0).st.brk = s0.brk := by
  simp [drain]

@[simp] theorem queueFlushCmd_brk (c : Ctx) (qid : Nat) (s : State) : (queueFlushCmd c qid s).st.brk = s.brk := by
  unfold queueFlushCmd; (repeat' split) <;> simp only [refuse_brk, CmdRes.st_later]

@[simp] theorem flushBoundary_brk (q : Nat) (s : State) : (flushBoundary q s).brk = s.brk := by
  simp [flushBoundary]

@[simp] theorem scrubOne_brk (q : Nat) (pos word : Nat) (s : State) : (scrubOne q pos word s).brk = s.brk := by
  simp only [scrubOne]; (repeat' split) <;> simp

@[simp] theorem scrubVisit_brk (q : Nat) (bad : List (Nat × Nat)) (s : State) : (scrubVisit q bad s).brk = s.brk := by
  simp [scrubVisit]

@[simp] theorem queueStall_brk (q : Nat) (s : State) : (queueStall q s).brk = s.brk := by
  unfold queueStall; (repeat' split) <;> simp only [raise_brk]

@[simp] theorem releaseFreeze_brk (s : State) : (releaseFreeze s).brk = s.brk := by
  unfold releaseFreeze; (repeat' split) <;> simp only [bump_brk, queueDepthSeen_brk, setQueue_brk]

@[simp] theorem releaseView_brk (s : State) : (releaseView s).brk = s.brk := by
  simp only [releaseView, releaseFreeze_brk]

@[simp] theorem logViewCmd_brk (op : Byte) (bad : List Nat) (s : State) : (logViewCmd op bad s).st.brk = s.brk := by
  simp only [logViewCmd, fabricBad_brk, refuse_brk, releaseView_brk, brk_ite, CmdRes.st_ok, CmdRes.st_ite, ite_self]

@[simp] theorem recorderFail_brk (ofs syn : Nat) (s : State) : (recorderFail ofs syn s).brk = s.brk := by
  unfold recorderFail; (repeat' split) <;> simp only [raise_brk]

@[simp] theorem recorderWord_brk (ofs syn : Nat) (s : State) : (recorderWord ofs syn s).brk = s.brk := by
  simp only [recorderWord, recorderFail_brk]

@[simp] theorem logReadCmd_brk (start max : Nat) (bad : List (Nat × Nat)) (s0 : State) : (logReadCmd start max bad s0).st.brk = s0.brk := by
  simp [logReadCmd]

@[simp] theorem logConfigAfter_brk (ents : List CfgEntry) (old : Tab Int) (s : State) : (logConfigAfter ents old s).brk = s.brk := by
  unfold logConfigAfter; (repeat' split) <;> simp only [releaseView_brk]

@[simp] theorem logRestartCmd_brk (s : State) : (logRestartCmd s).st.brk = s.brk := by
  unfold logRestartCmd; (repeat' split) <;> simp only [refuse_brk, CmdRes.st_ok]

@[simp] theorem lastGaspCmd_brk (op : Byte) (s : State) : (lastGaspCmd op s).st.brk = s.brk := by
  unfold lastGaspCmd; (repeat' split) <;> simp only [refuse_brk, CmdRes.st_ok]

@[simp] theorem freezeTimeout_brk (bad : List Nat) (s : State) : (freezeTimeout bad s).brk = s.brk := by
  unfold freezeTimeout
  (repeat' split) <;> simp only [fabricBad_brk, raise_brk, releaseFreeze_brk]

@[simp] theorem tokenRefill_brk (code : Nat) (s : State) : (tokenRefill code s).brk = s.brk := by
  simp only [tokenRefill, brk_ite, ite_self]

/-! ### TailBase -/

@[simp] theorem modCold_brk (i : Nat) (f : Cold → Cold) (s : State) : (modCold i f s).brk = s.brk := by
  unfold modCold; (repeat' split) <;> simp only

@[simp] theorem appendCounter_brk (k ceil : Nat) (s : State) : (appendCounter k ceil s).brk = s.brk := by
  simp only [appendCounter]

@[simp] theorem takeReserve_brk (k : Nat) (s : State) : (takeReserve k s).2.brk = s.brk := by
  simp only [takeReserve]; (repeat' split) <;> simp

@[simp] theorem campMove_brk (c : Nat) (st : CampSt) (s : State) : (campMove c st s).brk = s.brk := by
  simp only [campMove, raise_brk, setCamp_brk]

@[simp] theorem syncPend_brk (i : Nat) (s : State) : (syncPend i s).brk = s.brk := by
  simp only [syncPend, setEntry_brk, brk_ite, ite_self]

@[simp] theorem takeDseq_brk (i : Nat) (s : State) : (takeDseq i s).2.brk = s.brk := by
  simp only [takeDseq, raise_brk, setDl_brk, brk_ite, ite_self]

@[simp] theorem gwDownlink_brk (eth g : Nat) (tdfs : List (List Byte)) (s : State) : (gwDownlink eth g tdfs s).brk = s.brk := by
  simp only [gwDownlink, bump_brk, emitEth_brk, setGw_brk]

@[simp] theorem dropItem_brk (num : Nat) (s : State) : (dropItem num s).brk = s.brk := by
  rfl

@[simp] theorem cutPort_brk (p : Nat) (s : State) : (cutPort p s).brk = s.brk := by
  simp [cutPort]

@[simp] theorem putSlotL_brk (p n : Nat) (v : LSlot) (s : State) : (putSlotL p n v s).brk = s.brk := by
  simp only [putSlotL, setLport_brk]

@[simp] theorem freeSlot_brk (p n : Nat) (s : State) : (freeSlot p n s).brk = s.brk := by
  simp only [freeSlot, setLport_brk]

@[simp] theorem releaseSlot_brk (p n : Nat) (moved : Bool) (s : State) : (releaseSlot p n moved s).brk = s.brk := by
  simp only [releaseSlot, bump_brk, freeSlot_brk, setLport_brk, brk_ite, ite_self]

@[simp] theorem setTone_brk (p n : Nat) (tm : Option Nat) (s : State) : (setTone p n tm s).brk = s.brk := by
  simp only [setTone, putSlotL_brk, brk_ite, ite_self]

@[simp] theorem applyChange_brk (p : Nat) (s : State) (x : SlotChange) : (applyChange p s x).brk = s.brk := by
  cases x <;> simp [applyChange]

@[simp] theorem endExch_brk (p : Nat) (s : State) : (endExch p s).brk = s.brk := by
  unfold endExch
  extract_lets q
  split
  · rfl
  · rw [foldl_brk (applyChange_brk p)]; rfl

@[simp] theorem cutLport_brk (p : Nat) (s : State) : (cutLport p s).brk = s.brk := by
  simp only [cutLport]; (repeat' split) <;> simp

@[simp] theorem radioQueue_brk (port : Nat) (f : TxFrame) (s : State) : (radioQueue port f s).brk = s.brk := by
  unfold radioQueue; (repeat' split) <;> simp only [bump_brk, raise_brk, setVport_brk]

@[simp] theorem advanceRepair_brk (n : Nat) (s : State) : (advanceRepair n s).brk = s.brk := by
  simp only [advanceRepair, setRepair_brk, brk_ite, ite_self]

@[simp] theorem itemDelivered_brk (w : TdfWhat) (s : State) : (itemDelivered w s).brk = s.brk := by
  unfold itemDelivered; (repeat' split) <;> simp

@[simp] theorem newItem_brk (s : State) : (newItem s).2.brk = s.brk := by
  rfl

@[simp] theorem takeBcast_brk (s : State) : (takeBcast s).2.brk = s.brk := by
  simp only [takeBcast]; (repeat' split) <;> simp

@[simp] theorem pathPut_brk (c p : Nat) (tdfs : List (List Byte)) (s : State) : (pathPut c p tdfs s).brk = s.brk := by
  simp [pathPut]

@[simp] theorem bcastTtl_brk (p : Nat) (s : State) : (bcastTtl p s).2.brk = s.brk := by
  unfold bcastTtl; (repeat' split) <;> simp only [drawFree_brk]

@[simp] theorem campBroadcast_brk (c : Nat) (s : State) : (campBroadcast c s).brk = s.brk := by
  simp only [campBroadcast]; (repeat' split) <;> simp

@[simp] theorem campClose_brk (c : Nat) (s : State) : (campClose c s).brk = s.brk := by
  simp only [campClose, campMove_brk, raise_brk]

@[simp] theorem campSettle_brk (c : Nat) (s : State) : (campSettle c s).brk = s.brk := by
  simp only [campSettle, campBroadcast_brk, campClose_brk, campMove_brk, brk_ite, ite_self]

@[simp] theorem campSettleAll_brk (s : State) : (campSettleAll s).brk = s.brk := by
  simp [campSettleAll]

@[simp] theorem endSetpoint_brk (n code : Nat) (s : State) : (endSetpoint n code s).brk = s.brk := by
  unfold endSetpoint; (repeat' split) <;> simp

@[simp] theorem recallRadio_brk (p : TxFrame → Bool) (s : State) : (recallRadio p s).2.brk = s.brk := by
  rfl

@[simp] theorem recallItems_brk (p : TxFrame → Bool) (w : TdfItem → Bool) (s : State) : (recallItems p w s).2.brk = s.brk := by
  simp only [recallItems, recallRadio_brk]

@[simp] theorem faultWithdraw_brk (s : State) : (faultWithdraw s).brk = s.brk := by
  simp [faultWithdraw]

@[simp] theorem removeRepair_brk (i n : Nat) (s : State) : (removeRepair i n s).brk = s.brk := by
  unfold removeRepair
  extract_lets k s1 s2
  rw [syncPend_brk, setDl_brk]
  apply (foldl_brk ?_ _ _).trans
  · rfl
  · intro t e; rfl

@[simp] theorem withdrawIndex_brk (i : Nat) (s : State) : (withdrawIndex i s).brk = s.brk := by
  unfold withdrawIndex
  extract_lets s1 s2 s3
  rw [campSettleAll_brk]
  show s2.brk = _
  apply (foldl_brk ?_ _ _).trans
  · simp only [s1]; split <;> simp only [endSetpoint_brk]
  · intro t e; rfl

/-! ### SafeState -/

@[simp] theorem noteFlu_brk (s : State) : (noteFlu s).brk = s.brk := by
  unfold noteFlu; (repeat' split) <;> simp only

@[simp] theorem fluOff_brk (s0 : State) : (fluOff s0).brk = s0.brk := by
  unfold fluOff; (repeat' split) <;> simp only [noteFlu_brk]

@[simp] theorem fluOn_brk (s : State) : (fluOn s).brk = s.brk := by
  unfold fluOn; (repeat' split) <;> simp only

@[simp] theorem chanFault_brk (c cause : Nat) (s0 : State) : (chanFault c cause s0).brk = s0.brk := by
  simp only [chanFault, noteFlu_brk, raise_brk, setFluCh_brk, brk_ite, ite_self]

@[simp] theorem leatQuietEnd_brk (s0 : State) : (leatQuietEnd s0).brk = s0.brk := by
  simp [leatQuietEnd]

@[simp] theorem quietEnd_brk (s : State) : (quietEnd s).brk = s.brk := by
  unfold quietEnd; (repeat' split) <;> simp only [leatQuietEnd_brk, raise_brk]

@[simp] theorem leaveRestoring_brk (was : Role) (s : State) : (leaveRestoring was s).brk = s.brk := by
  unfold leaveRestoring; (repeat' split) <;> simp only [quietEnd_brk]

@[simp] theorem transientFault_brk (cause : Nat) (s : State) : (transientFault cause s).brk = s.brk := by
  simp only [transientFault, bump_brk, raise_brk]

@[simp] theorem enterSafe_brk (cause : Nat) (s : State) : (enterSafe cause s).brk = s.brk := by
  unfold enterSafe; (repeat' split) <;> simp only [emit_brk, faultWithdraw_brk]

@[simp] theorem markCause_brk (cause : Nat) (s : State) : (markCause cause s).brk = s.brk := by
  rfl

@[simp] theorem diagnose_brk {cause : Nat} {retryOk : Bool} {lasting : State → State} (s : State) (h : (lasting s).brk = s.brk) :
    (diagnose cause retryOk lasting s).brk = s.brk := by
  unfold diagnose; split <;> simp [h]

@[simp] theorem violation_brk (m : Nat) (write : Bool) (addr : Nat) (s : State) : (violation m write addr s).brk = s.brk := by
  simp only [violation, captureViolation_brk, enterSafe_brk, brk_ite, ite_self]

@[simp] theorem releaseMaster_brk (m means : Nat) (s : State) : (releaseMaster m means s).brk = s.brk := by
  simp only [releaseMaster, raise_brk]

/-! ### TailSend -/

@[simp] theorem spMismatch_brk (seq : Nat) (s : State) : (spMismatch seq s).brk = s.brk := by
  simp only [spMismatch, enterSafe_brk, markCause_brk, raise_brk]

@[simp] theorem spTransient_brk (seq : Nat) (s : State) : (spTransient seq s).brk = s.brk := by
  simp only [spTransient, bump_brk, markCause_brk, raise_brk, transientFault_brk]

@[simp] theorem setpointFrame_brk (i : Nat) (body : List Byte) (more : Bool) (s : State) : (setpointFrame i body more s).2.brk = s.brk := by
  simp only [setpointFrame, takeDseq_brk]

@[simp] theorem spChannels_brk (i : Nat) (b : List Byte) (cmp : SpCompare) (s : State) : (spChannels i b cmp s).2.brk = s.brk := by
  simp only [spChannels]; (repeat' split) <;> simp

@[simp] theorem openCompare_brk (s : State) : (openCompare s).2.brk = s.brk := by
  simp only [openCompare, drawFree_brk]

@[simp] theorem spSent_brk (n : Nat) (s : State) : (spSent n s).brk = s.brk := by
  rfl

@[simp] theorem buildItem_brk (i : Nat) (w : TdfWhat) (more : Bool) (ttl : Nat) (s : State) : (buildItem i w more ttl s).2.brk = s.brk := by
  simp only [buildItem]; (repeat' split) <;> simp

@[simp] theorem routeItem_brk (rt : Route) (i : Nat) (w : TdfWhat) (more : Bool) (b : List Byte) (t0 : Nat) (s : State) : (routeItem rt i w more b t0 s).brk = s.brk := by
  unfold routeItem; (repeat' split) <;> simp only [bump_brk, gwDownlink_brk, itemDelivered_brk, newItem_brk, radioQueue_brk]

@[simp] theorem sendOn_brk (rt : Route) (i : Nat) (w : TdfWhat) (s : State) : (sendOn rt i w s).2.brk = s.brk := by
  unfold sendOn
  extract_lets
  split <;> (rename_i h; have hb := congrArg (fun x => x.2.brk) h; simpa using hb.symm)

@[simp] theorem sendNext_brk (sp : Bool) (i : Nat) (s : State) : (sendNext sp i s).2.brk = s.brk := by
  unfold sendNext; (repeat' split) <;> simp only [bump_brk, sendOn_brk]

@[simp] theorem sendUpTo_brk (sp : Bool) (i n : Nat) (s : State) : (sendUpTo sp i n s).brk = s.brk := by
  induction n generalizing sp s with
  | zero => rfl
  | succ n ih => simp only [sendUpTo]; split <;> simp [ih]

@[simp] theorem burstSend_brk (i sent : Nat) (spGone : Bool) (s : State) : (burstSend i sent spGone s).brk = s.brk := by
  simp only [burstSend, sendNext_brk]

@[simp] theorem openBurst_brk (i : Nat) (s : State) : (openBurst i s).brk = s.brk := by
  unfold openBurst; (repeat' split) <;> simp only [burstSend_brk]

@[simp] theorem setpointNow_brk (i : Nat) (s : State) : (setpointNow i s).brk = s.brk := by
  unfold setpointNow; (repeat' split) <;> simp only [burstSend_brk, sendNext_brk]

@[simp] theorem commitSend_brk (i : Nat) (s : State) : (commitSend i s).brk = s.brk := by
  unfold commitSend; (repeat' split) <;> simp only [sendNext_brk, sendUpTo_brk]

@[simp] theorem pollItem_brk (port i : Nat) (s : State) : (pollItem port i s).2.brk = s.brk := by
  have hb := fun (a b c d : _) => buildItem_brk a b c d s
  unfold pollItem
  split
  · rfl
  · split
    · rfl
    · extract_lets m
      split <;> (rename_i h; have hb := congrArg (fun x => x.2.brk) h; simp at hb; simp [hb])

/-! ### Media -/

@[simp] theorem setChan_brk (ch : Bool) (c : Chan) (s : State) : (setChan ch c s).brk = s.brk := by
  unfold setChan; (repeat' split) <;> simp only

@[simp] theorem wearCheck_brk (ch : Bool) (s : State) : (wearCheck ch s).brk = s.brk := by
  simp only [wearCheck, raise_brk, setChan_brk, brk_ite, ite_self]

@[simp] theorem retire_brk (ch : Bool) (b cause : Nat) (s : State) : (retire ch b cause s).brk = s.brk := by
  simp only [retire, raise_brk, setChan_brk, wearCheck_brk, brk_ite, ite_self]

@[simp] theorem putPage_brk (ch : Bool) (ppn : Nat) (body : Body) (lunit tflags pidx : Nat) (dseq : Option Nat) (s : State) : (putPage ch ppn body lunit tflags pidx dseq s).brk = s.brk := by
  simp only [putPage, bump_brk, setChan_brk]

@[simp] theorem putTorn_brk (ch : Bool) (ppn : Nat) (s : State) : (putTorn ch ppn s).brk = s.brk := by
  simp only [putTorn, bump_brk, setChan_brk]

@[simp] theorem eraseBlock_brk (ch : Bool) (b : Nat) (s : State) : (eraseBlock ch b s).brk = s.brk := by
  simp only [eraseBlock, setChan_brk, wearCheck_brk]

@[simp] theorem sysPut_brk (body : Body) (lunit : Nat) (s : State) : (sysPut body lunit s).2.brk = s.brk := by
  unfold sysPut; (repeat' split) <;> simp only [putPage_brk, setChan_brk]

@[simp] theorem schedule_brk (ch first : Bool) (b : Nat) (s : State) : (schedule ch first b s).brk = s.brk := by
  simp only [schedule, bump_brk, setChan_brk, brk_ite, ite_self]

@[simp] theorem writeMap_brk (page : Nat) (s : State) : (writeMap page s).brk = s.brk := by
  simp only [writeMap, sysPut_brk]

@[simp] theorem cachePut_brk (page : Nat) (s : State) : (cachePut page s).brk = s.brk := by
  simp only [cachePut]; (repeat' split) <;> simp

@[simp] theorem hmrWrite_brk (page : Nat) (s : State) : (hmrWrite page s).brk = s.brk := by
  simp only [hmrWrite, captureViolation_brk, emit_brk, brk_ite, ite_self]

@[simp] theorem hmrFill_brk (s : State) : (hmrFill s).brk = s.brk := by
  simp [hmrFill]

@[simp] theorem mapLookup_brk (reads : List (Nat × Nat)) (page : Nat) (s : State) : (mapLookup reads page s).brk = s.brk := by
  simp only [mapLookup, bump_brk, cachePut_brk, captureViolation_brk, hmrFill_brk, raise_brk, brk_ite, ite_self]

@[simp] theorem mapDirty_brk (page : Nat) (s : State) : (mapDirty page s).brk = s.brk := by
  simp only [mapDirty, mapLookup_brk]

@[simp] theorem bandPut_brk (ch : Bool) (body : Body) (s : State) : (bandPut ch body s).2.brk = s.brk := by
  simp only [bandPut]; (repeat' split) <;> simp

@[simp] theorem putAnchor_brk (ch : Bool) (a : Anchor) (s : State) : (putAnchor ch a s).brk = s.brk := by
  simp only [putAnchor, bandPut_brk, setChan_brk]

@[simp] theorem writeDir_brk (s : State) : (writeDir s).2.brk = s.brk := by
  unfold writeDir
  extract_lets of r0
  refine (foldl_brk2 (fun a k => ?_) _ _).trans ?_ <;> simp [r0]

@[simp] theorem reclaim_brk (dir0 : Nat) (s : State) : (reclaim dir0 s).brk = s.brk := by
  unfold reclaim
  refine foldl_brk (fun t k => ?_) _ _
  (repeat' split) <;> simp

@[simp] theorem writeArc_brk (s : State) : (writeArc s).brk = s.brk := by
  simp [writeArc]

@[simp] theorem divertRing_brk (s : State) : (divertRing s).brk = s.brk := by
  rfl

@[simp] theorem exhaust_brk (ch : Bool) (s : State) : (exhaust ch s).brk = s.brk := by
  unfold exhaust; (repeat' split) <;> simp only [divertRing_brk, putAnchor_brk, raise_brk, setChan_brk, writeArc_brk]

@[simp] theorem retireDrained_brk (s : State) : (retireDrained s).brk = s.brk := by
  simp [retireDrained]

@[simp] theorem journalWrite_brk (s : State) : (journalWrite s).brk = s.brk := by
  simp [journalWrite]

@[simp] theorem journalCheck_brk (s : State) : (journalCheck s).brk = s.brk := by
  unfold journalCheck; (repeat' split) <;> simp only [journalWrite_brk]

@[simp] theorem rebuildArc_brk (aw : Nat) (a : Anchor) (s : State) : (rebuildArc aw a s).brk = s.brk := by
  simp [rebuildArc]

/-! ### Granary -/

@[simp] theorem mapChange_brk (lu ppn dseq : Nat) (s : State) : (mapChange lu ppn dseq s).brk = s.brk := by
  simp only [mapChange, mapDirty_brk]

@[simp] theorem programUnit_brk (s : State) : (programUnit s).brk = s.brk := by
  simp only [programUnit]; (repeat' split) <;> simp

@[simp] theorem unitFails_brk (s : State) : (unitFails s).brk = s.brk := by
  simp only [unitFails]; (repeat' split) <;> simp

@[simp] theorem programAll_brk (n : Nat) (s : State) : (programAll n s).brk = s.brk := by
  induction n generalizing s with
  | zero => rfl
  | succ n ih => rw [programAll, ih]; simp

@[simp] theorem closeShort_brk (p : OpenUnit → Bool) (s : State) : (closeShort p s).brk = s.brk := by
  simp [closeShort]

@[simp] theorem graFlush_brk (s : State) : (graFlush s).brk = s.brk := by
  simp only [graFlush, closeShort_brk, journalWrite_brk, programAll_brk, brk_ite, ite_self]

@[simp] theorem hmrSetCmd_brk (size base : Nat) (s : State) : (hmrSetCmd size base s).st.brk = s.brk := by
  unfold hmrSetCmd; (repeat' split) <;> simp only [hmrFill_brk, refuse_brk, CmdRes.st_ok]

@[simp] theorem hmrError_brk (page : Nat) (s : State) : (hmrError page s).brk = s.brk := by
  unfold hmrError; (repeat' split) <;> simp only [bump_brk, raise_brk]

@[simp] theorem archiveReadCmd_brk (c : Ctx) (ofs : Nat) (reads : List (Nat × Nat)) (s : State) : (archiveReadCmd c ofs reads s).st.brk = s.brk := by
  simp [archiveReadCmd]

@[simp] theorem mediaStatusCmd_brk (ch : Nat) (s : State) : (mediaStatusCmd ch s).st.brk = s.brk := by
  unfold mediaStatusCmd; (repeat' split) <;> simp only [refuse_brk, CmdRes.st_ok]

@[simp] theorem tornAt_brk (ch : Bool) (b : Nat) (s : State) : (tornAt ch b s).brk = s.brk := by
  simp only [tornAt, setChan_brk, brk_ite, ite_self]

@[simp] theorem nandStart_brk (s : State) : (nandStart s).brk = s.brk := by
  simp only [nandStart, divertRing_brk]

@[simp] theorem putKept_brk (ch : Bool) (s : State) : (putKept ch s).brk = s.brk := by
  unfold putKept
  (repeat' split) <;> first | rfl | exact putAnchor_brk .. | exact foldl_brk (fun t k => putAnchor_brk ..) _ _

@[simp] theorem moveBand_brk (ch : Bool) (b : Nat) (s : State) : (moveBand ch b s).brk = s.brk := by
  simp only [moveBand, eraseBlock_brk, putKept_brk, setChan_brk, brk_ite, ite_self]

@[simp] theorem moveMap_brk (page : Nat) (s : State) : (moveMap page s).brk = s.brk := by
  unfold moveMap
  (repeat' split) <;> simp only [bump_brk, putPage_brk, setChan_brk]

@[simp] theorem moveSys_brk (b : Nat) (s : State) : (moveSys b s).brk = s.brk := by
  simp [moveSys]

@[simp] theorem copyPage_brk (ok : Bool) (s : State) : (copyPage ok s).brk = s.brk := by
  simp only [copyPage]; (repeat' split) <;> simp

@[simp] theorem systemFails_brk (ch : Bool) (block : Nat) (s : State) : (systemFails ch block s).brk = s.brk := by
  simp only [systemFails]; (repeat' split) <;> simp

@[simp] theorem cleanData_brk (b : Nat) (s : State) : (cleanData b s).brk = s.brk := by
  simp only [cleanData, eraseBlock_brk, setChan_brk, brk_ite, ite_self]

@[simp] theorem readyData_brk (l : List Nat) (s : State) : (readyData l s).brk = s.brk := by
  induction l generalizing s with
  | nil => rfl
  | cons b l ih => rw [readyData]; (repeat' split) <;> simp only [ih, schedule_brk, cleanData_brk]

theorem takeData_brk {b : Nat} {s t : State} (h : takeData s = some (b, t)) : t.brk = s.brk := by
  unfold takeData at h
  extract_lets l fit at h
  split at h
  · cases h
  · cases h
    simp only [setChan_brk, cleanData_brk]

@[simp] theorem eraseDone_brk (ch : Bool) (block : Nat) (ok : Bool) (s : State) : (eraseDone ch block ok s).brk = s.brk := by
  simp only [eraseDone, bump_brk, eraseBlock_brk, retire_brk, setChan_brk, brk_ite, ite_self]

@[simp] theorem readDone_brk (ch : Bool) (ppn : Nat) (corr : Option Nat) (patrol : Bool) (s : State) : (readDone ch ppn corr patrol s).brk = s.brk := by
  unfold readDone; (repeat' split) <;> simp

@[simp] theorem patrolNext_brk (ch : Bool) (s : State) : (patrolNext ch s).brk = s.brk := by
  simp only [patrolNext]; (repeat' split) <;> simp

/-! ### PowerBase -/

@[simp] theorem endDebug_brk (cause : Nat) (s : State) : (endDebug cause s).brk = s.brk := by
  unfold endDebug; (repeat' split) <;> simp only [raise_brk]

@[simp] theorem resetPins_brk (s : State) : (resetPins s).brk = s.brk := by
  simp [resetPins]

@[simp] theorem discardRings_brk (s : State) : (discardRings s).brk = s.brk := by
  simp only [discardRings, bump_brk]

@[simp] theorem releaseLock_brk (s : State) : (releaseLock s).brk = s.brk := by
  simp only [releaseLock]

@[simp] theorem startSeq_brk (causes : Nat) (s : State) : (startSeq causes s).brk = s.brk := by
  unfold startSeq; (repeat' split) <;> simp only

@[simp] theorem wake_brk (causes : Nat) (s : State) : (wake causes s).brk = s.brk := by
  simp only [wake]; (repeat' split) <;> simp

@[simp] theorem downReply_brk (w : Nat × Nat) (s : State) : (downReply w s).brk = s.brk := by
  simp only [downReply, openRecord_brk, replyLater_brk]

@[simp] theorem takePtp_brk (s : State) : (takePtp s).brk = s.brk := by
  simp [takePtp]

@[simp] theorem takeVan_brk (s : State) : (takeVan s).brk = s.brk := by
  simp [takeVan]

@[simp] theorem takeLea_brk (s : State) : (takeLea s).brk = s.brk := by
  simp [takeLea]

@[simp] theorem takeGra_brk (s : State) : (takeGra s).brk = s.brk := by
  unfold takeGra
  extract_lets ws
  rw [foldl_brk (fun t w => downReply_brk w t)]

@[simp] theorem takeQue_brk (s : State) : (takeQue s).brk = s.brk := by
  simp [takeQue]

@[simp] theorem takeSaf_brk (s : State) : (takeSaf s).brk = s.brk := by
  simp [takeSaf]

@[simp] theorem takeDown_brk (s : State) : (takeDown s).brk = s.brk := by
  simp only [takeDown, takeGra_brk, takeLea_brk, takePtp_brk, takeQue_brk, takeSaf_brk, takeVan_brk, brk_ite, ite_self]

/-! ### Security -/

@[simp] theorem rejectToken_brk (kind check : Nat) (s : State) : (rejectToken kind check s).brk = s.brk := by
  simp only [rejectToken, bump_brk, raise_brk]

@[simp] theorem lcStep_brk (new : Nat) (s : State) : (lcStep new s).brk = s.brk := by
  simp only [lcStep, endDebug_brk, raise_brk]

@[simp] theorem restartBoot_brk (s : State) : (restartBoot s).brk = s.brk := by
  rfl

@[simp] theorem burnToggle_brk (s : State) : (burnToggle s).brk = s.brk := by
  simp only [burnToggle, brk_ite, ite_self]

@[simp] theorem putSlot_brk (i : Nat) (v : Option Vault) (s : State) : (putSlot i v s).brk = s.brk := by
  rfl

@[simp] theorem keyLoadCmd_brk (c : Ctx) (i klen : Nat) (s : State) : (keyLoadCmd c i klen s).st.brk = s.brk := by
  unfold keyLoadCmd; (repeat' split) <;> simp

@[simp] theorem deviceKeyCmd_brk (c : Ctx) (which klen : Nat) (s : State) : (deviceKeyCmd c which klen s).st.brk = s.brk := by
  unfold deviceKeyCmd; (repeat' split) <;> simp only [appendCounter_brk, raise_brk, refuse_brk, setReserve_brk, CmdRes.st_ok]

@[simp] theorem masterAccess_brk (m : Nat) (s : State) : (masterAccess m s).brk = s.brk := by
  simp only [masterAccess, violation_brk, brk_ite, ite_self]

@[simp] theorem firewallRuleCmd_brk (rule master perm base size : Nat) (s : State) : (firewallRuleCmd rule master perm base size s).st.brk = s.brk := by
  unfold firewallRuleCmd; (repeat' split) <;> simp only [masterAccess_brk, refuse_brk, CmdRes.st_ok]

@[simp] theorem firewallReleaseCmd_brk (master : Nat) (s : State) : (firewallReleaseCmd master s).st.brk = s.brk := by
  unfold firewallReleaseCmd; (repeat' split) <;> simp only [refuse_brk, releaseMaster_brk, CmdRes.st_ok]

@[simp] theorem fwReleaseWrite_brk (value : Nat) (s : State) : (fwReleaseWrite value s).brk = s.brk := by
  unfold fwReleaseWrite; (repeat' split) <;> simp only [bump_brk, hopResume_brk, releaseMaster_brk]

@[simp] theorem openDebug_brk (entry level limit : Nat) (s : State) : (openDebug entry level limit s).brk = s.brk := by
  simp only [openDebug, hopResume_brk, raise_brk, releaseMaster_brk, brk_ite, ite_self]

@[simp] theorem debugRequest_brk (entry level : Nat) (t : List Byte) (s : State) : (debugRequest entry level t s).2.brk = s.brk := by
  simp only [debugRequest]; (repeat' split) <;> simp

@[simp] theorem newChallenge_brk (s : State) : (newChallenge s).2.brk = s.brk := by
  rfl

@[simp] theorem debugLimit_brk (s : State) : (debugLimit s).brk = s.brk := by
  unfold debugLimit; (repeat' split) <;> simp only [endDebug_brk]

/-! ### WeirBase -/

@[simp] theorem nodeChange_brk (k : Nat) (f : Node → Node) (s : State) : (nodeChange k f s).brk = s.brk := by
  simp only [nodeChange, setNode_brk]

@[simp] theorem childUp_brk (k : Nat) (s : State) : (childUp k s).brk = s.brk := by
  simp only [childUp, nodeChange_brk]

@[simp] theorem childDown_brk (k : Nat) (s : State) : (childDown k s).brk = s.brk := by
  simp only [childDown, nodeChange_brk]

@[simp] theorem suspUp_brk (leg : Nat) (s : State) : (suspUp leg s).brk = s.brk := by
  simp only [suspUp, setWnode_brk]

@[simp] theorem suspDown_brk (leg : Nat) (s : State) : (suspDown leg s).brk = s.brk := by
  simp only [suspDown, setWnode_brk]

@[simp] theorem setAnom_brk (i score cause : Nat) (s : State) : (setAnom i score cause s).brk = s.brk := by
  simp only [setAnom, setEntry_brk, suspDown_brk, suspUp_brk, brk_ite, ite_self]

@[simp] theorem anomProposal_brk (i : Nat) (s : State) : (anomProposal i s).brk = s.brk := by
  simp only [anomProposal, setAnom_brk]

@[simp] theorem suppressAdd_brk (e : Nat × Nat × Nat) (s : State) : (suppressAdd e s).brk = s.brk := by
  simp only [suppressAdd]

@[simp] theorem weirReport_brk (b : List Byte) (s : State) : (weirReport b s).brk = s.brk := by
  simp only [weirReport, bump_brk, pushOver_brk, raise_brk, brk_ite, ite_self]

@[simp] theorem propose_brk (i toLeg : Nat) (s : State) : (propose i toLeg s).brk = s.brk := by
  simp only [propose, anomProposal_brk, raise_brk, setEntry_brk]

@[simp] theorem markMoved_brk (leg : Nat) (s : State) : (markMoved leg s).brk = s.brk := by
  simp only [markMoved, setWnode_brk]

@[simp] theorem leaveLeg_brk (i : Nat) (s : State) : (leaveLeg i s).brk = s.brk := by
  simp only [leaveLeg, childDown_brk, suspDown_brk, brk_ite, ite_self]

@[simp] theorem joinLeg_brk (i leg : Nat) (s : State) : (joinLeg i leg s).brk = s.brk := by
  unfold joinLeg; (repeat' split) <;> simp only [childUp_brk, suspUp_brk]

@[simp] theorem checkRemove_brk (i : Nat) (s : State) : (checkRemove i s).brk = s.brk := by
  simp only [checkRemove]

@[simp] theorem stranger_brk (eui claimIdx reason path port : Nat) (rssi : Byte) (rxNs : Nat) (s : State) : (stranger eui claimIdx reason path port rssi rxNs s).brk = s.brk := by
  simp only [stranger, pushOver_brk, raise_brk, brk_ite, ite_self]

/-! ### Ledger -/

@[simp] theorem bindCmd_brk (i eui kind leg : Nat) (s : State) : (bindCmd i eui kind leg s).st.brk = s.brk := by
  unfold bindCmd; (repeat' split) <;> simp

@[simp] theorem unsuppress_brk (i : Nat) (s : State) : (unsuppress i s).brk = s.brk := by
  rfl

@[simp] theorem unbindIndex_brk (i : Nat) (s : State) : (unbindIndex i s).brk = s.brk := by
  simp only [unbindIndex, checkRemove_brk, leaveLeg_brk, putSlot_brk, setEntry_brk, topoUp_brk, unsuppress_brk, withdrawIndex_brk, brk_ite, ite_self]

@[simp] theorem unbindCmd_brk (i : Nat) (s : State) : (unbindCmd i s).st.brk = s.brk := by
  unfold unbindCmd; (repeat' split) <;> simp only [refuse_brk, unbindIndex_brk, CmdRes.st_ok]

@[simp] theorem blockCmd_brk (i : Nat) (s : State) : (blockCmd i s).st.brk = s.brk := by
  simp only [blockCmd, modCold_brk, refuse_brk, setEntry_brk, brk_ite, CmdRes.st_ok, CmdRes.st_ite, ite_self]

@[simp] theorem unblockCmd_brk (i : Nat) (s : State) : (unblockCmd i s).st.brk = s.brk := by
  simp only [unblockCmd, modCold_brk, refuse_brk, setEntry_brk, brk_ite, CmdRes.st_ok, CmdRes.st_ite, ite_self]

@[simp] theorem coldReadCmd_brk (i : Nat) (s : State) : (coldReadCmd i s).st.brk = s.brk := by
  unfold coldReadCmd; (repeat' split) <;> simp only [refuse_brk, CmdRes.st_ok]

@[simp] theorem coldWriteCmd_brk (c : Ctx) (i ofs : Nat) (s : State) : (coldWriteCmd c i ofs s).st.brk = s.brk := by
  unfold coldWriteCmd; (repeat' split) <;> simp only [modCold_brk, refuse_brk, CmdRes.st_ok]

@[simp] theorem hostPendCmd_brk (i set : Nat) (s : State) : (hostPendCmd i set s).st.brk = s.brk := by
  simp only [hostPendCmd, refuse_brk, setEntry_brk, brk_ite, CmdRes.st_ok, CmdRes.st_ite, ite_self]

@[simp] theorem nodeActivateCmd_brk (lvl num parent : Nat) (s : State) : (nodeActivateCmd lvl num parent s).st.brk = s.brk := by
  simp only [nodeActivateCmd, childUp_brk, nodeChange_brk, refuse_brk, topoUp_brk, brk_ite, CmdRes.st_ok, CmdRes.st_ite, ite_self]

@[simp] theorem dropAnchor_brk (lvl num : Nat) (s : State) : (dropAnchor lvl num s).brk = s.brk := by
  simp only [dropAnchor]

@[simp] theorem nodeDeactivateCmd_brk (lvl num : Nat) (s : State) : (nodeDeactivateCmd lvl num s).st.brk = s.brk := by
  simp only [nodeDeactivateCmd]; (repeat' split) <;> simp

@[simp] theorem nodeSetCmd_brk (lvl field value num : Nat) (s : State) : (nodeSetCmd lvl field value num s).st.brk = s.brk := by
  simp only [nodeSetCmd, nodeChange_brk, refuse_brk, topoUp_brk, brk_ite, CmdRes.st_ok, CmdRes.st_ite, ite_self]

@[simp] theorem attachTo_brk (i leg : Nat) (s : State) : (attachTo i leg s).brk = s.brk := by
  simp only [attachTo, joinLeg_brk, leaveLeg_brk, markMoved_brk, modCold_brk, setEntry_brk, topoUp_brk, brk_ite, ite_self]

@[simp] theorem attachCmd_brk (i leg : Nat) (s : State) : (attachCmd i leg s).st.brk = s.brk := by
  unfold attachCmd; (repeat' split) <;> simp only [attachTo_brk, refuse_brk, CmdRes.st_ok]

@[simp] theorem rejectCmd_brk (i phase : Nat) (s : State) : (rejectCmd i phase s).st.brk = s.brk := by
  simp only [rejectCmd, refuse_brk, setEntry_brk, suppressAdd_brk, brk_ite, CmdRes.st_ok, CmdRes.st_ite, ite_self]

@[simp] theorem nodeMoveCmd_brk (lvl num parent : Nat) (s : State) : (nodeMoveCmd lvl num parent s).st.brk = s.brk := by
  simp only [nodeMoveCmd, refuse_brk, brk_ite, CmdRes.st_ok, CmdRes.st_ite, ite_self]

@[simp] theorem rebuiltUp_brk (s : State) : (rebuiltUp s).brk = s.brk := by
  rfl

@[simp] theorem rebuild_brk (i : Nat) (s : State) : (rebuild i s).brk = s.brk := by
  unfold rebuild; (repeat' split) <;> simp only [checkRemove_brk, putSlot_brk, raise_brk, rebuiltUp_brk, setEntry_brk, topoUp_brk, unsuppress_brk, withdrawIndex_brk]

@[simp] theorem rebuildClean_brk (i : Nat) (s : State) : (rebuildClean i s).brk = s.brk := by
  unfold rebuildClean; (repeat' split) <;> simp only

@[simp] theorem sweepEntry_brk (i : Nat) (s : State) : (sweepEntry i s).brk = s.brk := by
  simp only [sweepEntry, modCold_brk, raise_brk, setEntry_brk, brk_ite, ite_self]

@[simp] theorem recountLeg_brk (k : Nat) (s : State) : (recountLeg k s).brk = s.brk := by
  simp only [recountLeg, nodeChange_brk, setWnode_brk, topoUp_brk, brk_ite, ite_self]

@[simp] theorem sweepAll_brk (s : State) : (sweepAll s).brk = s.brk := by
  simp [sweepAll]

/-! ### Weir -/

@[simp] theorem anomReading_brk (i : Nat) (tamper split first sameIv : Bool) (s : State) : (anomReading i tamper split first sameIv s).brk = s.brk := by
  simp only [anomReading, setAnom_brk, brk_ite, ite_self]

@[simp] theorem phaseEvidence_brk (i : Nat) (s : State) : (phaseEvidence i s).brk = s.brk := by
  simp only [phaseEvidence, propose_brk, weirReport_brk, brk_ite, ite_self]

@[simp] theorem sampleVoltage_brk (i sec : Nat) (mv : Int) (s : State) : (sampleVoltage i sec mv s).brk = s.brk := by
  simp only [sampleVoltage]

@[simp] theorem sampleFeeder_brk (k sec : Nat) (mv : List (Nat × Int)) (s : State) : (sampleFeeder k sec mv s).brk = s.brk := by
  simp only [sampleFeeder]

@[simp] theorem surveyFill_brk (s : State) : (surveyFill s).brk = s.brk := by
  unfold surveyFill; (repeat' split) <;> simp only

@[simp] theorem testEnd_brk (t : AffTest) (s0 : State) : (testEnd t s0).brk = s0.brk := by
  simp only [testEnd]; (repeat' split) <;> simp

@[simp] theorem affinityEnd_brk (i : Nat) (s : State) : (affinityEnd i s).brk = s.brk := by
  unfold affinityEnd; (repeat' split) <;> simp only [testEnd_brk]

@[simp] theorem affinityTestCmd_brk (c : Ctx) (mode n ncand : Nat) (s : State) : (affinityTestCmd c mode n ncand s).st.brk = s.brk := by
  simp only [affinityTestCmd, refuse_brk, brk_ite, CmdRes.st_ok, CmdRes.st_ite, ite_self]

@[simp] theorem abortReport_brk (t : AffTest) (s : State) : (abortReport t s).brk = s.brk := by
  unfold abortReport; (repeat' split) <;> simp only [drawFree_brk, weirReport_brk]

@[simp] theorem affinityAbortCmd_brk (c : Ctx) (all n : Nat) (s : State) : (affinityAbortCmd c all n s).st.brk = s.brk := by
  simp [affinityAbortCmd]

@[simp] theorem addAt_brk (n leg k : Nat) (p : Part) (s : State) : (addAt n leg k p s).brk = s.brk := by
  simp only [addAt, bump_brk, raise_brk, setWnode_brk, brk_ite, ite_self]

@[simp] theorem addCheck_brk (n i : Nat) (p : Part) (s : State) : (addCheck n i p s).brk = s.brk := by
  simp only [addCheck]

@[simp] theorem addBank_brk (n : Nat) (par : Nat → Nat) (p : Part) (s : State) : (addBank n par p s).brk = s.brk := by
  simp [addBank]

@[simp] theorem putSlotIv_brk (sl : Slot) (s : State) : (putSlotIv sl s).brk = s.brk := by
  simp only [putSlotIv]

@[simp] theorem stalePart_brk (p : Part) (s : State) : (stalePart p s).brk = s.brk := by
  simp only [stalePart, bump_brk, raise_brk]

@[simp] theorem accumulate_brk (p : Part) (s : State) : (accumulate p s).brk = s.brk := by
  unfold accumulate; (repeat' split) <;> simp

@[simp] theorem accumulateNext_brk (s : State) : (accumulateNext s).brk = s.brk := by
  unfold accumulateNext; (repeat' split) <;> simp only [accumulate_brk]

@[simp] theorem applyBoundary_brk (s : State) : (applyBoundary s).brk = s.brk := by
  unfold applyBoundary
  extract_lets ms mv _ s1 pend an _ keep s2
  have h1 : s1.brk = s.brk := by
    apply (foldl_brk ?_ _ _).trans
    · exact mk_brk ..
    · intro t e; simp only [mv, childUp_brk, childDown_brk, nodeChange_brk]
  have h2 : s2.brk = s.brk := by
    apply (foldl_brk ?_ _ _).trans
    · exact (mk_brk ..).trans h1
    · intro t e
      refine (mk_brk ..).trans ?_
      (repeat' split) <;> simp only [nodeChange_brk]
  split <;> simp only [h2, topoUp_brk]

@[simp] theorem openInterval_brk (n : Nat) (start : Bool) (s : State) : (openInterval n start s).brk = s.brk := by
  rfl

@[simp] theorem openNow_brk (s : State) : (openNow s).brk = s.brk := by
  unfold openNow; (repeat' split) <;> simp only [openInterval_brk]

@[simp] theorem intervalTurn_brk (n : Nat) (s : State) : (intervalTurn n s).brk = s.brk := by
  simp only [intervalTurn, applyBoundary_brk, openInterval_brk]

@[simp] theorem intervalEnd_brk (s : State) : (intervalEnd s).brk = s.brk := by
  unfold intervalEnd; (repeat' split) <;> simp only [applyBoundary_brk, intervalTurn_brk]

@[simp] theorem lateEnd_brk (s : State) : (lateEnd s).brk = s.brk := by
  unfold lateEnd; (repeat' split) <;> simp only

@[simp] theorem weirStep_brk (ms : Int) (s : State) : (weirStep ms s).brk = s.brk := by
  unfold weirStep; (repeat' split) <;> simp only [raise_brk]

@[simp] theorem gather_brk (sl : Slot) (s : State) : (gather sl s).2.brk = s.brk := by
  unfold gather
  refine foldl_brk2 (fun acc lvl => ?_) _ _
  refine foldl_brk2 (fun a k => ?_) _ _
  dsimp only
  (repeat' split) <;> simp only [raise_brk]

@[simp] theorem scoreNode_brk (sl : Slot) (k : Nat) (dp dn : Int) (s : State) : (scoreNode sl k dp dn s).brk = s.brk := by
  simp only [scoreNode, raise_brk, setWnode_brk, brk_ite, ite_self]

@[simp] theorem issue_brk (cls : Tab LossClass) (sl : Slot) (newest : Bool) (us : Nat) (s : State) : (issue cls sl newest us s).2.brk = s.brk := by
  simp [issue]

@[simp] theorem reissueAll_brk (us : Nat) (but : Nat) (s : State) : (reissueAll us but s).brk = s.brk := by
  simp [reissueAll]

@[simp] theorem closeEnd_brk (us again : Nat) (bad : List Nat) (s0 : State) : (closeEnd us again bad s0).brk = s0.brk := by
  simp only [closeEnd]
  (repeat' split) <;> simp

@[simp] theorem fluRegrid_brk (len : Nat) (s0 : State) : (fluRegrid len s0).brk = s0.brk := rfl

@[simp] theorem weirAfter_brk (old : Tab Int) (s : State) : (weirAfter old s).brk = s.brk := by
  unfold weirAfter; (repeat' split) <;> simp only [fluRegrid_brk]

@[simp] theorem weirEnableCmd_brk (en : Nat) (s : State) : (weirEnableCmd en s).st.brk = s.brk := by
  unfold weirEnableCmd; (repeat' split) <;> simp only [openNow_brk, queueDepthSeen_brk, refuse_brk, setQueue_brk, CmdRes.st_ok]

@[simp] theorem lossClassCmd_brk (lvl cls : Nat) (v : LossClass) (s : State) : (lossClassCmd lvl cls v s).st.brk = s.brk := by
  unfold lossClassCmd; (repeat' split) <;> simp only [refuse_brk, CmdRes.st_ok]

@[simp] theorem nodeClassCmd_brk (lvl cls num : Nat) (s : State) : (nodeClassCmd lvl cls num s).st.brk = s.brk := by
  simp only [nodeClassCmd, refuse_brk, setWnode_brk, brk_ite, CmdRes.st_ok, CmdRes.st_ite, ite_self]

@[simp] theorem checkBindCmd_brk (i lvl num : Nat) (s : State) : (checkBindCmd i lvl num s).st.brk = s.brk := by
  simp only [checkBindCmd, refuse_brk, setWnode_brk, brk_ite, CmdRes.st_ok, CmdRes.st_ite, ite_self]

@[simp] theorem checkUnbindCmd_brk (i : Nat) (s : State) : (checkUnbindCmd i s).st.brk = s.brk := by
  unfold checkUnbindCmd; (repeat' split) <;> simp only [checkRemove_brk, refuse_brk, CmdRes.st_ok]

@[simp] theorem intervalResultsCmd_brk (n first count : Nat) (s : State) : (intervalResultsCmd n first count s).st.brk = s.brk := by
  unfold intervalResultsCmd; (repeat' split) <;> simp only [refuse_brk, CmdRes.st_ok]

end Sys2Proof.Machine
end

