-- ==== Sys2Proof/Laws/ClaimFamilies.lean ====
section
/-! SUPPORT. The operations of each family that keep the claim part of State. -/

namespace Sys2Proof.Machine

/-! ### Flume -/

@[simp] theorem modStuck_brk (c : Nat) (bits : BitVec 256) (s : State) : (modStuck c bits s).brk = s.brk := by
  unfold modStuck; (repeat' split) <;> simp only [chanFault_brk]

@[simp] theorem chanRestore_brk (c : Nat) (bits : BitVec 4096) (s0 : State) : (chanRestore c bits s0).brk = s0.brk := by
  simp only [chanRestore, noteFlu_brk, raise_brk, setFluCh_brk, brk_ite, ite_self]

@[simp] theorem settlingEnd_brk (s0 : State) : (settlingEnd s0).brk = s0.brk := by
  simp [settlingEnd]

@[simp] theorem modPts_brk (f : FluPt → FluPt) (s : State) : (modPts f s).brk = s.brk := by
  rfl

@[simp] theorem decReset_brk (cause : Nat) (s0 : State) : (decReset cause s0).brk = s0.brk := by
  unfold decReset
  extract_lets s why s1 f s2
  have h : s2.brk = s0.brk := by
    show s1.brk = _
    rw [raise_brk, bump_brk, noteFlu_brk]
  split
  · exact h
  · rw [raise_brk]; exact h

@[simp] theorem msyncRise_brk (s : State) : (msyncRise s).brk = s.brk := by
  unfold msyncRise; (repeat' split) <;> simp only [decReset_brk]

@[simp] theorem decimResetCmd_brk (s : State) : (decimResetCmd s).st.brk = s.brk := by
  unfold decimResetCmd; rfl

@[simp] theorem resetEdge_brk (s : State) : (resetEdge s).brk = s.brk := by
  unfold resetEdge; (repeat' split) <;> simp only [decReset_brk]

@[simp] theorem refCheck_brk (s : State) : (refCheck s).brk = s.brk := by
  simp only [refCheck, raise_brk, brk_ite, ite_self]

@[simp] theorem feed_brk (bits : List (List (Option (BitVec 128)))) (s : State) : (feed bits s).brk = s.brk := by
  rfl

@[simp] theorem crossing_brk (phase : Nat) (bits : List (List (Option (BitVec 128)))) (s0 : State) : (crossing phase bits s0).brk = s0.brk := by
  simp only [crossing]
  (repeat' split) <;> simp

@[simp] theorem putChan_brk (c : Nat) (o : ChanOut) (s : State) : (putChan c o s).brk = s.brk := by
  unfold putChan; (repeat' split) <;> simp only [bump_brk, raise_brk, setFluCh_brk]

@[simp] theorem fluPass_brk (hi : Nat) (free : Int) (s : State) : (fluPass hi free s).brk = s.brk := by
  simp only [fluPass]
  (repeat' split) <;> simp

@[simp] theorem secondEnd_brk (bits : List (List (Option (BitVec 128)))) (s0 : State) : (secondEnd bits s0).brk = s0.brk := by
  unfold secondEnd
  split
  · rfl
  · extract_lets r fr s sec fq s1 pts _ s2 volts s3 s4
    refine (mk_brk ..).trans ((refCheck_brk _).trans ?_)
    apply (foldl_brk ?_ _ _).trans
    · show s1.brk = _
      simp only [s1, fluPass_brk, s, feed_brk, r, drawFree_brk]
    · intro t e; (repeat' split) <;> simp only [sampleFeeder_brk]

@[simp] theorem deliver_brk (p : Nat) (r : FluRec) (anchor : Option (Nat × Nat)) (s : State) : (deliver p r anchor s).brk = s.brk := by
  unfold deliver; (repeat' split) <;> simp

@[simp] theorem applyCal_brk (n : Nat) (bad : List Nat) (s : State) : (applyCal n bad s).brk = s.brk := by
  unfold applyCal
  extract_lets due left hit good s0 m s1 newly redo
  have h0 : s0.brk = s.brk := foldl_brk (fun t e => setFluCh_brk ..) _ _
  split
  · exact h0
  · rw [raise_brk]
    exact (foldl_brk (fun t e => setFluCh_brk ..) _ _).trans h0

@[simp] theorem closeOne_brk (badCal : List Nat) (badBank : Bool) (n : Nat) (s0 : State) : (closeOne badCal badBank n s0).brk = s0.brk := by
  simp [closeOne]

@[simp] theorem fluClose_brk (badCal : List Nat) (badBank : Bool) (bits : List (List (Option (BitVec 128)))) (s0 : State) : (fluClose badCal badBank bits s0).brk = s0.brk := by
  simp [fluClose]

@[simp] theorem fluTimeSet_brk (s : State) : (fluTimeSet s).brk = s.brk := by
  simp only [fluTimeSet, modPts_brk]

@[simp] theorem fluStep_brk (old s : State) : (fluStep old s).brk = s.brk := by
  simp only [fluStep]

@[simp] theorem flumeAfter_brk (old : Tab Int) (s : State) : (flumeAfter old s).brk = s.brk := by
  unfold flumeAfter; rfl

@[simp] theorem restartPts_brk (c : Nat) (s : State) : (restartPts c s).brk = s.brk := by
  simp only [restartPts, modPts_brk]

@[simp] theorem channelCmd_brk (c role invert scale : Nat) (s0 : State) : (channelCmd c role invert scale s0).st.brk = s0.brk := by
  simp only [channelCmd, chanFault_brk, noteFlu_brk, refuse_brk, restartPts_brk, setFluCh_brk, brk_ite, CmdRes.st_ok, CmdRes.st_ite, ite_self]

@[simp] theorem dcBlockerCmd_brk (c set load : Nat) (dc : Int) (s0 : State) : (dcBlockerCmd c set load dc s0).st.brk = s0.brk := by
  unfold dcBlockerCmd; (repeat' split) <;> simp only [noteFlu_brk, refuse_brk, CmdRes.st_ok]

@[simp] theorem coefLoadCmd_brk (c : Ctx) (bank crc : Nat) (s : State) : (coefLoadCmd c bank crc s).st.brk = s.brk := by
  simp only [coefLoadCmd, noteFlu_brk, refuse_brk, brk_ite, CmdRes.st_ok, CmdRes.st_ite, ite_self]

@[simp] theorem bankSwapCmd_brk (f : Nat) (s : State) : (bankSwapCmd f s).st.brk = s.brk := by
  unfold bankSwapCmd; (repeat' split) <;> simp only [noteFlu_brk, refuse_brk, CmdRes.st_ok]

@[simp] theorem fadeEnd_brk (s0 : State) : (fadeEnd s0).brk = s0.brk := by
  unfold fadeEnd; (repeat' split) <;> simp only [noteFlu_brk, raise_brk]

@[simp] theorem factoryCalCmd_brk (c : Nat) (b : List Byte) (s : State) : (factoryCalCmd c b s).st.brk = s.brk := by
  unfold factoryCalCmd; (repeat' split) <;> simp only [noteFlu_brk, refuse_brk, setFluCh_brk, CmdRes.st_ok]

@[simp] theorem userCalCmd_brk (c : Nat) (b : List Byte) (s : State) : (userCalCmd c b s).st.brk = s.brk := by
  simp only [userCalCmd, refuse_brk, setFluCh_brk, brk_ite, CmdRes.st_ok, CmdRes.st_ite, ite_self]

@[simp] theorem meteringCmd_brk (p nelem ref lvl num : Nat) (elems : List Nat) (s : State) : (meteringCmd p nelem ref lvl num elems s).st.brk = s.brk := by
  simp only [meteringCmd, refuse_brk, brk_ite, CmdRes.st_ok, CmdRes.st_ite, ite_self]

@[simp] theorem flumeIntervalsCmd_brk (p first count : Nat) (s : State) : (flumeIntervalsCmd p first count s).st.brk = s.brk := by
  unfold flumeIntervalsCmd; (repeat' split) <;> simp only [refuse_brk, CmdRes.st_ok]

/-! ### Fantail -/

@[simp] theorem reanchor_brk (s : State) : (reanchor s).brk = s.brk := by unfold reanchor; exact mk_brk ..

@[simp] theorem setRate_brk (r : Int) (s0 : State) : (setRate r s0).brk = s0.brk := by
  unfold setRate
  extract_lets s n s1
  show s1.brk = _
  rw [show s1.brk = s.brk from reanchor_brk s]
  exact noteFlu_brk s0

@[simp] theorem ppsDue_brk (s : State) : (ppsDue s).brk = s.brk := by
  unfold ppsDue
  (repeat' split) <;> simp

@[simp] theorem tick_brk (s : State) : (tick s).brk = s.brk := by
  simp only [tick, ppsDue_brk, reanchor_brk, resetEdge_brk, brk_ite, ite_self]

@[simp] theorem selectSrc_brk (k : Nat) (s : State) : (selectSrc k s).brk = s.brk := by
  simp only [selectSrc, setRate_brk]

@[simp] theorem sourceUp_brk (k : Nat) (s : State) : (sourceUp k s).brk = s.brk := by
  rfl

@[simp] theorem loseSelected_brk (s : State) : (loseSelected s).brk = s.brk := by
  simp only [loseSelected, raise_brk, selectSrc_brk, brk_ite, ite_self]

@[simp] theorem sourceDown_brk (k : Nat) (s : State) : (sourceDown k s).brk = s.brk := by
  unfold sourceDown; (repeat' split) <;> simp only [loseSelected_brk]

@[simp] theorem switchHold_brk (s : State) : (switchHold s).brk = s.brk := by
  simp only [switchHold]; (repeat' split) <;> simp

@[simp] theorem fanStep_brk (d : Int) (cause : Nat) (s : State) : (fanStep d cause s).brk = s.brk := by
  unfold fanStep
  extract_lets u s1 base src f src2 s2 src3 s3 ms s4 s5
  have h2 : s2.brk = s.brk := (bump_brk ..).trans ((mk_brk ..).trans (setRate_brk s.fan.freq s))
  have h4 : s4.brk = s.brk := (weirStep_brk ..).trans ((raise_brk ..).trans ((mk_brk ..).trans h2))
  have h : s5.brk = s.brk := by
    refine (fluStep_brk ..).trans ?_
    split
    · rw [fluTimeSet_brk, h4]
    · exact h4
  split <;> simp only [openNow_brk, h]

@[simp] theorem slew_brk (k : Nat) (e : Int) (s : State) : (slew k e s).brk = s.brk := by
  simp only [slew, setRate_brk]

@[simp] theorem lockCount_brk (e : Int) (s : State) : (lockCount e s).brk = s.brk := by
  simp only [lockCount, raise_brk, brk_ite, ite_self]

@[simp] theorem accepted_brk (k : Nat) (e : Int) (s : State) : (accepted k e s).brk = s.brk := by
  simp only [accepted]

@[simp] theorem refuseJump_brk (k : Nat) (e : Int) (s : State) : (refuseJump k e s).brk = s.brk := by
  simp only [refuseJump, bump_brk, raise_brk, brk_ite, ite_self]

@[simp] theorem judgeSample_brk (k : Nat) (e : Int) (s : State) : (judgeSample k e s).brk = s.brk := by
  simp only [judgeSample, accepted_brk, fanStep_brk, lockCount_brk, loseSelected_brk, refuseJump_brk, slew_brk, brk_ite, ite_self]

@[simp] theorem onSample_brk (k : Nat) (e : Int) (s0 : State) : (onSample k e s0).brk = s0.brk := by
  simp only [onSample, accepted_brk, fanStep_brk, judgeSample_brk, sourceUp_brk, brk_ite, ite_self]

@[simp] theorem timeSetCmd_brk (sec nsec : Nat) (s : State) : (timeSetCmd sec nsec s).st.brk = s.brk := by
  simp only [timeSetCmd, accepted_brk, fanStep_brk, lockCount_brk, refuse_brk, refuseJump_brk, slew_brk, brk_ite, CmdRes.st_ok, CmdRes.st_fail, CmdRes.st_ite, ite_self]

@[simp] theorem timeForceCmd_brk (mode src sec nsec : Nat) (s : State) : (timeForceCmd mode src sec nsec s).st.brk = s.brk := by
  unfold timeForceCmd; (repeat' split) <;> simp only [fanStep_brk, refuse_brk, selectSrc_brk, CmdRes.st_ok]

@[simp] theorem setUtc_brk (ofs : Nat) (l61 l59 : Bool) (s : State) : (setUtc ofs l61 l59 s).brk = s.brk := by
  simp only [setUtc, raise_brk]

@[simp] theorem utcOffsetCmd_brk (ofs leap : Nat) (s : State) : (utcOffsetCmd ofs leap s).st.brk = s.brk := by
  unfold utcOffsetCmd; (repeat' split) <;> simp only [refuse_brk, setUtc_brk, CmdRes.st_ok]

@[simp] theorem leapEnd_brk (s : State) : (leapEnd s).brk = s.brk := by
  simp only [leapEnd, setUtc_brk, brk_ite, ite_self]

@[simp] theorem dropSource_brk (k : Nat) (s : State) : (dropSource k s).brk = s.brk := by
  simp only [dropSource, sourceDown_brk, sourceUp_brk, brk_ite, ite_self]

@[simp] theorem fantailAfter_brk (old : Tab Int) (s : State) : (fantailAfter old s).brk = s.brk := by
  simp only [fantailAfter, dropSource_brk, brk_ite, ite_self]

@[simp] theorem electMaster_brk (s : State) : (electMaster s).brk = s.brk := by
  simp only [electMaster]; (repeat' split) <;> simp

@[simp] theorem announceUtc_brk (utc : Option (U16 × Bool × Bool)) (s : State) : (announceUtc utc s).brk = s.brk := by
  unfold announceUtc; (repeat' split) <;> simp only [setUtc_brk]

@[simp] theorem ptpExchange_brk (t4 : Int) (s : State) : (ptpExchange t4 s).brk = s.brk := by
  unfold ptpExchange; (repeat' split) <;> simp

@[simp] theorem ptpMessage_brk (frac : Nat) (m : PtpMsg) (s : State) : (ptpMessage frac m s).brk = s.brk := by
  unfold ptpMessage; (repeat' split) <;> simp

@[simp] theorem delayReq_brk (frac : Nat) (s : State) : (delayReq frac s).brk = s.brk := by
  unfold delayReq; (repeat' split) <;> simp only [emitEth_brk]

@[simp] theorem pushStamp_brk (b : List Byte) (s : State) : (pushStamp b s).brk = s.brk := by
  simp only [pushStamp, bump_brk, pushKeep_brk, raise_brk, brk_ite, ite_self]

@[simp] theorem ptpEgress_brk (port frac : Nat) (s : State) : (ptpEgress port frac s).brk = s.brk := by
  unfold ptpEgress; (repeat' split) <;> simp only [emitEth_brk, pushStamp_brk, replyLater_brk]

@[simp] theorem ptpTransmitCmd_brk (c : Ctx) (port mode id len : Nat) (s : State) : (ptpTransmitCmd c port mode id len s).st.brk = s.brk := by
  simp only [ptpTransmitCmd]; (repeat' split) <;> simp

@[simp] theorem transparent_brk (ingress : Nat) (l : List Byte) (residence : Nat) (s : State) : (transparent ingress l residence s).brk = s.brk := by
  unfold transparent; (repeat' split) <;> simp only [bump_brk, emitEth_brk]

@[simp] theorem ppsEdge_brk (frac : Nat) (s : State) : (ppsEdge frac s).brk = s.brk := by
  simp only [ppsEdge]; (repeat' split) <;> simp

@[simp] theorem ppsPulse_brk (s : State) : (ppsPulse s).brk = s.brk := by
  simp only [ppsPulse, emit_brk, brk_ite, ite_self]

@[simp] theorem sourceLost_brk (k : Nat) (s : State) : (sourceLost k s).brk = s.brk := by
  simp only [sourceLost, bump_brk, electMaster_brk, raise_brk, sourceDown_brk, brk_ite, ite_self]

@[simp] theorem rtcLoad_brk (s : State) : (rtcLoad s).brk = s.brk := by
  unfold rtcLoad; (repeat' split) <;> simp only

@[simp] theorem resumeSeed_brk (s : State) : (resumeSeed s).brk = s.brk := by
  unfold resumeSeed
  extract_lets f k base s1 ms src s2
  split
  · rfl
  · rw [fluStep_brk, weirStep_brk, raise_brk]
    rfl

@[simp] theorem snapTake_brk (value : Nat) (s : State) : (snapTake value s).brk = s.brk := by
  unfold snapTake; (repeat' split) <;> simp only

/-! ### Checkpoint -/

theorem ckptPlace_brk {r r' : CkptRun} {b q : Nat} {s t : State} (h : ckptPlace r s = some (b, q, r', t)) : t.brk = s.brk := by
  have hf : ∀ {x : Nat × Nat × CkptRun × State}, (takeData s).map (fun x => (x.1, 0, { r with blocks := r.blocks ++ [x.1] }, x.2)) = some x →
      x.2.2.2.brk = s.brk := by
    intro x hx
    obtain ⟨y, hy, rfl⟩ := Option.map_eq_some_iff.mp hx
    exact takeData_brk hy
  unfold ckptPlace at h
  extract_lets fresh at h
  split at h
  · split at h
    · cases h; rfl
    · exact hf h
  · exact hf h

@[simp] theorem spoilAnchor_brk (s : State) : (spoilAnchor s).brk = s.brk := by
  simp only [spoilAnchor, setChan_brk]

@[simp] theorem tornPage_brk (ppn : Nat) (s : State) : (tornPage ppn s).brk = s.brk := by
  rfl

/-! ### ServicePort -/

@[simp] theorem journalPut_brk (chunk : Bool) (s0 : State) : (journalPut chunk s0).brk = s0.brk := by
  simp only [journalPut]

@[simp] theorem refuseUpd_brk (op : Nat) (st : Status) (arg : Nat) (s : State) : (refuseUpd op st arg s).st.brk = s.brk := by
  simp only [refuseUpd, recordOnly_brk]

@[simp] theorem heard_brk (entry : Nat) (s : State) : (heard entry s).brk = s.brk := by
  unfold heard; (repeat' split) <;> simp only

@[simp] theorem svcIdentify_brk (s : State) : (svcIdentify s).st.brk = s.brk := by
  rfl

@[simp] theorem svcLock_brk (entry : Nat) (h : List Byte) (s : State) : (svcLock entry h s).st.brk = s.brk := by
  simp only [svcLock]; (repeat' split) <;> simp

@[simp] theorem svcData_brk (entry arg : Nat) (bytes : List Byte) (s : State) : (svcData entry arg bytes s).st.brk = s.brk := by
  simp only [svcData]; (repeat' split) <;> simp

@[simp] theorem svcDone_brk (entry : Nat) (s : State) : (svcDone entry s).st.brk = s.brk := by
  simp only [svcDone]; (repeat' split) <;> simp

@[simp] theorem svcRelease_brk (entry : Nat) (s : State) : (svcRelease entry s).st.brk = s.brk := by
  unfold svcRelease; (repeat' split) <;> simp only [releaseLock_brk]

@[simp] theorem svcDisarm_brk (s : State) : (svcDisarm s).st.brk = s.brk := by
  unfold svcDisarm; (repeat' split) <;> simp only [journalPut_brk]

@[simp] theorem svcProvision_brk (p : Provision) (s : State) : (svcProvision p s).st.brk = s.brk := by
  unfold svcProvision; (repeat' split) <;> simp only [lcStep_brk]

@[simp] theorem svcChallenge_brk (s : State) : (svcChallenge s).st.brk = s.brk := by
  unfold svcChallenge; (repeat' split) <;> simp only [newChallenge_brk]

@[simp] theorem svcToken_brk (entry level : Nat) (t : List Byte) (s : State) : (svcToken entry level t s).st.brk = s.brk := by
  simp only [svcToken, debugRequest_brk]

@[simp] theorem svcReply_brk (entry op : Nat) (tag : U16) (r : SvcRes) : (svcReply entry op tag r).brk = r.st.brk := by
  unfold svcReply; split <;> simp only [emit_brk, heard_brk]

@[simp] theorem svcRun_brk {entry op : Nat} {tag : U16} {f : State → SvcRes} (s : State) (h : (f s).st.brk = s.brk) :
    (svcRun entry op tag f s).brk = s.brk := by
  unfold svcRun; (repeat' split) <;> simp only [svcReply_brk, h]

@[simp] theorem configSave_brk (s : State) : (configSave s).2.brk = s.brk := by
  simp only [configSave]

@[simp] theorem configSaveCmd_brk (s : State) : (configSaveCmd s).st.brk = s.brk := by
  simp only [configSaveCmd, configSave_brk, refuse_brk, brk_ite, CmdRes.st_ok, CmdRes.st_ite, ite_self]

@[simp] theorem healthTouch_brk (s : State) : (healthTouch s).brk = s.brk := by
  rfl

@[simp] theorem confirm_brk (s : State) : (confirm s).brk = s.brk := by
  simp only [confirm, journalPut_brk, recordOnly_brk]

@[simp] theorem healthConfirm_brk (s : State) : (healthConfirm s).brk = s.brk := by
  unfold healthConfirm; (repeat' split) <;> simp only [confirm_brk]

@[simp] theorem lockIdle_brk (s : State) : (lockIdle s).brk = s.brk := by
  unfold lockIdle; (repeat' split) <;> simp only [releaseLock_brk]

@[simp] theorem usbDetach_brk (s : State) : (usbDetach s).brk = s.brk := by
  simp only [usbDetach, endDebug_brk, releaseLock_brk, brk_ite, ite_self]

/-! ### Millrace -/

@[simp] theorem present_brk (f0 : Frame) (s : State) : (present f0 s).brk = s.brk := by
  simp only [present, setLane_brk]

@[simp] theorem presentLocal_brk (f : Frame) (s : State) : (presentLocal f s).brk = s.brk := by
  unfold presentLocal; (repeat' split) <;> simp only [bump_brk, present_brk]

@[simp] theorem moveHeld_brk (s : State) : (moveHeld s).brk = s.brk := by
  unfold moveHeld
  apply foldl_brk
  intro t l
  split
  · rfl
  · extract_lets v held
    apply (foldl_brk ?_ _ _).trans
    · rfl
    · intro u f; rfl

@[simp] theorem laneStop_brk (l cause : Nat) (s : State) : (laneStop l cause s).brk = s.brk := by
  simp only [laneStop, enterSafe_brk, moveHeld_brk, raise_brk, brk_ite, ite_self]

@[simp] theorem laneReturn_brk (l : Nat) (s : State) : (laneReturn l s).brk = s.brk := by
  simp only [laneReturn, moveHeld_brk]

@[simp] theorem sendGwAck_brk (a : GwAck) (s : State) : (sendGwAck a s).brk = s.brk := by
  simp only [sendGwAck, emitEth_brk, setGw_brk]

@[simp] theorem owe_brk (eth addr udp gwId : Nat) (e : List Byte) (s : State) : (owe eth addr udp gwId e s).brk = s.brk := by
  simp only [owe, sendGwAck_brk, brk_ite, ite_self]

@[simp] theorem gwAckDue_brk (s : State) : (gwAckDue s).brk = s.brk := by
  simp [gwAckDue]

@[simp] theorem decide__brk (yes : Bool) (i : Nat) (f : Frame) (s : State) : (decide_ yes i f s).brk = s.brk := by
  unfold decide_; (repeat' split) <;> simp

@[simp] theorem modSeen_brk (f : Frame) (g : Seen → Seen) (s : State) : (modSeen f g s).brk = s.brk := by
  simp only [modSeen]

@[simp] theorem displaced_brk (e : Seen) (s : State) : (displaced e s).brk = s.brk := by
  simp only [displaced, bump_brk, raise_brk, brk_ite, ite_self]

@[simp] theorem relayDisplaced_brk (e : Seen) (s : State) : (relayDisplaced e s).brk = s.brk := by
  simp only [relayDisplaced, bump_brk, queueDepthSeen_brk, raise_brk, recallRadio_brk, setQueue_brk, brk_ite, ite_self]

theorem insertSeen_brk {l : Nat} {f : Frame} {s t : State} (h : insertSeen l f s = some t) : t.brk = s.brk := by
  unfold insertSeen at h
  extract_lets loc at h
  split at h
  · cases h
  · next w v _ =>
    cases h
    cases v with
    | none => rfl
    | some e => exact (relayDisplaced_brk ..).trans (displaced_brk ..)

@[simp] theorem seenWalk_brk (s : State) : (seenWalk s).brk = s.brk := by
  rfl

@[simp] theorem countVerdict_brk (l : Nat) (s : State) : (countVerdict l s).brk = s.brk := by
  unfold countVerdict; (repeat' split) <;> simp only

@[simp] theorem duplicate_brk (e : Seen) (f : Frame) (s : State) : (duplicate e f s).brk = s.brk := by
  simp [duplicate]

theorem probe_brk {l : Nat} {f : Frame} {s t : State} (h : probe l f s = some t) : t.brk = s.brk := by
  unfold probe at h
  split at h
  · cases h; simp only [duplicate_brk, countVerdict_brk]
  · rw [insertSeen_brk h, bump_brk, countVerdict_brk]

@[simp] theorem admission_brk (l : Nat) (f : Frame) (s : State) : (admission l f s).brk = s.brk := by
  unfold admission
  cases h : probe l f s with
  | none => rfl
  | some t => exact probe_brk h

@[simp] theorem verdict_brk (l : Nat) (poison : Bool) (f0 : Frame) (s0 : State) : (verdict l poison f0 s0).brk = s0.brk := by
  simp only [verdict]; (repeat' split) <;> simp

@[simp] theorem sluice_brk (l : Nat) (agree poison : Bool) (s : State) : (sluice l agree poison s).brk = s.brk := by
  simp only [sluice]; (repeat' split) <;> simp

@[simp] theorem insertRetry_brk (l : Nat) (s : State) : (insertRetry l s).brk = s.brk := by
  unfold insertRetry
  extract_lets v
  split
  · rfl
  · split
    · rfl
    · next f rest _ _ =>
      cases h : probe l f (setLane l { v with insWait := rest } s) with
      | none => rfl
      | some t => exact (probe_brk h).trans rfl

@[simp] theorem heldLate_brk (yes : Bool) (c : Frame) (s : State) : (heldLate yes c s).brk = s.brk := by
  unfold heldLate; (repeat' split) <;> simp only [bump_brk]

@[simp] theorem closeFrame_brk (f : Frame) (st : Option ScSt) (s : State) : (closeFrame f st s).brk = s.brk := by
  unfold closeFrame; (repeat' split) <;> simp

@[simp] theorem touchKey_brk (i : Nat) (s : State) : (touchKey i s).brk = s.brk := by
  rfl

@[simp] theorem authFail_brk (f : Frame) (cause : Option Nat) (s : State) : (authFail f cause s).brk = s.brk := by
  unfold authFail; (repeat' split) <;> simp only [bump_brk, closeFrame_brk, modCold_brk, raise_brk]

@[simp] theorem toUpdate_brk (l : Nat) (f : Frame) (s : State) : (toUpdate l f s).brk = s.brk := by
  simp only [toUpdate, setLane_brk]

@[simp] theorem decryptFrame_brk (l : Nat) (f : Frame) (k : Vault) (s : State) : (decryptFrame l f k s).brk = s.brk := by
  unfold decryptFrame; (repeat' split) <;> simp only [authFail_brk, setLane_brk]

@[simp] theorem quern_brk (l : Nat) (s : State) : (quern l s).brk = s.brk := by
  simp only [quern]; (repeat' split) <;> simp

@[simp] theorem keyUnwrapped_brk (l : Nat) (ok : Bool) (s : State) : (keyUnwrapped l ok s).brk = s.brk := by
  simp only [keyUnwrapped]; (repeat' split) <;> simp

@[simp] theorem bolter_brk (l : Nat) (s : State) : (bolter l s).brk = s.brk := by
  simp only [bolter]; (repeat' split) <;> simp

@[simp] theorem sendBatch_brk (resend : Bool) (b : Batch) (s : State) : (sendBatch resend b s).brk = s.brk := by
  unfold sendBatch
  split
  · rfl
  · extract_lets d
    apply foldl_brk
    intro t e; simp only [bump_brk, emitEth_brk]

@[simp] theorem resumeExport_brk (s : State) : (resumeExport s).brk = s.brk := by
  simp [resumeExport]

@[simp] theorem lostBatch_brk (o : Batch) (s : State) : (lostBatch o s).brk = s.brk := by
  simp only [lostBatch, bump_brk, raise_brk, brk_ite, ite_self]

@[simp] theorem trimRing_brk (room n : Nat) (s : State) : (trimRing room n s).brk = s.brk := by
  induction n generalizing s with
  | zero => rfl
  | succ n ih => rw [trimRing]; (repeat' split) <;> simp only [ih, lostBatch_brk]

@[simp] theorem closeBatch_brk (s : State) : (closeBatch s).brk = s.brk := by
  unfold closeBatch; (repeat' split) <;> simp

@[simp] theorem openBatch_brk (r : List Byte) (s : State) : (openBatch r s).brk = s.brk := by
  simp only [openBatch]; (repeat' split) <;> simp

@[simp] theorem exportRec_brk (r : List Byte) (s : State) : (exportRec r s).brk = s.brk := by
  unfold exportRec; (repeat' split) <;> simp only [closeBatch_brk, openBatch_brk]

@[simp] theorem batchTimeout_brk (s : State) : (batchTimeout s).brk = s.brk := by
  unfold batchTimeout; (repeat' split) <;> simp only [closeBatch_brk]

@[simp] theorem reserveRecord_brk (k : Nat) (s : State) : (reserveRecord k s).brk = s.brk := by
  simp only [reserveRecord, appendCounter_brk, recordOnly_brk, setReserve_brk, brk_ite, ite_self]

@[simp] theorem weirDelta_brk (f : Frame) (p : List Byte) (old : Entry) (s : State) : (weirDelta f p old s).2.brk = s.brk := by
  simp only [weirDelta, anomReading_brk, bump_brk, phaseEvidence_brk, setEntry_brk]

@[simp] theorem readingWrites_brk (f : Frame) (p : List Byte) (ahead : Bool) (old : Entry) (s : State) :
    (readingWrites f p ahead old s).2.2.brk = s.brk := by
  unfold readingWrites; (repeat' split) <;> simp

@[simp] theorem dlCommit_brk (f : Frame) (s : State) : (dlCommit f s).brk = s.brk := by
  unfold dlCommit; (repeat' split) <;> simp only [setDl_brk]

@[simp] theorem relaySchedule_brk (f : Frame) (s : State) : (relaySchedule f s).brk = s.brk := by
  unfold relaySchedule; (repeat' split) <;> simp

@[simp] theorem commit_brk (f : Frame) (p : List Byte) (ahead seed : Bool) (last map : Nat) (s : State) : (commit f p ahead seed last map s).brk = s.brk := by
  unfold commit; (repeat' split) <;> simp

@[simp] theorem refusedFate_brk (f : Frame) (rule last map : Nat) (s : State) : (refusedFate f rule last map s).brk = s.brk := by
  simp only [refusedFate, bump_brk, closeFrame_brk, modCold_brk, raise_brk, setEntry_brk, brk_ite, ite_self]

@[simp] theorem updateFrame_brk (f : Frame) (s : State) : (updateFrame f s).brk = s.brk := by
  simp only [updateFrame]; (repeat' split) <;> simp

@[simp] theorem ledgerUpdate_brk (l : Nat) (bad : Bool) (s : State) : (ledgerUpdate l bad s).brk = s.brk := by
  simp only [ledgerUpdate]; (repeat' split) <;> simp

/-! ### Headrace -/

@[simp] theorem hrDrop_brk (gw : Nat) (s : State) : (hrDrop gw s).brk = s.brk := by
  simp only [hrDrop, bump_brk, drawFree_brk, raise_brk]

@[simp] theorem stagingOverflow_brk (s : State) : (stagingOverflow s).brk = s.brk := by
  simp only [stagingOverflow, bump_brk, raise_brk]

@[simp] theorem stage_brk (d : Staged) (s : State) : (stage d s).brk = s.brk := by
  unfold stage; (repeat' split) <;> simp only [stagingOverflow_brk]

@[simp] theorem headrace_brk (f : UdpIn) (s : State) : (headrace f s).brk = s.brk := by
  unfold headrace; (repeat' split) <;> simp

@[simp] theorem laneDraw_brk (s : State) : (laneDraw s).brk = s.brk := by
  unfold laneDraw; (repeat' split) <;> simp

@[simp] theorem resendRange_brk (lo hi : Nat) (s : State) : (resendRange lo hi s).brk = s.brk := by
  unfold resendRange
  apply foldl_brk
  intro t k
  (repeat' split) <;> simp only [sendBatch_brk, raise_brk]

@[simp] theorem nack_brk (f : UdpIn) (s : State) : (nack f s).brk = s.brk := by
  unfold nack; (repeat' split) <;> simp

@[simp] theorem ingestAfter_brk (ents : List CfgEntry) (x10 : Tab Int) (s : State) : (ingestAfter ents x10 s).brk = s.brk := by
  unfold ingestAfter
  extract_lets s1
  have h : s1.brk = s.brk := by simp only [s1]; split <;> simp only [trimRing_brk]
  split
  · rw [resumeExport_brk]; exact h
  · exact h

@[simp] theorem gatewaySetCmd_brk (g op af addr : Nat) (s : State) : (gatewaySetCmd g op af addr s).st.brk = s.brk := by
  unfold gatewaySetCmd; (repeat' split) <;> simp only [refuse_brk, setGw_brk, CmdRes.st_ok]

@[simp] theorem exportSetCmd_brk (op af port addr : Nat) (s : State) : (exportSetCmd op af port addr s).st.brk = s.brk := by
  unfold exportSetCmd; (repeat' split) <;> simp only [refuse_brk, resumeExport_brk, CmdRes.st_ok]

@[simp] theorem relayCmd_brk (c : Ctx) (ndg : Nat) (s : State) : (relayCmd c ndg s).st.brk = s.brk := by
  unfold relayCmd
  split
  · rfl
  · split
    · rfl
    · extract_lets good put
      split
      · rfl
      · refine (congrArg State.brk (CmdRes.st_ok ..)).trans ?_
        apply foldl_brk
        intro t d
        simp only [put]
        split <;> simp only [hrDrop_brk, stage_brk]

@[simp] theorem paceEnd_brk (s : State) : (paceEnd s).brk = s.brk := by
  simp only [paceEnd, brk_ite, ite_self]

@[simp] theorem paceRefresh_brk (v : Nat) (s : State) : (paceRefresh v s).brk = s.brk := by
  simp only [paceRefresh, raise_brk, brk_ite, ite_self]

@[simp] theorem paceCtrl_brk (v : Nat) (s : State) : (paceCtrl v s).brk = s.brk := by
  simp only [paceCtrl, brk_ite, ite_self]

/-! ### Vane -/

@[simp] theorem onAir_brk (p : Nat) (s : State) : (onAir p s).brk = s.brk := by
  simp only [onAir]; (repeat' split) <;> simp

@[simp] theorem nextChannel_brk (p : Nat) (s : State) : (nextChannel p s).brk = s.brk := by
  simp only [nextChannel]; (repeat' split) <;> simp

@[simp] theorem scriptEnd_brk (p k : Nat) (cmd : Option (Nat × Nat)) (s : State) : (scriptEnd p k cmd s).brk = s.brk := by
  unfold scriptEnd; (repeat' split) <;> simp only [nextChannel_brk, onAir_brk, replyLater_brk, setVport_brk]

@[simp] theorem startScript_brk (p k : Nat) (s : State) : (startScript p k s).brk = s.brk := by
  unfold startScript; (repeat' split) <;> simp only [emit_brk, scriptEnd_brk, setVport_brk]

@[simp] theorem startTx_brk (p : Nat) (f : TxFrame) (s : State) : (startTx p f s).brk = s.brk := by
  simp only [startTx, setVport_brk, startScript_brk]

@[simp] theorem spiDone_brk (p : Nat) (miso : List Byte) (s : State) : (spiDone p miso s).brk = s.brk := by
  simp only [spiDone]; (repeat' split) <;> simp

@[simp] theorem restartPort_brk (p : Nat) (s : State) : (restartPort p s).brk = s.brk := by
  simp only [restartPort, cutPort_brk, raise_brk, setVport_brk]

@[simp] theorem secEnable_brk (old : Tab Int) (s : State) : (secEnable old s).brk = s.brk := by
  unfold secEnable
  extract_lets
  (repeat' split) <;> first | rfl | rw [sourceDown_brk]

@[simp] theorem vaneConfigAfter_brk (ents : List CfgEntry) (old : Tab Int) (s : State) : (vaneConfigAfter ents old s).brk = s.brk := by
  simp [vaneConfigAfter]

@[simp] theorem scriptLoadCmd_brk (c : Ctx) (p k n : Nat) (s : State) : (scriptLoadCmd c p k n s).st.brk = s.brk := by
  simp only [scriptLoadCmd, refuse_brk, setVport_brk, brk_ite, CmdRes.st_ok, CmdRes.st_ite, ite_self]

@[simp] theorem channelScriptCmd_brk (c : Ctx) (p : Nat) (s : State) : (channelScriptCmd c p s).st.brk = s.brk := by
  unfold channelScriptCmd; (repeat' split) <;> simp only [nextChannel_brk, openRecord_brk, refuse_brk, setVport_brk, CmdRes.st_later]

@[simp] theorem upAccepted_brk (bseq rxTick period : Nat) (s : State) : (upAccepted bseq rxTick period s).brk = s.brk := by
  unfold upAccepted
  extract_lets v track
  have h : ∀ t, (track t).brk = t.brk := fun _ => rfl
  (repeat' split) <;> simp only [sourceUp_brk, raise_brk, h]

@[simp] theorem upstream_brk (b : List Byte) (rxNs rxTick : Nat) (s : State) : (upstream b rxNs rxTick s).brk = s.brk := by
  unfold upstream
  extract_lets
  split
  · exact raise_brk ..
  · exact (onSample_brk ..).trans ((upAccepted_brk ..).trans (mk_brk ..))

@[simp] theorem foreignBeacon_brk (p conc : Nat) (s : State) : (foreignBeacon p conc s).brk = s.brk := by
  simp only [foreignBeacon, raise_brk, brk_ite, ite_self]

@[simp] theorem beaconHeard_brk (p : Nat) (b : List Byte) (rxNs rxTick : Nat) (s : State) : (beaconHeard p b rxNs rxTick s).brk = s.brk := by
  simp only [beaconHeard, foreignBeacon_brk, raise_brk, upstream_brk, brk_ite, ite_self]

@[simp] theorem upstreamDeadline_brk (s : State) : (upstreamDeadline s).brk = s.brk := by
  unfold upstreamDeadline
  extract_lets v
  (repeat' split) <;> first | rfl | rw [raise_brk, sourceDown_brk]

@[simp] theorem grfHeard_brk (p : Nat) (x : Ppdu) (m : Mac) (rxNs endAt : Nat) (s : State) : (grfHeard p x m rxNs endAt s).brk = s.brk := by
  unfold grfHeard
  extract_lets
  rw [presentLocal_brk]; rfl

@[simp] theorem ppduReceived_brk (p : Fin 8) (x : Ppdu) (s : State) : (ppduReceived p x s).brk = s.brk := by
  simp only [ppduReceived]; (repeat' split) <;> simp

@[simp] theorem gatedDrop_brk (p : Nat) (s : State) : (gatedDrop p s).brk = s.brk := by
  simp only [gatedDrop, bump_brk, raise_brk]

@[simp] theorem ackCutoff_brk (p : Nat) (arriving : Bool) (s : State) : (ackCutoff p arriving s).brk = s.brk := by
  simp only [ackCutoff]; (repeat' split) <;> simp

@[simp] theorem csmaFail_brk (p : Nat) (f : TxFrame) (s : State) : (csmaFail p f s).brk = s.brk := by
  unfold csmaFail; (repeat' split) <;> simp only [bump_brk, raise_brk, setVport_brk]

@[simp] theorem csmaComplete_brk (p : Fin 8) (cca : List (Byte × Int)) (shr air : Nat) (s : State) : (csmaComplete p cca shr air s).brk = s.brk := by
  simp only [csmaComplete]; (repeat' split) <;> simp

@[simp] theorem txEnd_brk (p : Nat) (s : State) : (txEnd p s).brk = s.brk := by
  simp only [txEnd]; (repeat' split) <;> simp

@[simp] theorem ackWaitExpiry_brk (p : Nat) (s : State) : (ackWaitExpiry p s).brk = s.brk := by
  simp only [ackWaitExpiry]; (repeat' split) <;> simp

@[simp] theorem relayTime_brk (bad : Bool) (s0 : State) : (relayTime bad s0).brk = s0.brk := by
  simp only [relayTime]; (repeat' split) <;> simp

@[simp] theorem relayLate_brk (p : Nat) (s : State) : (relayLate p s).brk = s.brk := by
  simp [relayLate]

@[simp] theorem takeBseq_brk (s : State) : (takeBseq s).2.brk = s.brk := by
  simp only [takeBseq]; (repeat' split) <;> simp

@[simp] theorem beaconDue_brk (p : Nat) (s : State) : (beaconDue p s).brk = s.brk := by
  unfold beaconDue
  extract_lets
  split
  · rfl
  · split
    · exact (gatedDrop_brk ..).trans (setVport_brk ..)
    · split
      · next h => exact (congrArg (fun x => x.2.brk) h).symm.trans ((takeBseq_brk _).trans (setVport_brk ..))
      · next h =>
        have hb := (congrArg (fun x => x.2.brk) h).symm.trans ((takeBseq_brk _).trans (setVport_brk ..))
        exact (radioQueue_brk ..).trans ((mk_brk ..).trans hb)

@[simp] theorem beaconDrop_brk (p : Nat) (s : State) : (beaconDrop p s).brk = s.brk := by
  simp [beaconDrop]

@[simp] theorem rampEnd_brk (s : State) : (rampEnd s).brk = s.brk := by
  unfold rampEnd; (repeat' split) <;> simp only [raise_brk]

/-! ### Leat -/

@[simp] theorem plcOut_brk (p tm : Nat) (b : List Byte) (s : State) : (plcOut p tm b s).brk = s.brk := by
  unfold plcOut; rfl

@[simp] theorem leaGated_brk (p : Nat) (s : State) : (leaGated p s).brk = s.brk := by
  simp only [leaGated, bump_brk, raise_brk]

@[simp] theorem plcSend_brk (p : Nat) (b : List Byte) (s : State) : (plcSend p b s).brk = s.brk := by
  unfold plcSend; (repeat' split) <;> simp only [leaGated_brk, plcOut_brk]

@[simp] theorem slotChange_brk (p n : Nat) (c : SlotChange) (s : State) : (slotChange p n c s).brk = s.brk := by
  unfold slotChange; (repeat' split) <;> simp

@[simp] theorem exchangeOver_brk (p : Nat) (s : State) : (exchangeOver p s).brk = s.brk := by
  simp [exchangeOver]

@[simp] theorem applyWaiting_brk (p : Nat) (s : State) : (applyWaiting p s).brk = s.brk := by
  simp [applyWaiting]

@[simp] theorem freedExch_brk (p : Nat) (e : Exch) (s : State) : (freedExch p e s).brk = s.brk := by
  unfold freedExch
  (repeat' split) <;> simp only [dropItem_brk, exchangeOver_brk]

@[simp] theorem releaseElsewhere_brk (p n i : Nat) (s : State) : (releaseElsewhere p n i s).brk = s.brk := by
  simp [releaseElsewhere]

@[simp] theorem allocate_brk (p n i : Nat) (s : State) : (allocate p n i s).brk = s.brk := by
  simp only [allocate, putSlotL_brk, raise_brk, releaseElsewhere_brk, setLport_brk]

@[simp] theorem scheduleLoadCmd_brk (c : Ctx) (p n : Nat) (s : State) : (scheduleLoadCmd c p n s).st.brk = s.brk := by
  simp only [scheduleLoadCmd, refuse_brk, setLport_brk, brk_ite, CmdRes.st_ok, CmdRes.st_ite, ite_self]

@[simp] theorem slotReadCmd_brk (p first count : Nat) (s : State) : (slotReadCmd p first count s).st.brk = s.brk := by
  unfold slotReadCmd; (repeat' split) <;> simp only [refuse_brk, CmdRes.st_ok]

@[simp] theorem slotAssignCmd_brk (p n i : Nat) (s : State) : (slotAssignCmd p n i s).st.brk = s.brk := by
  unfold slotAssignCmd; (repeat' split) <;> simp only [allocate_brk, refuse_brk, CmdRes.st_ok]

@[simp] theorem slotReleaseCmd_brk (p n : Nat) (s : State) : (slotReleaseCmd p n s).st.brk = s.brk := by
  unfold slotReleaseCmd; (repeat' split) <;> simp only [refuse_brk, slotChange_brk, CmdRes.st_ok]

@[simp] theorem tmOverrideCmd_brk (p n op tm : Nat) (s : State) : (tmOverrideCmd p n op tm s).st.brk = s.brk := by
  unfold tmOverrideCmd; (repeat' split) <;> simp only [refuse_brk, slotChange_brk, CmdRes.st_ok]

@[simp] theorem restartLport_brk (p : Nat) (s : State) : (restartLport p s).brk = s.brk := by
  simp only [restartLport, cutLport_brk, setLport_brk]

@[simp] theorem leatConfigAfter_brk (ents : List CfgEntry) (x10 : Tab Int) (s : State) : (leatConfigAfter ents x10 s).brk = s.brk := by
  simp [leatConfigAfter]

@[simp] theorem leatRestore_brk (s : State) : (leatRestore s).brk = s.brk := by
  simp only [leatRestore]

@[simp] theorem stepDone_brk (p : Nat) (s : State) : (stepDone p s).brk = s.brk := by
  simp only [stepDone, setLport_brk]

@[simp] theorem cycleEnd_brk (p : Nat) (s : State) : (cycleEnd p s).brk = s.brk := by
  simp only [cycleEnd, raise_brk, setLport_brk, brk_ite, ite_self]

@[simp] theorem sendBcasts_brk (p n : Nat) (s : State) : (sendBcasts p n s).brk = s.brk := by
  induction n generalizing s with
  | zero => rfl
  | succ n ih => rw [sendBcasts]; split <;> simp [ih]

@[simp] theorem beginStep_brk (p : Nat) (s : State) : (beginStep p s).brk = s.brk := by
  unfold beginStep
  extract_lets q w sub s1 f t r
  have h : s1.brk = s.brk := rfl
  (repeat' split) <;> simp [h]

@[simp] theorem exState_brk (e : Option Exch) (s : State) : (exState e s).brk = s.brk := by
  rfl

@[simp] theorem stepStart_brk (p : Nat) (s : State) : (stepStart p s).brk = s.brk := by
  simp only [stepStart, beginStep_brk, cycleEnd_brk, setLport_brk, brk_ite, ite_self]

@[simp] theorem discoveryEnd_brk (p : Nat) (s : State) : (discoveryEnd p s).brk = s.brk := by
  simp [discoveryEnd]

@[simp] theorem idleEnd_brk (p : Nat) (s : State) : (idleEnd p s).brk = s.brk := by
  simp only [idleEnd, setLport_brk, stepDone_brk, brk_ite, ite_self]

@[simp] theorem calibrated_brk (p : Nat) (s : State) : (calibrated p s).brk = s.brk := by
  simp [calibrated]

@[simp] theorem repollItem_brk (e : Exch) (i : Nat) (s : State) : (repollItem e i s).2.brk = s.brk := by
  unfold repollItem; (repeat' split) <;> simp only [dropItem_brk]

@[simp] theorem sendPoll_brk (p n : Nat) (again : Option Exch) (s : State) : (sendPoll p n again s).brk = s.brk := by
  simp only [sendPoll]; (repeat' split) <;> simp

@[simp] theorem stalePoll_brk (p : Nat) (e : Exch) (s : State) : (stalePoll p e s).brk = s.brk := by
  unfold stalePoll; (repeat' split) <;> simp only [bump_brk, dropItem_brk, exchangeOver_brk, freeSlot_brk]

@[simp] theorem nextSlot_brk (p : Nat) (l : List (Nat × LSlot)) (s : State) : (nextSlot p l s).2.brk = s.brk := by
  induction l generalizing s with
  | nil => rfl
  | cons a l ih => rw [nextSlot]; (repeat' split) <;> simp only [ih, bump_brk, freeSlot_brk]

@[simp] theorem pollSend_brk (p idle : Nat) (s : State) : (pollSend p idle s).brk = s.brk := by
  unfold pollSend
  extract_lets q
  split
  · rfl
  · split
    · (repeat' split) <;> simp
    · split
      · rename_i h; have hb := congrArg (fun x => x.2.brk) h; simp at hb; simp [hb]
      · rename_i h; have hb := congrArg (fun x => x.2.brk) h; simp at hb
        extract_lets r t1
        split <;> simp [t1, hb]

@[simp] theorem lostResponse_brk (p : Nat) (e : Exch) (s : State) : (lostResponse p e s).brk = s.brk := by
  unfold lostResponse; (repeat' split) <;> simp

@[simp] theorem responseLost_brk (p : Nat) (fch : Bool) (s : State) : (responseLost p fch s).brk = s.brk := by
  unfold responseLost
  (repeat' split) <;> simp

@[simp] theorem phaseSample_brk (p n stamp zcUs : Nat) (s : State) : (phaseSample p n stamp zcUs s).brk = s.brk := by
  unfold phaseSample; (repeat' split) <;> simp

@[simp] theorem phaseWrite_brk (s : State) : (phaseWrite s).brk = s.brk := by
  unfold phaseWrite; (repeat' split) <;> simp

@[simp] theorem respGrf_brk (p slot : Nat) (x : PlcRx) (stamp : Nat) (s : State) : (respGrf p slot x stamp s).brk = s.brk := by
  simp only [respGrf]; split <;> simp

@[simp] theorem goodResponse_brk (p : Nat) (e : Exch) (x : PlcRx) (s : State) : (goodResponse p e x s).brk = s.brk := by
  unfold goodResponse
  (repeat' split) <;> simp

@[simp] theorem lineFrame_brk (cfg : Tab Int) (p slot : Nat) (x : PlcRx) (s : State) : (lineFrame cfg p slot x s).2.brk = s.brk := by
  simp only [lineFrame]; (repeat' split) <;> simp

@[simp] theorem responseReceived_brk (p : Nat) (x : PlcRx) (s : State) : (responseReceived p x s).brk = s.brk := by
  unfold responseReceived
  extract_lets q
  split
  · rfl
  split
  · rw [bump_brk]
  split
  · exact lineFrame_brk ..
  · next e _ =>
    have hb := lineFrame_brk e.cfg p e.slot x s
    generalize lineFrame e.cfg p e.slot x s = r at hb ⊢
    obtain ⟨a, u⟩ := r
    replace hb : u.brk = s.brk := hb
    cases a <;> dsimp only <;> (repeat' split) <;> first | rfl | exact hb | (simp [hb]; done)

@[simp] theorem discAnswer_brk (p : Nat) (x : PlcRx) (s : State) : (discAnswer p x s).brk = s.brk := by
  have hb := lineFrame_brk s.cfg p 0xFFF x s
  unfold discAnswer
  extract_lets q
  generalize lineFrame s.cfg p 0xFFF x s = r at hb ⊢
  obtain ⟨a, u⟩ := r
  replace hb : u.brk = s.brk := hb
  cases a <;> dsimp only <;> (repeat' split) <;> first | rfl | exact hb | (simp [hb]; done)

@[simp] theorem refreshDue_brk (p n : Nat) (s : State) : (refreshDue p n s).brk = s.brk := by
  simp only [refreshDue, putSlotL_brk, brk_ite, ite_self]

/-! ### Diagnostics -/

@[simp] theorem laneStopCmd_brk (l : Nat) (s : State) : (laneStopCmd l s).st.brk = s.brk := by
  unfold laneStopCmd
  (repeat' split) <;> simp only [refuse_brk, CmdRes.st_ok, laneStop_brk]

@[simp] theorem laneRestartCmd_brk (l : Nat) (pass : Bool) (s : State) : (laneRestartCmd l pass s).st.brk = s.brk := by
  unfold laneRestartCmd
  (repeat' split) <;> simp only [refuse_brk, CmdRes.st_ok, laneReturn_brk]

@[simp] theorem clockGone_brk (d : Dom) (s : State) : (clockGone d s).brk = s.brk := by
  unfold clockGone
  split
  · rw [raise_brk, setVport_brk, cutPort_brk]
  · extract_lets s1
    rw [fluOff_brk]
    refine (foldl_brk (fun t c => chanFault_brk ..) _ _).trans ?_
    rw [raise_brk]
    refine foldl_brk (fun t p => ?_) _ _
    simp only
    split
    · exact cutLport_brk ..
    · exact (setLport_brk ..).trans (cutLport_brk ..)
  · rw [takePtp_brk, openRecord_brk]
  all_goals simp only [openRecord_brk]

@[simp] theorem clockLoss_brk (d : Dom) (s : State) : (clockLoss d s).brk = s.brk := by
  unfold clockLoss
  split
  · rfl
  · exact (clockGone_brk ..).trans rfl

@[simp] theorem clockRestore_brk (d : Dom) (s : State) : (clockRestore d s).brk = s.brk := by
  simp only [clockRestore, fluOn_brk, brk_ite, ite_self]

@[simp] theorem watchdog_brk (u : StageUnit) (stage : Nat) (rerun : Bool) (s : State) : (watchdog u stage rerun s).brk = s.brk := by
  unfold watchdog
  extract_lets id s1
  have h : s1.brk = s.brk := raise_brk ..
  split
  · exact h
  · split
    · exact h
    · exact (diagnose_brk _ (by simp only [laneStop_brk, raise_brk])).trans h
  · exact (diagnose_brk _ (by simp only [enterSafe_brk, raise_brk])).trans h

@[simp] theorem comparatorBad_brk (k : Nat) (againOk : Bool) (s : State) : (comparatorBad k againOk s).brk = s.brk := by
  unfold comparatorBad
  split
  · split
    · rfl
    · exact diagnose_brk _ (by simp only [laneStop_brk, raise_brk])
  · exact diagnose_brk _ (by simp only [enterSafe_brk, raise_brk])

@[simp] theorem comparatorCheck_brk (stuck again gap : BitVec 5) (s : State) : (comparatorCheck stuck again gap s).brk = s.brk := by
  simp [comparatorCheck]

@[simp] theorem endTests_brk (p : STest → Bool) (code : Nat) (s : State) : (endTests p code s).brk = s.brk := by
  simp [endTests]

@[simp] theorem tbCheck_brk (cycles : Nat) (s : State) : (tbCheck cycles s).brk = s.brk := by
  simp only [tbCheck, endTests_brk, enterSafe_brk, markCause_brk, raise_brk, transientFault_brk, brk_ite, ite_self]

@[simp] theorem tbStopped_brk (s : State) : (tbStopped s).brk = s.brk := by
  simp only [tbStopped, enterSafe_brk, raise_brk]

@[simp] theorem heartbeat_brk (core : Nat) (restarted : Bool) (s : State) : (heartbeat core restarted s).brk = s.brk := by
  simp only [heartbeat, diagnose_brk, enterSafe_brk, brk_ite, ite_self]

@[simp] theorem memoryFault_brk (bank ofs : Nat) (s : State) : (memoryFault bank ofs s).brk = s.brk := by
  simp only [memoryFault, raise_brk]

@[simp] theorem rotate_brk (bad again : Option U32) (s : State) : (rotate bad again s).brk = s.brk := by
  unfold rotate; (repeat' split) <;> simp only [endTests_brk, markCause_brk, memoryFault_brk, transientFault_brk]

@[simp] theorem readback_brk (rd again : Bool) (s : State) : (readback rd again s).brk = s.brk := by
  unfold readback; (repeat' split) <;> simp only [diagnose_brk, enterSafe_brk, raise_brk]

@[simp] theorem scrubFound_brk (f : ScrubFind) (s : State) : (scrubFound f s).brk = s.brk := by
  unfold scrubFound; (repeat' split) <;> simp only [rebuild_brk, recorderWord_brk]

@[simp] theorem testNow_brk (test code : Nat) (s : State) : (testNow test code s).st.brk = s.brk := by
  unfold testNow; (repeat' split) <;> simp only [raise_brk, CmdRes.st_ok]

@[simp] theorem testLater_brk (c : Ctx) (test arg : Nat) (s : State) : (testLater c test arg s).st.brk = s.brk := by
  rfl

@[simp] theorem selfTestCmd_brk (c : Ctx) (test arg code : Nat) (s : State) : (selfTestCmd c test arg code s).st.brk = s.brk := by
  unfold selfTestCmd
  (repeat' split) <;> first
    | (simp; done)
    | (rename_i h; have hb := congrArg (fun x => x.st.brk) h; simp at hb; simp [hb]; done)
    | (rename_i h _; have hb := congrArg (fun x => x.st.brk) h; simp at hb; simp [hb])

@[simp] theorem drillEnd_brk (pass : Bool) (s : State) : (drillEnd pass s).brk = s.brk := by
  unfold drillEnd; (repeat' split) <;> simp

@[simp] theorem clearing_brk (k : Nat) (s : State) : (clearing k s).brk = s.brk := by
  unfold clearing; (repeat' split) <;> simp

/-! ### Tailrace -/

@[simp] theorem tariffLoadCmd_brk (c : Ctx) (slot ver size : Nat) (s : State) : (tariffLoadCmd c slot ver size s).st.brk = s.brk := by
  unfold tariffLoadCmd; (repeat' split) <;> simp only [refuse_brk, CmdRes.st_ok]

@[simp] theorem assignTariff_brk (slot i : Nat) (s : State) : (assignTariff slot i s).brk = s.brk := by
  simp only [assignTariff, setDl_brk, syncPend_brk]

@[simp] theorem tariffAssignCmd_brk (c : Ctx) (slot n : Nat) (s : State) : (tariffAssignCmd c slot n s).st.brk = s.brk := by
  simp [tariffAssignCmd]

@[simp] theorem sweepDone_brk (s : State) : (sweepDone s).brk = s.brk := by
  unfold sweepDone; (repeat' split) <;> simp

@[simp] theorem campaignLoadCmd_brk (c : Ctx) (k ver size : Nat) (s : State) : (campaignLoadCmd c k ver size s).st.brk = s.brk := by
  unfold campaignLoadCmd; (repeat' split) <;> simp only [campMove_brk, refuse_brk, setCamp_brk, CmdRes.st_ok]

@[simp] theorem setMember_brk (k i : Nat) (on : Bool) (s : State) : (setMember k i on s).brk = s.brk := by
  simp only [setMember, setDl_brk]

@[simp] theorem campaignTargetCmd_brk (c : Ctx) (k op kind n : Nat) (s : State) : (campaignTargetCmd c k op kind n s).st.brk = s.brk := by
  simp [campaignTargetCmd]

@[simp] theorem campaignStartCmd_brk (k deadline : Nat) (s : State) : (campaignStartCmd k deadline s).st.brk = s.brk := by
  unfold campaignStartCmd; (repeat' split) <;> simp only [campBroadcast_brk, campMove_brk, refuse_brk, setCamp_brk, CmdRes.st_ok]

@[simp] theorem campaignActivateCmd_brk (k : Nat) (s : State) : (campaignActivateCmd k s).st.brk = s.brk := by
  unfold campaignActivateCmd; (repeat' split) <;> simp only [campBroadcast_brk, campMove_brk, campSettle_brk, refuse_brk, CmdRes.st_ok]

@[simp] theorem clearMembers_brk (k : Nat) (s : State) : (clearMembers k s).brk = s.brk := by
  simp [clearMembers]

@[simp] theorem recallCamp_brk (k : Nat) (s : State) : (recallCamp k s).brk = s.brk := by
  simp only [recallCamp, bump_brk, recallItems_brk]

@[simp] theorem campaignAbortCmd_brk (k : Nat) (s : State) : (campaignAbortCmd k s).st.brk = s.brk := by
  simp only [campaignAbortCmd, campBroadcast_brk, campMove_brk, clearMembers_brk, recallCamp_brk, refuse_brk, brk_ite, CmdRes.st_ok, CmdRes.st_ite, ite_self]

@[simp] theorem freeImage_brk (k : Nat) (s : State) : (freeImage k s).brk = s.brk := by
  simp only [freeImage, campMove_brk, setCamp_brk]

@[simp] theorem campaignReleaseCmd_brk (k : Nat) (s : State) : (campaignReleaseCmd k s).st.brk = s.brk := by
  unfold campaignReleaseCmd; (repeat' split) <;> simp only [freeImage_brk, refuse_brk, CmdRes.st_ok]

@[simp] theorem passCheck_brk (k : Nat) (s : State) : (passCheck k s).brk = s.brk := by
  simp only [passCheck, campBroadcast_brk, campMove_brk, campSettle_brk, setCamp_brk, brk_ite, ite_self]

@[simp] theorem resumeCamp_brk (k : Nat) (s : State) : (resumeCamp k s).brk = s.brk := by
  simp only [resumeCamp, campSettle_brk, passCheck_brk]

@[simp] theorem campaignReloadCmd_brk (c : Ctx) (k size : Nat) (s : State) : (campaignReloadCmd c k size s).st.brk = s.brk := by
  simp only [campaignReloadCmd, campMove_brk, refuse_brk, resumeCamp_brk, setCamp_brk, brk_ite, CmdRes.st_ok, CmdRes.st_ite, ite_self]

@[simp] theorem announceEnd_brk (k : Nat) (s : State) : (announceEnd k s).brk = s.brk := by
  simp only [announceEnd, campMove_brk, passCheck_brk, setCamp_brk, brk_ite, ite_self]

@[simp] theorem buildFrags_brk (c p block : Nat) (l : List Nat) (s : State) : (buildFrags c p block l s).2.brk = s.brk := by
  induction l generalizing s with
  | nil => rfl
  | cons f t ih => rw [buildFrags]; split <;> simp only [ih, bcastTtl_brk, takeBcast_brk]

@[simp] theorem fragSend_brk (p : Nat) (s : State) : (fragSend p s).brk = s.brk := by
  unfold fragSend
  split
  · rfl
  · split
    · rfl
    · extract_lets q fs r l s1
      have h : s1.brk = s.brk := buildFrags_brk ..
      clear_value l s1
      cases l with
      | none => exact h
      | some l =>
        dsimp only
        simp only [passCheck_brk, setCamp_brk, bump_brk, pathPut_brk, h]

@[simp] theorem deadlineEnd_brk (k : Nat) (s : State) : (deadlineEnd k s).brk = s.brk := by
  simp only [deadlineEnd, campClose_brk, clearMembers_brk, setCamp_brk, brk_ite, ite_self]

@[simp] theorem abortHoldEnd_brk (k : Nat) (s : State) : (abortHoldEnd k s).brk = s.brk := by
  unfold abortHoldEnd; (repeat' split) <;> simp only [freeImage_brk]

@[simp] theorem repairAgain_brk (n : Nat) (s : State) : (repairAgain n s).brk = s.brk := by
  simp only [repairAgain]; (repeat' split) <;> simp

@[simp] theorem spRelease_brk (i n : Nat) (b f : List Byte) (s : State) : (spRelease i n b f s).brk = s.brk := by
  unfold spRelease; (repeat' split) <;> simp only [bump_brk, endSetpoint_brk, setDl_brk, setpointNow_brk, syncPend_brk]

@[simp] theorem setpointCmd_brk (i : Nat) (b : List Byte) (cmp : SpCompare) (s : State) : (setpointCmd i b cmp s).st.brk = s.brk := by
  unfold setpointCmd
  split
  · rfl
  · split
    · rfl
    · extract_lets a a'
      (repeat' split) <;> first
        | rfl
        | (next h => have hb := congrArg (fun x => x.2.brk) h; simp at hb; simp [← hb]; done)
        | (next h _ => have hb := congrArg (fun x => x.2.brk) h; simp at hb; simp [← hb])

@[simp] theorem setpointWithdrawCmd_brk (i : Nat) (s : State) : (setpointWithdrawCmd i s).st.brk = s.brk := by
  unfold setpointWithdrawCmd; (repeat' split) <;> simp only [endSetpoint_brk, refuse_brk, CmdRes.st_ok]

@[simp] theorem spRetry_brk (i : Nat) (cmp : SpCompare) (s : State) : (spRetry i cmp s).brk = s.brk := by
  unfold spRetry
  extract_lets n
  split
  · rfl
  · split
    · rfl
    · extract_lets again _ t
      have h1 : again.brk = s.brk := mk_brk ..
      have h2 : t.brk = s.brk := (mk_brk ..).trans h1
      clear_value again t
      (repeat' split) <;> first
        | exact h1
        | exact (sendNext_brk ..).trans h1
        | exact (setpointNow_brk ..).trans h2
        | (next h => have hb := (congrArg (fun x => x.2.brk) h).symm.trans ((spChannels_brk ..).trans h2); simp only at hb; simp [hb])

@[simp] theorem spExpire_brk (i : Nat) (s : State) : (spExpire i s).brk = s.brk := by
  simp only [spExpire]; (repeat' split) <;> simp

@[simp] theorem recordReadCmd_brk (first count : Nat) (s : State) : (recordReadCmd first count s).st.brk = s.brk := by
  unfold recordReadCmd; (repeat' split) <;> simp only [refuse_brk, CmdRes.st_ok]

@[simp] theorem dropRepair_brk (i c : Nat) (s : State) : (dropRepair i c s).brk = s.brk := by
  unfold dropRepair; (repeat' split) <;> simp only [removeRepair_brk]

@[simp] theorem putRepair_brk (i c : Nat) (rs : List (Nat × Nat)) (s : State) : (putRepair i c rs s).brk = s.brk := by
  unfold putRepair; (repeat' split) <;> simp only [bump_brk, raise_brk, setDl_brk, setRepair_brk, syncPend_brk]

@[simp] theorem ignored_brk (s : State) : (ignored s).brk = s.brk := by
  simp only [ignored, bump_brk]

@[simp] theorem acted_brk (s : State) : (acted s).brk = s.brk := by
  simp only [acted, bump_brk]

@[simp] theorem memberFailed_brk (i c : Nat) (s : State) : (memberFailed i c s).brk = s.brk := by
  simp only [memberFailed, campSettle_brk, setCamp_brk, setMember_brk]

@[simp] theorem confirmTariff_brk (i res ref : Nat) (rs : List (Nat × Nat)) (s : State) : (confirmTariff i res ref rs s).brk = s.brk := by
  unfold confirmTariff; (repeat' split) <;> simp

@[simp] theorem confirmFw_brk (i kind res c ref : Nat) (rs : List (Nat × Nat)) (s : State) : (confirmFw i kind res c ref rs s).brk = s.brk := by
  unfold confirmFw; (repeat' split) <;> simp

@[simp] theorem confirmSetpoint_brk (i res ref : Nat) (s : State) : (confirmSetpoint i res ref s).brk = s.brk := by
  simp only [confirmSetpoint]; (repeat' split) <;> simp

@[simp] theorem confirm1_brk (i : Nat) (b : List Byte) (s : State) : (confirm1 i b s).brk = s.brk := by
  simp only [confirm1, confirmFw_brk, confirmSetpoint_brk, confirmTariff_brk, ignored_brk, brk_ite, ite_self]

@[simp] theorem confirmNext_brk (s : State) : (confirmNext s).brk = s.brk := by
  unfold confirmNext; (repeat' split) <;> simp only [confirm1_brk]

@[simp] theorem macOutcome_brk (s : State) : (macOutcome s).brk = s.brk := by
  simp only [macOutcome]; (repeat' split) <;> simp

@[simp] theorem tailConfigAfter_brk (x00 : Tab Int) (s : State) : (tailConfigAfter x00 s).brk = s.brk := by
  simp [tailConfigAfter]

/-! ### Power -/

@[simp] theorem firmwareReset_brk (s : State) : (firmwareReset s).brk = s.brk := by
  simp only [firmwareReset, endDebug_brk, releaseLock_brk]

@[simp] theorem hostReset_brk (s : State) : (hostReset s).brk = s.brk := by
  simp only [hostReset, hostIfReset_brk]

@[simp] theorem writeNow_brk (w : Nat × Nat) (s : State) : (writeNow w s).brk = s.brk := by
  simp only [writeNow]; (repeat' split) <;> simp

@[simp] theorem resetCmd_brk (kind : Nat) (s : State) : (resetCmd kind s).st.brk = s.brk := by
  unfold resetCmd; (repeat' split) <;> simp only [refuse_brk, CmdRes.st_ok]

@[simp] theorem replyFirst_brk {i : Instr} {body : State → CmdRes} {effect : State → State} (h : ∀ t, (body t).st.brk = t.brk)
    (k : ∀ t, (effect t).brk = t.brk) (s : State) : (replyFirst i body effect s).brk = s.brk := by
  unfold replyFirst
  split
  · rw [k]; cases hostCmd i <;> simp only [Option.map_none, Option.map_some, Option.getD_none, Option.getD_some, writeNow_brk, command_brk h]
  · exact command_brk h _

@[simp] theorem powerStateCmd_brk (target : Nat) (s : State) : (powerStateCmd target s).st.brk = s.brk := by
  unfold powerStateCmd; (repeat' split) <;> simp only [refuse_brk, CmdRes.st_ok]

@[simp] theorem attemptFailed_brk (pll : Bool) (s : State) : (attemptFailed pll s).brk = s.brk := by
  unfold attemptFailed; (repeat' split) <;> simp

@[simp] theorem retryWake_brk (s : State) : (retryWake s).brk = s.brk := by
  unfold retryWake; (repeat' split) <;> simp only

@[simp] theorem seqGood_brk (s : State) : (seqGood s).brk = s.brk := by
  unfold seqGood; (repeat' split) <;> simp only [emit_brk]

@[simp] theorem bucketsResume_brk (s : State) : (bucketsResume s).brk = s.brk := by
  rfl

@[simp] theorem wakeEvent_brk (cause : Nat) (s : State) : (wakeEvent cause s).brk = s.brk := by
  unfold wakeEvent; (repeat' split) <;> simp only [wake_brk]

@[simp] theorem wakeConfigCmd_brk (addr src : Nat) (s : State) : (wakeConfigCmd addr src s).st.brk = s.brk := by
  unfold wakeConfigCmd; (repeat' split) <;> simp only [refuse_brk, CmdRes.st_ok]

@[simp] theorem bkpRise_brk (s : State) : (bkpRise s).brk = s.brk := by
  unfold bkpRise; (repeat' split) <;> simp only [graFlush_brk, raise_brk]

@[simp] theorem applyConfig_brk (cfg : Tab Int) (gws : Tab Gw) (he : Option (Nat × Nat × Nat)) (keys : Tab (List Byte)) (s : State) : (applyConfig cfg gws he keys s).brk = s.brk := by
  simp only [applyConfig, fluRegrid_brk, secEnable_brk, tailConfigAfter_brk, brk_ite, ite_self]

@[simp] theorem startWeir_brk (en : Bool) (s : State) : (startWeir en s).brk = s.brk := by
  unfold startWeir; (repeat' split) <;> simp only [openNow_brk]

@[simp] theorem loadConfig_brk (format : Nat) (s : State) : (loadConfig format s).brk = s.brk := by
  unfold loadConfig
  split
  · rfl
  · next inB c _ =>
    extract_lets s0 w s1 n
    have h0 : s0.brk = s.brk := (foldl_brk (fun t e => setFluCh_brk ..) _ _).trans (applyConfig_brk ..)
    have h1 : s1.brk = s.brk := (startWeir_brk ..).trans ((mk_brk ..).trans h0)
    split
    · exact (recordOnly_brk ..).trans ((mk_brk ..).trans h1)
    · exact (mk_brk ..).trans h1

@[simp] theorem rejectImage_brk (last : Nat) (s : State) : (rejectImage last s).brk = s.brk := by
  simp only [rejectImage, journalPut_brk, recordOnly_brk]

@[simp] theorem startCopy_brk (u : UpdSt) (s : State) : (startCopy u s).brk = s.brk := by
  unfold startCopy; rfl

@[simp] theorem revert_brk (last : Nat) (s : State) : (revert last s).brk = s.brk := by
  simp only [revert, journalPut_brk, recordOnly_brk, startCopy_brk, brk_ite, ite_self]

@[simp] theorem verifyStaged_brk (staged : ImgCheck) (first : UpdSt) (s : State) : (verifyStaged staged first s).brk = s.brk := by
  unfold verifyStaged; (repeat' split) <;> simp only [rejectImage_brk, startCopy_brk]

@[simp] theorem loaderUpdate_brk (staged : ImgCheck) (s : State) : (loaderUpdate staged s).brk = s.brk := by
  simp only [loaderUpdate]; (repeat' split) <;> simp

@[simp] theorem recorderGood_brk (suite : Nat) (s : State) : (recorderGood suite s).brk = s.brk := by
  simp only [recorderGood, brk_ite, ite_self]

@[simp] theorem startFirmware_brk (format : Nat) (s : State) : (startFirmware format s).brk = s.brk := by
  simp only [startFirmware, loadConfig_brk]

@[simp] theorem bcastEnded_brk (s : State) : (bcastEnded s).brk = s.brk := by
  unfold bcastEnded; (repeat' split) <;> simp only [raise_brk]

@[simp] theorem restoreRecs_brk (s : State) : (restoreRecs s).brk = s.brk := by
  simp [restoreRecs]

@[simp] theorem restoreCamp_brk (c : Nat) (s : State) : (restoreCamp c s).brk = s.brk := by
  simp only [restoreCamp]; (repeat' split) <;> simp

@[simp] theorem restoreVault_brk (rows : Tab (List Byte)) (s : State) : (restoreVault rows s).brk = s.brk := by
  unfold restoreVault
  refine (foldl_brk (fun t e => ?_) _ _).trans rfl
  split <;> simp only [raise_brk]

/-! ### Bar2 -/

@[simp] theorem bar2Read_brk (a : Nat) (s : State) : (bar2Read a s).brk = s.brk := by
  unfold bar2Read; rfl

/-! ### Registers -/

@[simp] theorem regClear_brk (a : Nat) (s : State) : (regClear a s).brk = s.brk := by
  unfold regClear; (repeat' split) <;> simp only

@[simp] theorem bar0Read_brk (a : Nat) (s : State) : (bar0Read a s).brk = s.brk := by
  unfold bar0Read; (repeat' split) <;> simp only [darkAccess_brk, emit_brk, regClear_brk]

@[simp] theorem hopWrite_brk (p r v : Nat) (s : State) : (hopWrite p r v s).brk = s.brk := by
  unfold hopWrite; (repeat' split) <;> simp

@[simp] theorem msixWrite_brk (o v : Nat) (s : State) : (msixWrite o v s).brk = s.brk := by
  unfold msixWrite; (repeat' split) <;> simp only [sendOwed_brk]

@[simp] theorem evtWrite_brk (o v : Nat) (s : State) : (evtWrite o v s).brk = s.brk := by
  unfold evtWrite; (repeat' split) <;> simp only [msixWrite_brk, pendClear_brk]

@[simp] theorem accErrClear_brk (v : Nat) (s : State) : (accErrClear v s).brk = s.brk := by
  unfold accErrClear; (repeat' split) <;> simp only

@[simp] theorem setHalted_brk (d : Debug) (h : BitVec 4) (s : State) : (setHalted d h s).brk = s.brk := by
  rfl

@[simp] theorem dbgRefused_brk (write : Bool) (addr : Nat) (s : State) : (dbgRefused write addr s).st.brk = s.brk := by
  simp only [dbgRefused, captureViolation_brk, endDebug_brk]

@[simp] theorem svcDebug_brk (entry : Nat) (a : DbgAccess) (s : State) : (svcDebug entry a s).st.brk = s.brk := by
  unfold svcDebug; (repeat' split) <;> simp

@[simp] theorem bar2Write__brk (a : Nat) (s : State) : (bar2Write_ a s).brk = s.brk := by
  unfold bar2Write_; (repeat' split) <;> simp only [darkAccess_brk]

@[simp] theorem darkBlock_brk (bus : Nat) (b : Blk) (write : Bool) (a : Nat) (s : State) : (darkBlock bus b write a s).brk = s.brk := by
  unfold darkBlock; (repeat' split) <;> simp only [bar0Read_brk, bar2Read_brk, darkAccess_brk, emit_brk]

@[simp] theorem mgmtRead__brk (r n : Nat) (s : State) : (mgmtRead_ r n s).brk = s.brk := by
  unfold mgmtRead_; (repeat' split) <;> simp only [darkAccess_brk, emit_brk]

/-! ### Step -/

@[simp] theorem State.withFetchWord_brk (s : State) (nbits w : Nat) : (State.withFetchWord s nbits w).brk = s.brk := by
  unfold State.withFetchWord; (repeat' split) <;> simp only

end Sys2Proof.Machine
end

