-- ==== Sys2Proof/Laws/ClaimExec.lean ====
section
/-! SUPPORT. Meanings that keep the claim part of State: the device wins, keeps and loses a claim, and enables its output groups, elsewhere. -/

namespace Sys2Proof.Machine

theorem execHqTailWrite_brk (p : Fin 16) (value : U32) (be : Byte) (s : State) {u : State} (h : execHqTailWrite p value be s = .next u) : u.brk = s.brk := by
  unfold execHqTailWrite at h
  obtain rfl := Host.Outcome.next.inj h
  simp

theorem execBqHeadWrite_brk (p : Fin 16) (value : U32) (be : Byte) (s : State) {u : State} (h : execBqHeadWrite p value be s = .next u) : u.brk = s.brk := by
  unfold execBqHeadWrite at h
  obtain rfl := Host.Outcome.next.inj h
  simp

theorem execQpEnable_brk (p : Fin 16) (value : U32) (s : State) {u : State} (h : execQpEnable p value s = .next u) : u.brk = s.brk := by
  unfold execQpEnable at h
  obtain rfl := Host.Outcome.next.inj h
  simp

theorem execQpDisable_brk (p : Fin 16) (value : U32) (s : State) {u : State} (h : execQpDisable p value s = .next u) : u.brk = s.brk := by
  unfold execQpDisable at h
  obtain rfl := Host.Outcome.next.inj h
  simp

theorem execEvtPendClear_brk (word : Fin 4) (value : U32) (s : State) {u : State} (h : execEvtPendClear word value s = .next u) : u.brk = s.brk := by
  unfold execEvtPendClear at h
  obtain rfl := Host.Outcome.next.inj h
  simp

theorem execMsixVectorUnmask_brk (vec : Option (Fin 32)) (s : State) {u : State} (h : execMsixVectorUnmask vec s = .next u) : u.brk = s.brk := by
  unfold execMsixVectorUnmask at h
  split at h <;> cases h <;> simp

theorem execHopperFetch_brk (p : Fin 16) (packets : List Packet) (s : State) {u : State} (h : execHopperFetch p packets s = .next u) : u.brk = s.brk := by
  unfold execHopperFetch at h
  obtain rfl := Host.Outcome.next.inj h
  simp

theorem execBinReplyWrite_brk (p : Fin 16) (pick : Nat) (parityBad : Bool) (s : State) {u : State} (h : execBinReplyWrite p pick parityBad s = .next u) : u.brk = s.brk := by
  unfold execBinReplyWrite at h
  obtain rfl := Host.Outcome.next.inj h
  simp

theorem execBinAggTimer_brk (p : Fin 16) (s : State) {u : State} (h : execBinAggTimer p s = .next u) : u.brk = s.brk := by
  unfold execBinAggTimer at h
  obtain rfl := Host.Outcome.next.inj h
  simp

theorem execHoldoffExpiry_brk (vec : Fin 32) (s : State) {u : State} (h : execHoldoffExpiry vec s = .next u) : u.brk = s.brk := by
  unfold execHoldoffExpiry at h
  obtain rfl := Host.Outcome.next.inj h
  simp

theorem execDmaTransferCompletion_brk (p : Fin 16) (what : DmaWhat) (result : DmaResult) (s : State) {u : State} (h : execDmaTransferCompletion p what result s = .next u) : u.brk = s.brk := by
  unfold execDmaTransferCompletion at h
  obtain rfl := Host.Outcome.next.inj h
  simp

theorem execD3hotEntry_brk (s : State) {u : State} (h : execD3hotEntry s = .next u) : u.brk = s.brk := by
  unfold execD3hotEntry at h
  obtain rfl := Host.Outcome.next.inj h
  simp

theorem execD0Return_brk (s : State) {u : State} (h : execD0Return s = .next u) : u.brk = s.brk := by
  unfold execD0Return at h
  obtain rfl := Host.Outcome.next.inj h
  simp

theorem execQueueFlush_brk (c : Ctx) (qid : Byte) (s : State) {u : State} (h : execQueueFlush c qid s = .next u) : u.brk = s.brk := by
  unfold execQueueFlush at h
  obtain rfl := Host.Outcome.next.inj h
  simp

theorem execQueueFlushBoundary_brk (qid : Fin 4) (s : State) {u : State} (h : execQueueFlushBoundary qid s = .next u) : u.brk = s.brk := by
  unfold execQueueFlushBoundary at h
  obtain rfl := Host.Outcome.next.inj h
  simp

theorem execQueueScrubVisit_brk (qid : Fin 7) (bad : List (Nat × Nat)) (s : State) {u : State} (h : execQueueScrubVisit qid bad s = .next u) : u.brk = s.brk := by
  unfold execQueueScrubVisit at h
  obtain rfl := Host.Outcome.next.inj h
  simp

theorem execQueueStall_brk (qid : Fin 7) (s : State) {u : State} (h : execQueueStall qid s = .next u) : u.brk = s.brk := by
  unfold execQueueStall at h
  obtain rfl := Host.Outcome.next.inj h
  simp

theorem execLogRead_brk (c : Ctx) (start : U32) (max : U16) (bad : List (U32 × U32)) (s : State) {u : State} (h : execLogRead c start max bad s = .next u) : u.brk = s.brk := by
  unfold execLogRead at h
  obtain rfl := Host.Outcome.next.inj h
  simp

theorem execLogView_brk (c : Ctx) (op : Byte) (bad : List (Fin 256)) (s : State) {u : State} (h : execLogView c op bad s = .next u) : u.brk = s.brk := by
  unfold execLogView at h
  obtain rfl := Host.Outcome.next.inj h
  simp

theorem execLogConfig_brk (c : Ctx) (op : Byte) (ents : List CfgEntry) (s : State) {u : State} (h : execLogConfig c op ents s = .next u) : u.brk = s.brk := by
  unfold execLogConfig at h
  obtain rfl := Host.Outcome.next.inj h
  simp

theorem execLogRestart_brk (c : Ctx) (s : State) {u : State} (h : execLogRestart c s = .next u) : u.brk = s.brk := by
  unfold execLogRestart at h
  obtain rfl := Host.Outcome.next.inj h
  simp

theorem execLastgasp_brk (c : Ctx) (op : Byte) (s : State) {u : State} (h : execLastgasp c op s = .next u) : u.brk = s.brk := by
  unfold execLastgasp at h
  obtain rfl := Host.Outcome.next.inj h
  simp

theorem execFreezeTimeout_brk (bad : List (Fin 256)) (s : State) {u : State} (h : execFreezeTimeout bad s = .next u) : u.brk = s.brk := by
  unfold execFreezeTimeout at h
  obtain rfl := Host.Outcome.next.inj h
  simp

theorem execRateTokenRefill_brk (code : Nat) (s : State) {u : State} (h : execRateTokenRefill code s = .next u) : u.brk = s.brk := by
  unfold execRateTokenRefill at h
  obtain rfl := Host.Outcome.next.inj h
  simp

theorem execNop_brk (c : Ctx) (params : List Byte) (s : State) {u : State} (h : execNop c params s = .next u) : u.brk = s.brk := by
  unfold execNop at h
  obtain rfl := Host.Outcome.next.inj h
  exact command_brk (fun _ => by simp) _

theorem execStrangerDrain_brk (c : Ctx) (max : U16) (bad : List (Fin 4096)) (s : State) {u : State} (h : execStrangerDrain c max bad s = .next u) : u.brk = s.brk := by
  unfold execStrangerDrain at h
  obtain rfl := Host.Outcome.next.inj h
  simp

theorem execWeirReportDrain_brk (c : Ctx) (max : U16) (bad : List (Fin 4096)) (s : State) {u : State} (h : execWeirReportDrain c max bad s = .next u) : u.brk = s.brk := by
  unfold execWeirReportDrain at h
  obtain rfl := Host.Outcome.next.inj h
  simp

theorem execTaiReportDrain_brk (c : Ctx) (max : U16) (bad : List (Fin 4096)) (s : State) {u : State} (h : execTaiReportDrain c max bad s = .next u) : u.brk = s.brk := by
  unfold execTaiReportDrain at h
  obtain rfl := Host.Outcome.next.inj h
  simp

theorem execStampDrain_brk (c : Ctx) (max : U16) (bad : List (Fin 4096)) (s : State) {u : State} (h : execStampDrain c max bad s = .next u) : u.brk = s.brk := by
  unfold execStampDrain at h
  obtain rfl := Host.Outcome.next.inj h
  simp

theorem execGranaryConfig_brk (c : Ctx) (op : Byte) (ents : List CfgEntry) (s : State) {u : State} (h : execGranaryConfig c op ents s = .next u) : u.brk = s.brk := by
  unfold execGranaryConfig at h
  obtain rfl := Host.Outcome.next.inj h
  simp

theorem execHmrSet_brk (c : Ctx) (size : U16) (base : U64) (s : State) {u : State} (h : execHmrSet c size base s = .next u) : u.brk = s.brk := by
  unfold execHmrSet at h
  obtain rfl := Host.Outcome.next.inj h
  simp

theorem execArchiveRead_brk (c : Ctx) (ofs : U64) (reads : List (Nat × Nat)) (s : State) {u : State} (h : execArchiveRead c ofs reads s = .next u) : u.brk = s.brk := by
  unfold execArchiveRead at h
  obtain rfl := Host.Outcome.next.inj h
  simp

theorem execMediaStatus_brk (c : Ctx) (ch : Byte) (s : State) {u : State} (h : execMediaStatus c ch s = .next u) : u.brk = s.brk := by
  unfold execMediaStatus at h
  obtain rfl := Host.Outcome.next.inj h
  simp

theorem execNandEraseDone_brk (ch : Bool) (block : Nat) (ok : Bool) (s : State) {u : State} (h : execNandEraseDone ch block ok s = .next u) : u.brk = s.brk := by
  unfold execNandEraseDone at h
  obtain rfl := Host.Outcome.next.inj h
  simp

theorem execNandReadDone_brk (ch : Bool) (ppn : U32) (corr : Option Nat) (patrol : Bool) (s : State) {u : State} (h : execNandReadDone ch ppn corr patrol s = .next u) : u.brk = s.brk := by
  unfold execNandReadDone at h
  obtain rfl := Host.Outcome.next.inj h
  simp

theorem execJournalTimer_brk (s : State) {u : State} (h : execJournalTimer s = .next u) : u.brk = s.brk := by
  unfold execJournalTimer at h
  obtain rfl := Host.Outcome.next.inj h
  simp

theorem execArcFlushTimer_brk (s : State) {u : State} (h : execArcFlushTimer s = .next u) : u.brk = s.brk := by
  unfold execArcFlushTimer at h
  obtain rfl := Host.Outcome.next.inj h
  simp

theorem execPatrolRead_brk (ch : Bool) (s : State) {u : State} (h : execPatrolRead ch s = .next u) : u.brk = s.brk := by
  unfold execPatrolRead at h
  obtain rfl := Host.Outcome.next.inj h
  simp

theorem execHmrDmaError_brk (page : Nat) (s : State) {u : State} (h : execHmrDmaError page s = .next u) : u.brk = s.brk := by
  unfold execHmrDmaError at h
  obtain rfl := Host.Outcome.next.inj h
  simp

theorem execKeyLoad_brk (c : Ctx) (idx : Idx) (klen : Byte) (s : State) {u : State} (h : execKeyLoad c idx klen s = .next u) : u.brk = s.brk := by
  unfold execKeyLoad at h
  obtain rfl := Host.Outcome.next.inj h
  simp

theorem execDeviceKey_brk (c : Ctx) (which : Byte) (klen : Byte) (s : State) {u : State} (h : execDeviceKey c which klen s = .next u) : u.brk = s.brk := by
  unfold execDeviceKey at h
  obtain rfl := Host.Outcome.next.inj h
  simp

theorem execFirewallRule_brk (c : Ctx) (rule master perm : Byte) (base size : U64) (s : State) {u : State} (h : execFirewallRule c rule master perm base size s = .next u) : u.brk = s.brk := by
  unfold execFirewallRule at h
  obtain rfl := Host.Outcome.next.inj h
  simp

theorem execFirewallRelease_brk (c : Ctx) (master : Byte) (s : State) {u : State} (h : execFirewallRelease c master s = .next u) : u.brk = s.brk := by
  unfold execFirewallRelease at h
  obtain rfl := Host.Outcome.next.inj h
  simp

theorem execSecFwViolInfoClear_brk (value : U32) (s : State) {u : State} (h : execSecFwViolInfoClear value s = .next u) : u.brk = s.brk := by
  unfold execSecFwViolInfoClear at h
  obtain rfl := Host.Outcome.next.inj h
  simp

theorem execSecFwReleaseWrite_brk (value : U32) (s : State) {u : State} (h : execSecFwReleaseWrite value s = .next u) : u.brk = s.brk := by
  unfold execSecFwReleaseWrite at h
  obtain rfl := Host.Outcome.next.inj h
  simp

theorem execTokenLockoutEnd_brk (s : State) {u : State} (h : execTokenLockoutEnd s = .next u) : u.brk = s.brk := by
  unfold execTokenLockoutEnd at h
  obtain rfl := Host.Outcome.next.inj h
  simp

theorem execDebugLimitExpiry_brk (s : State) {u : State} (h : execDebugLimitExpiry s = .next u) : u.brk = s.brk := by
  unfold execDebugLimitExpiry at h
  obtain rfl := Host.Outcome.next.inj h
  simp

theorem execBind_brk (c : Ctx) (idx : Idx) (eui : Eui) (kind : Byte) (leg : U32) (s : State) {u : State} (h : execBind c idx eui kind leg s = .next u) : u.brk = s.brk := by
  unfold execBind at h
  obtain rfl := Host.Outcome.next.inj h
  simp

theorem execUnbind_brk (c : Ctx) (idx : Idx) (s : State) {u : State} (h : execUnbind c idx s = .next u) : u.brk = s.brk := by
  unfold execUnbind at h
  obtain rfl := Host.Outcome.next.inj h
  simp

theorem execBlock_brk (c : Ctx) (idx : Idx) (s : State) {u : State} (h : execBlock c idx s = .next u) : u.brk = s.brk := by
  unfold execBlock at h
  obtain rfl := Host.Outcome.next.inj h
  simp

theorem execUnblock_brk (c : Ctx) (idx : Idx) (s : State) {u : State} (h : execUnblock c idx s = .next u) : u.brk = s.brk := by
  unfold execUnblock at h
  obtain rfl := Host.Outcome.next.inj h
  simp

theorem execColdRead_brk (c : Ctx) (idx : Idx) (s : State) {u : State} (h : execColdRead c idx s = .next u) : u.brk = s.brk := by
  unfold execColdRead at h
  obtain rfl := Host.Outcome.next.inj h
  simp

theorem execColdWrite_brk (c : Ctx) (idx : Idx) (ofs : U32) (s : State) {u : State} (h : execColdWrite c idx ofs s = .next u) : u.brk = s.brk := by
  unfold execColdWrite at h
  obtain rfl := Host.Outcome.next.inj h
  simp

theorem execLedgerConfig_brk (c : Ctx) (op : Byte) (ents : List CfgEntry) (s : State) {u : State} (h : execLedgerConfig c op ents s = .next u) : u.brk = s.brk := by
  unfold execLedgerConfig at h
  obtain rfl := Host.Outcome.next.inj h
  simp

theorem execHostPend_brk (c : Ctx) (idx : Idx) (set : Byte) (s : State) {u : State} (h : execHostPend c idx set s = .next u) : u.brk = s.brk := by
  unfold execHostPend at h
  obtain rfl := Host.Outcome.next.inj h
  simp

theorem execNodeActivate_brk (c : Ctx) (lvl : Byte) (num parent : U32) (s : State) {u : State} (h : execNodeActivate c lvl num parent s = .next u) : u.brk = s.brk := by
  unfold execNodeActivate at h
  obtain rfl := Host.Outcome.next.inj h
  simp

theorem execNodeDeactivate_brk (c : Ctx) (lvl : Byte) (num : U32) (s : State) {u : State} (h : execNodeDeactivate c lvl num s = .next u) : u.brk = s.brk := by
  unfold execNodeDeactivate at h
  obtain rfl := Host.Outcome.next.inj h
  simp

theorem execNodeSet_brk (c : Ctx) (lvl field value : Byte) (num : U32) (s : State) {u : State} (h : execNodeSet c lvl field value num s = .next u) : u.brk = s.brk := by
  unfold execNodeSet at h
  obtain rfl := Host.Outcome.next.inj h
  simp

theorem execAttach_brk (c : Ctx) (idx : Idx) (leg : U32) (s : State) {u : State} (h : execAttach c idx leg s = .next u) : u.brk = s.brk := by
  unfold execAttach at h
  obtain rfl := Host.Outcome.next.inj h
  simp

theorem execRejectProposal_brk (c : Ctx) (idx : Idx) (phase : Byte) (s : State) {u : State} (h : execRejectProposal c idx phase s = .next u) : u.brk = s.brk := by
  unfold execRejectProposal at h
  obtain rfl := Host.Outcome.next.inj h
  simp

theorem execNodeMove_brk (c : Ctx) (lvl : Byte) (num parent : U32) (s : State) {u : State} (h : execNodeMove c lvl num parent s = .next u) : u.brk = s.brk := by
  unfold execNodeMove at h
  obtain rfl := Host.Outcome.next.inj h
  simp

theorem execEntryRebuild_brk (idx : Idx) (s : State) {u : State} (h : execEntryRebuild idx s = .next u) : u.brk = s.brk := by
  unfold execEntryRebuild at h
  obtain rfl := Host.Outcome.next.inj h
  simp

theorem execRebuildFreeCleanup_brk (idx : Idx) (s : State) {u : State} (h : execRebuildFreeCleanup idx s = .next u) : u.brk = s.brk := by
  unfold execRebuildFreeCleanup at h
  obtain rfl := Host.Outcome.next.inj h
  simp

theorem execWeirConfig_brk (c : Ctx) (op : Byte) (ents : List CfgEntry) (s : State) {u : State} (h : execWeirConfig c op ents s = .next u) : u.brk = s.brk := by
  unfold execWeirConfig at h
  obtain rfl := Host.Outcome.next.inj h
  simp

theorem execWeirEnable_brk (c : Ctx) (en : Byte) (s : State) {u : State} (h : execWeirEnable c en s = .next u) : u.brk = s.brk := by
  unfold execWeirEnable at h
  obtain rfl := Host.Outcome.next.inj h
  simp

theorem execLossClass_brk (c : Ctx) (lvl cls : Byte) (p0 k1 k2 tolFix tolPpm : U32) (s : State) {u : State} (h : execLossClass c lvl cls p0 k1 k2 tolFix tolPpm s = .next u) : u.brk = s.brk := by
  unfold execLossClass at h
  obtain rfl := Host.Outcome.next.inj h
  simp

theorem execNodeClass_brk (c : Ctx) (lvl cls : Byte) (num : U32) (s : State) {u : State} (h : execNodeClass c lvl cls num s = .next u) : u.brk = s.brk := by
  unfold execNodeClass at h
  obtain rfl := Host.Outcome.next.inj h
  simp

theorem execCheckBind_brk (c : Ctx) (idx : Idx) (lvl : Byte) (num : U32) (s : State) {u : State} (h : execCheckBind c idx lvl num s = .next u) : u.brk = s.brk := by
  unfold execCheckBind at h
  obtain rfl := Host.Outcome.next.inj h
  simp

theorem execCheckUnbind_brk (c : Ctx) (idx : Idx) (s : State) {u : State} (h : execCheckUnbind c idx s = .next u) : u.brk = s.brk := by
  unfold execCheckUnbind at h
  obtain rfl := Host.Outcome.next.inj h
  simp

theorem execIntervalResults_brk (c : Ctx) (interval : U64) (first count : U32) (s : State) {u : State} (h : execIntervalResults c interval first count s = .next u) : u.brk = s.brk := by
  unfold execIntervalResults at h
  obtain rfl := Host.Outcome.next.inj h
  simp

theorem execAffinityTest_brk (c : Ctx) (mode : Byte) (n ncand : U16) (s : State) {u : State} (h : execAffinityTest c mode n ncand s = .next u) : u.brk = s.brk := by
  unfold execAffinityTest at h
  obtain rfl := Host.Outcome.next.inj h
  simp

theorem execAffinityAbort_brk (c : Ctx) (all : Byte) (n : U16) (s : State) {u : State} (h : execAffinityAbort c all n s = .next u) : u.brk = s.brk := by
  unfold execAffinityAbort at h
  obtain rfl := Host.Outcome.next.inj h
  simp

theorem execWeirPartAccumulate_brk (s : State) {u : State} (h : execWeirPartAccumulate s = .next u) : u.brk = s.brk := by
  unfold execWeirPartAccumulate at h
  obtain rfl := Host.Outcome.next.inj h
  simp

theorem execIntervalEnd_brk (s : State) {u : State} (h : execIntervalEnd s = .next u) : u.brk = s.brk := by
  unfold execIntervalEnd at h
  obtain rfl := Host.Outcome.next.inj h
  simp

theorem execLateWindowEnd_brk (s : State) {u : State} (h : execLateWindowEnd s = .next u) : u.brk = s.brk := by
  unfold execLateWindowEnd at h
  obtain rfl := Host.Outcome.next.inj h
  simp

theorem execCloseComplete_brk (us again : U32) (bad : List (Fin 65536)) (s : State) {u : State} (h : execCloseComplete us again bad s = .next u) : u.brk = s.brk := by
  unfold execCloseComplete at h
  obtain rfl := Host.Outcome.next.inj h
  simp

theorem execAffinityTestEnd_brk (idx : Idx) (s : State) {u : State} (h : execAffinityTestEnd idx s = .next u) : u.brk = s.brk := by
  unfold execAffinityTestEnd at h
  obtain rfl := Host.Outcome.next.inj h
  simp

theorem execAbsenceSweep_brk (s : State) {u : State} (h : execAbsenceSweep s = .next u) : u.brk = s.brk := by
  unfold execAbsenceSweep at h
  obtain rfl := Host.Outcome.next.inj h
  simp

theorem execFlumeConfig_brk (c : Ctx) (op : Byte) (ents : List CfgEntry) (s : State) {u : State} (h : execFlumeConfig c op ents s = .next u) : u.brk = s.brk := by
  unfold execFlumeConfig at h
  obtain rfl := Host.Outcome.next.inj h
  simp

theorem execChannelConfig_brk (c : Ctx) (ch role invert : Byte) (scale : U32) (s : State) {u : State} (h : execChannelConfig c ch role invert scale s = .next u) : u.brk = s.brk := by
  unfold execChannelConfig at h
  obtain rfl := Host.Outcome.next.inj h
  simp

theorem execDcBlocker_brk (c : Ctx) (ch set load : Byte) (dc : U32) (s : State) {u : State} (h : execDcBlocker c ch set load dc s = .next u) : u.brk = s.brk := by
  unfold execDcBlocker at h
  obtain rfl := Host.Outcome.next.inj h
  simp

theorem execCoefLoad_brk (c : Ctx) (bank : Byte) (crc : U32) (s : State) {u : State} (h : execCoefLoad c bank crc s = .next u) : u.brk = s.brk := by
  unfold execCoefLoad at h
  obtain rfl := Host.Outcome.next.inj h
  simp

theorem execBankSwap_brk (c : Ctx) (f : U16) (s : State) {u : State} (h : execBankSwap c f s = .next u) : u.brk = s.brk := by
  unfold execBankSwap at h
  obtain rfl := Host.Outcome.next.inj h
  simp

theorem execDecimReset_brk (c : Ctx) (s : State) {u : State} (h : execDecimReset c s = .next u) : u.brk = s.brk := by
  unfold execDecimReset at h
  obtain rfl := Host.Outcome.next.inj h
  simp

theorem execFactoryCal_brk (c : Ctx) (ch : Byte) (rcd : List Byte) (s : State) {u : State} (h : execFactoryCal c ch rcd s = .next u) : u.brk = s.brk := by
  unfold execFactoryCal at h
  obtain rfl := Host.Outcome.next.inj h
  simp

theorem execUserCal_brk (c : Ctx) (ch : Byte) (rcd : List Byte) (s : State) {u : State} (h : execUserCal c ch rcd s = .next u) : u.brk = s.brk := by
  unfold execUserCal at h
  obtain rfl := Host.Outcome.next.inj h
  simp

theorem execMeteringPoint_brk (c : Ctx) (point nelem ref alvl : Byte) (anum : U32) (elems : List U32) (s : State) {u : State} (h : execMeteringPoint c point nelem ref alvl anum elems s = .next u) : u.brk = s.brk := by
  unfold execMeteringPoint at h
  obtain rfl := Host.Outcome.next.inj h
  simp

theorem execFlumeIntervals_brk (c : Ctx) (point first count : Byte) (s : State) {u : State} (h : execFlumeIntervals c point first count s = .next u) : u.brk = s.brk := by
  unfold execFlumeIntervals at h
  obtain rfl := Host.Outcome.next.inj h
  simp

theorem execModulatorStuck_brk (ch : Fin 12) (bits : BitVec 256) (s : State) {u : State} (h : execModulatorStuck ch bits s = .next u) : u.brk = s.brk := by
  unfold execModulatorStuck at h
  obtain rfl := Host.Outcome.next.inj h
  simp

theorem execChannelRestore_brk (ch : Fin 12) (bits : BitVec 4096) (s : State) {u : State} (h : execChannelRestore ch bits s = .next u) : u.brk = s.brk := by
  unfold execChannelRestore at h
  obtain rfl := Host.Outcome.next.inj h
  simp

theorem execMsyncRise_brk (s : State) {u : State} (h : execMsyncRise s = .next u) : u.brk = s.brk := by
  unfold execMsyncRise at h
  obtain rfl := Host.Outcome.next.inj h
  simp

theorem execSettlingEnd_brk (s : State) {u : State} (h : execSettlingEnd s = .next u) : u.brk = s.brk := by
  unfold execSettlingEnd at h
  obtain rfl := Host.Outcome.next.inj h
  simp

theorem execFadeComplete_brk (s : State) {u : State} (h : execFadeComplete s = .next u) : u.brk = s.brk := by
  unfold execFadeComplete at h
  obtain rfl := Host.Outcome.next.inj h
  simp

theorem execFlumeSecondEnd_brk (bits : List (List (Option (BitVec 128)))) (s : State) {u : State} (h : execFlumeSecondEnd bits s = .next u) : u.brk = s.brk := by
  unfold execFlumeSecondEnd at h
  obtain rfl := Host.Outcome.next.inj h
  simp

theorem execZeroCrossing_brk (phase : Fin 3) (bits : List (List (Option (BitVec 128)))) (s : State) {u : State} (h : execZeroCrossing phase bits s = .next u) : u.brk = s.brk := by
  unfold execZeroCrossing at h
  obtain rfl := Host.Outcome.next.inj h
  simp

theorem execFlumeIntervalClose_brk (badCal : List (Fin 12)) (badBank : Bool) (bits : List (List (Option (BitVec 128)))) (s : State) {u : State} (h : execFlumeIntervalClose badCal badBank bits s = .next u) : u.brk = s.brk := by
  unfold execFlumeIntervalClose at h
  obtain rfl := Host.Outcome.next.inj h
  simp

theorem execFantailConfig_brk (c : Ctx) (op : Byte) (ents : List CfgEntry) (s : State) {u : State} (h : execFantailConfig c op ents s = .next u) : u.brk = s.brk := by
  unfold execFantailConfig at h
  obtain rfl := Host.Outcome.next.inj h
  simp

theorem execTimeSet_brk (c : Ctx) (sec : U64) (nsec : U32) (s : State) {u : State} (h : execTimeSet c sec nsec s = .next u) : u.brk = s.brk := by
  unfold execTimeSet at h
  obtain rfl := Host.Outcome.next.inj h
  simp

theorem execTimeForce_brk (c : Ctx) (mode src : Byte) (sec : U64) (nsec : U32) (s : State) {u : State} (h : execTimeForce c mode src sec nsec s = .next u) : u.brk = s.brk := by
  unfold execTimeForce at h
  obtain rfl := Host.Outcome.next.inj h
  simp

theorem execUtcOffset_brk (c : Ctx) (ofs : U16) (leap : Byte) (s : State) {u : State} (h : execUtcOffset c ofs leap s = .next u) : u.brk = s.brk := by
  unfold execUtcOffset at h
  obtain rfl := Host.Outcome.next.inj h
  simp

theorem execPtpTransmit_brk (c : Ctx) (port mode : Byte) (id len : U16) (s : State) {u : State} (h : execPtpTransmit c port mode id len s = .next u) : u.brk = s.brk := by
  unfold execPtpTransmit at h
  obtain rfl := Host.Outcome.next.inj h
  simp

theorem execPtpFrameEgress_brk (port : Fin 2) (frac : Fin 32) (s : State) {u : State} (h : execPtpFrameEgress port frac s = .next u) : u.brk = s.brk := by
  unfold execPtpFrameEgress at h
  obtain rfl := Host.Outcome.next.inj h
  simp

theorem execPtpTransparentForward_brk (ingress : Fin 2) (frame : List Byte) (residence : Nat) (s : State) {u : State} (h : execPtpTransparentForward ingress frame residence s = .next u) : u.brk = s.brk := by
  unfold execPtpTransparentForward at h
  obtain rfl := Host.Outcome.next.inj h
  simp

theorem execPtpMessageReceived_brk (port : Fin 2) (domain : Byte) (transport : Fin 3) (frac : Fin 32) (msg : PtpMsg) (s : State) {u : State} (h : execPtpMessageReceived port domain transport frac msg s = .next u) : u.brk = s.brk := by
  unfold execPtpMessageReceived at h
  obtain rfl := Host.Outcome.next.inj h
  simp

theorem execDelayReqSend_brk (frac : Fin 32) (s : State) {u : State} (h : execDelayReqSend frac s = .next u) : u.brk = s.brk := by
  unfold execDelayReqSend at h
  obtain rfl := Host.Outcome.next.inj h
  simp

theorem execPpsInEdge_brk (frac : Fin 32) (s : State) {u : State} (h : execPpsInEdge frac s = .next u) : u.brk = s.brk := by
  unfold execPpsInEdge at h
  obtain rfl := Host.Outcome.next.inj h
  simp

theorem execPpsOutPulse_brk (s : State) {u : State} (h : execPpsOutPulse s = .next u) : u.brk = s.brk := by
  unfold execPpsOutPulse at h
  obtain rfl := Host.Outcome.next.inj h
  simp

theorem execSourceLost_brk (src : Fin 3) (s : State) {u : State} (h : execSourceLost src s = .next u) : u.brk = s.brk := by
  unfold execSourceLost at h
  obtain rfl := Host.Outcome.next.inj h
  simp

theorem execSwitchHoldElapsed_brk (s : State) {u : State} (h : execSwitchHoldElapsed s = .next u) : u.brk = s.brk := by
  unfold execSwitchHoldElapsed at h
  obtain rfl := Host.Outcome.next.inj h
  simp

theorem execRtcLoad_brk (s : State) {u : State} (h : execRtcLoad s = .next u) : u.brk = s.brk := by
  unfold execRtcLoad at h
  obtain rfl := Host.Outcome.next.inj h
  simp

theorem execLeapSecondEnd_brk (s : State) {u : State} (h : execLeapSecondEnd s = .next u) : u.brk = s.brk := by
  unfold execLeapSecondEnd at h
  obtain rfl := Host.Outcome.next.inj h
  simp

theorem execFanSnapTake_brk (value : U32) (s : State) {u : State} (h : execFanSnapTake value s = .next u) : u.brk = s.brk := by
  unfold execFanSnapTake at h
  obtain rfl := Host.Outcome.next.inj h
  simp

theorem execIdentify_brk (entry : Fin 2) (tag : U16) (s : State) {u : State} (h : execIdentify entry tag s = .next u) : u.brk = s.brk := by
  unfold execIdentify at h
  obtain rfl := Host.Outcome.next.inj h
  simp

theorem execLock_brk (entry : Fin 2) (tag : U16) (header : List Byte) (s : State) {u : State} (h : execLock entry tag header s = .next u) : u.brk = s.brk := by
  unfold execLock at h
  obtain rfl := Host.Outcome.next.inj h
  simp

theorem execData_brk (entry : Fin 2) (tag : U16) (arg : U32) (bytes : List Byte) (s : State) {u : State} (h : execData entry tag arg bytes s = .next u) : u.brk = s.brk := by
  unfold execData at h
  obtain rfl := Host.Outcome.next.inj h
  simp

theorem execRelease_brk (entry : Fin 2) (tag : U16) (s : State) {u : State} (h : execRelease entry tag s = .next u) : u.brk = s.brk := by
  unfold execRelease at h
  obtain rfl := Host.Outcome.next.inj h
  simp

theorem execDisarm_brk (entry : Fin 2) (tag : U16) (s : State) {u : State} (h : execDisarm entry tag s = .next u) : u.brk = s.brk := by
  unfold execDisarm at h
  obtain rfl := Host.Outcome.next.inj h
  simp

theorem execDebugChallenge_brk (entry : Fin 2) (tag : U16) (s : State) {u : State} (h : execDebugChallenge entry tag s = .next u) : u.brk = s.brk := by
  unfold execDebugChallenge at h
  obtain rfl := Host.Outcome.next.inj h
  simp

theorem execDebugToken_brk (entry : Fin 2) (tag : U16) (level : Byte) (token : List Byte) (s : State) {u : State} (h : execDebugToken entry tag level token s = .next u) : u.brk = s.brk := by
  unfold execDebugToken at h
  obtain rfl := Host.Outcome.next.inj h
  simp

theorem execProvisioningSession_brk (entry : Fin 2) (tag : U16) (what : Provision) (s : State) {u : State} (h : execProvisioningSession entry tag what s = .next u) : u.brk = s.brk := by
  unfold execProvisioningSession at h
  obtain rfl := Host.Outcome.next.inj h
  simp

theorem execConfigSave_brk (c : Ctx) (s : State) {u : State} (h : execConfigSave c s = .next u) : u.brk = s.brk := by
  unfold execConfigSave at h
  obtain rfl := Host.Outcome.next.inj h
  simp

theorem execHealthConfirm_brk (s : State) {u : State} (h : execHealthConfirm s = .next u) : u.brk = s.brk := by
  unfold execHealthConfirm at h
  obtain rfl := Host.Outcome.next.inj h
  simp

theorem execStagingLockIdle_brk (s : State) {u : State} (h : execStagingLockIdle s = .next u) : u.brk = s.brk := by
  unfold execStagingLockIdle at h
  obtain rfl := Host.Outcome.next.inj h
  simp

theorem execUsbDetach_brk (s : State) {u : State} (h : execUsbDetach s = .next u) : u.brk = s.brk := by
  unfold execUsbDetach at h
  obtain rfl := Host.Outcome.next.inj h
  simp

theorem execUsbAttach_brk (s : State) {u : State} (h : execUsbAttach s = .next u) : u.brk = s.brk := by
  unfold execUsbAttach at h
  obtain rfl := Host.Outcome.next.inj h
  simp

theorem execDevUpdHoldWrite_brk (value : U32) (s : State) {u : State} (h : execDevUpdHoldWrite value s = .next u) : u.brk = s.brk := by
  unfold execDevUpdHoldWrite at h
  obtain rfl := Host.Outcome.next.inj h
  simp

theorem execDevSvcInAckWrite_brk (x0 : U32) (s : State) {u : State} (h : execDevSvcInAckWrite x0 s = .next u) : u.brk = s.brk := by
  unfold execDevSvcInAckWrite at h
  obtain rfl := Host.Outcome.next.inj h
  simp

theorem execTiltMoving_brk (s : State) {u : State} (h : execTiltMoving s = .next u) : u.brk = s.brk := by
  unfold execTiltMoving at h
  obtain rfl := Host.Outcome.next.inj h
  simp

theorem execTiltRelease_brk (s : State) {u : State} (h : execTiltRelease s = .next u) : u.brk = s.brk := by
  unfold execTiltRelease at h
  obtain rfl := Host.Outcome.next.inj h
  simp

theorem execSluiceVerdict_brk (lane : Fin 4) (agree poison : Bool) (s : State) {u : State} (h : execSluiceVerdict lane agree poison s = .next u) : u.brk = s.brk := by
  unfold execSluiceVerdict at h
  obtain rfl := Host.Outcome.next.inj h
  simp

theorem execSeenCacheInsert_brk (lane : Fin 4) (s : State) {u : State} (h : execSeenCacheInsert lane s = .next u) : u.brk = s.brk := by
  unfold execSeenCacheInsert at h
  obtain rfl := Host.Outcome.next.inj h
  simp

theorem execQuernAuth_brk (lane : Fin 4) (s : State) {u : State} (h : execQuernAuth lane s = .next u) : u.brk = s.brk := by
  unfold execQuernAuth at h
  obtain rfl := Host.Outcome.next.inj h
  simp

theorem execKeyUnwrapDone_brk (lane : Fin 4) (ok : Bool) (s : State) {u : State} (h : execKeyUnwrapDone lane ok s = .next u) : u.brk = s.brk := by
  unfold execKeyUnwrapDone at h
  obtain rfl := Host.Outcome.next.inj h
  simp

theorem execBolterRules_brk (lane : Fin 4) (s : State) {u : State} (h : execBolterRules lane s = .next u) : u.brk = s.brk := by
  unfold execBolterRules at h
  obtain rfl := Host.Outcome.next.inj h
  simp

theorem execLedgerUpdate_brk (lane : Fin 4) (bad : Bool) (s : State) {u : State} (h : execLedgerUpdate lane bad s = .next u) : u.brk = s.brk := by
  unfold execLedgerUpdate at h
  obtain rfl := Host.Outcome.next.inj h
  simp

theorem execSeenCacheWalk_brk (s : State) {u : State} (h : execSeenCacheWalk s = .next u) : u.brk = s.brk := by
  unfold execSeenCacheWalk at h
  obtain rfl := Host.Outcome.next.inj h
  simp

theorem execGwAckSend_brk (s : State) {u : State} (h : execGwAckSend s = .next u) : u.brk = s.brk := by
  unfold execGwAckSend at h
  obtain rfl := Host.Outcome.next.inj h
  simp

theorem execBatchTimeout_brk (s : State) {u : State} (h : execBatchTimeout s = .next u) : u.brk = s.brk := by
  unfold execBatchTimeout at h
  obtain rfl := Host.Outcome.next.inj h
  simp

theorem execCounterReserveRecord_brk (which : Fin 3) (s : State) {u : State} (h : execCounterReserveRecord which s = .next u) : u.brk = s.brk := by
  unfold execCounterReserveRecord at h
  obtain rfl := Host.Outcome.next.inj h
  simp

theorem execIngestConfig_brk (c : Ctx) (op : Byte) (ents : List CfgEntry) (s : State) {u : State} (h : execIngestConfig c op ents s = .next u) : u.brk = s.brk := by
  unfold execIngestConfig at h
  obtain rfl := Host.Outcome.next.inj h
  simp

theorem execGatewaySet_brk (c : Ctx) (gwId : U16) (op af : Byte) (addr : BitVec 128) (s : State) {u : State} (h : execGatewaySet c gwId op af addr s = .next u) : u.brk = s.brk := by
  unfold execGatewaySet at h
  obtain rfl := Host.Outcome.next.inj h
  simp

theorem execExportSet_brk (c : Ctx) (op af : Byte) (port : U16) (addr : BitVec 128) (s : State) {u : State} (h : execExportSet c op af port addr s = .next u) : u.brk = s.brk := by
  unfold execExportSet at h
  obtain rfl := Host.Outcome.next.inj h
  simp

theorem execRelay_brk (c : Ctx) (ndg : U16) (s : State) {u : State} (h : execRelay c ndg s = .next u) : u.brk = s.brk := by
  unfold execRelay at h
  obtain rfl := Host.Outcome.next.inj h
  simp

theorem execHeadraceDatagram_brk (d : UdpIn) (s : State) {u : State} (h : execHeadraceDatagram d s = .next u) : u.brk = s.brk := by
  unfold execHeadraceDatagram at h
  obtain rfl := Host.Outcome.next.inj h
  simp

theorem execNackDatagram_brk (d : UdpIn) (s : State) {u : State} (h : execNackDatagram d s = .next u) : u.brk = s.brk := by
  unfold execNackDatagram at h
  obtain rfl := Host.Outcome.next.inj h
  simp

theorem execLaneDraw_brk (s : State) {u : State} (h : execLaneDraw s = .next u) : u.brk = s.brk := by
  unfold execLaneDraw at h
  obtain rfl := Host.Outcome.next.inj h
  simp

theorem execIngLoadRefresh_brk (s : State) {u : State} (h : execIngLoadRefresh s = .next u) : u.brk = s.brk := by
  unfold execIngLoadRefresh at h
  obtain rfl := Host.Outcome.next.inj h
  simp

theorem execPaceWindowEnd_brk (s : State) {u : State} (h : execPaceWindowEnd s = .next u) : u.brk = s.brk := by
  unfold execPaceWindowEnd at h
  obtain rfl := Host.Outcome.next.inj h
  simp

theorem execPaceSpeedRefresh_brk (speed : U16) (s : State) {u : State} (h : execPaceSpeedRefresh speed s = .next u) : u.brk = s.brk := by
  unfold execPaceSpeedRefresh at h
  obtain rfl := Host.Outcome.next.inj h
  simp

theorem execPaceCtrlWrite_brk (value : U32) (s : State) {u : State} (h : execPaceCtrlWrite value s = .next u) : u.brk = s.brk := by
  unfold execPaceCtrlWrite at h
  obtain rfl := Host.Outcome.next.inj h
  simp

theorem execVaneConfig_brk (c : Ctx) (op : Byte) (ents : List CfgEntry) (s : State) {u : State} (h : execVaneConfig c op ents s = .next u) : u.brk = s.brk := by
  unfold execVaneConfig at h
  obtain rfl := Host.Outcome.next.inj h
  simp

theorem execScriptLoad_brk (c : Ctx) (port script ntx : Byte) (s : State) {u : State} (h : execScriptLoad c port script ntx s = .next u) : u.brk = s.brk := by
  unfold execScriptLoad at h
  obtain rfl := Host.Outcome.next.inj h
  simp

theorem execChannel_brk (c : Ctx) (port : Byte) (s : State) {u : State} (h : execChannel c port s = .next u) : u.brk = s.brk := by
  unfold execChannel at h
  obtain rfl := Host.Outcome.next.inj h
  simp

theorem execVanePpduReceived_brk (port : Fin 8) (ppdu : Ppdu) (s : State) {u : State} (h : execVanePpduReceived port ppdu s = .next u) : u.brk = s.brk := by
  unfold execVanePpduReceived at h
  obtain rfl := Host.Outcome.next.inj h
  simp

theorem execIqSyncLoss_brk (port : Fin 8) (words : List U32) (s : State) {u : State} (h : execIqSyncLoss port words s = .next u) : u.brk = s.brk := by
  unfold execIqSyncLoss at h
  obtain rfl := Host.Outcome.next.inj h
  simp

theorem execIqLock_brk (port : Fin 8) (words : List U32) (s : State) {u : State} (h : execIqLock port words s = .next u) : u.brk = s.brk := by
  unfold execIqLock at h
  obtain rfl := Host.Outcome.next.inj h
  simp

theorem execAckCutoff_brk (port : Fin 8) (arriving : Bool) (s : State) {u : State} (h : execAckCutoff port arriving s = .next u) : u.brk = s.brk := by
  unfold execAckCutoff at h
  obtain rfl := Host.Outcome.next.inj h
  simp

theorem execVaneTxEnd_brk (port : Fin 8) (s : State) {u : State} (h : execVaneTxEnd port s = .next u) : u.brk = s.brk := by
  unfold execVaneTxEnd at h
  obtain rfl := Host.Outcome.next.inj h
  simp

theorem execCsmaComplete_brk (port : Fin 8) (cca : List (Byte × Int)) (shr air : U32) (s : State) {u : State} (h : execCsmaComplete port cca shr air s = .next u) : u.brk = s.brk := by
  unfold execCsmaComplete at h
  obtain rfl := Host.Outcome.next.inj h
  simp

theorem execVaneAckWaitExpiry_brk (port : Fin 8) (s : State) {u : State} (h : execVaneAckWaitExpiry port s = .next u) : u.brk = s.brk := by
  unfold execVaneAckWaitExpiry at h
  obtain rfl := Host.Outcome.next.inj h
  simp

theorem execBeaconDue_brk (port : Fin 8) (s : State) {u : State} (h : execBeaconDue port s = .next u) : u.brk = s.brk := by
  unfold execBeaconDue at h
  obtain rfl := Host.Outcome.next.inj h
  simp

theorem execBeaconDrop_brk (port : Fin 8) (s : State) {u : State} (h : execBeaconDrop port s = .next u) : u.brk = s.brk := by
  unfold execBeaconDrop at h
  obtain rfl := Host.Outcome.next.inj h
  simp

theorem execRelayTime_brk (bad : Bool) (s : State) {u : State} (h : execRelayTime bad s = .next u) : u.brk = s.brk := by
  unfold execRelayTime at h
  obtain rfl := Host.Outcome.next.inj h
  simp

theorem execRelayLateDrop_brk (port : Fin 8) (s : State) {u : State} (h : execRelayLateDrop port s = .next u) : u.brk = s.brk := by
  unfold execRelayLateDrop at h
  obtain rfl := Host.Outcome.next.inj h
  simp

theorem execSpiTransactionDone_brk (port : Fin 8) (miso : List Byte) (s : State) {u : State} (h : execSpiTransactionDone port miso s = .next u) : u.brk = s.brk := by
  unfold execSpiTransactionDone at h
  obtain rfl := Host.Outcome.next.inj h
  simp

theorem execUpstreamDeadline_brk (s : State) {u : State} (h : execUpstreamDeadline s = .next u) : u.brk = s.brk := by
  unfold execUpstreamDeadline at h
  obtain rfl := Host.Outcome.next.inj h
  simp

theorem execRampEnd_brk (s : State) {u : State} (h : execRampEnd s = .next u) : u.brk = s.brk := by
  unfold execRampEnd at h
  obtain rfl := Host.Outcome.next.inj h
  simp

theorem execLeatConfig_brk (c : Ctx) (op : Byte) (ents : List CfgEntry) (s : State) {u : State} (h : execLeatConfig c op ents s = .next u) : u.brk = s.brk := by
  unfold execLeatConfig at h
  obtain rfl := Host.Outcome.next.inj h
  simp

theorem execScheduleLoad_brk (c : Ctx) (port : Byte) (nstep : U16) (s : State) {u : State} (h : execScheduleLoad c port nstep s = .next u) : u.brk = s.brk := by
  unfold execScheduleLoad at h
  obtain rfl := Host.Outcome.next.inj h
  simp

theorem execSlotRead_brk (c : Ctx) (port : Byte) (first count : U16) (s : State) {u : State} (h : execSlotRead c port first count s = .next u) : u.brk = s.brk := by
  unfold execSlotRead at h
  obtain rfl := Host.Outcome.next.inj h
  simp

theorem execSlotAssign_brk (c : Ctx) (port : Byte) (slot : U16) (idx : Idx) (s : State) {u : State} (h : execSlotAssign c port slot idx s = .next u) : u.brk = s.brk := by
  unfold execSlotAssign at h
  obtain rfl := Host.Outcome.next.inj h
  simp

theorem execSlotRelease_brk (c : Ctx) (port : Byte) (slot : U16) (s : State) {u : State} (h : execSlotRelease c port slot s = .next u) : u.brk = s.brk := by
  unfold execSlotRelease at h
  obtain rfl := Host.Outcome.next.inj h
  simp

theorem execTmOverride_brk (c : Ctx) (port : Byte) (slot : U16) (op : Byte) (tm : U32) (s : State) {u : State} (h : execTmOverride c port slot op tm s = .next u) : u.brk = s.brk := by
  unfold execTmOverride at h
  obtain rfl := Host.Outcome.next.inj h
  simp

theorem execAfeSyncLoss_brk (port : Fin 4) (words : List (BitVec 20)) (s : State) {u : State} (h : execAfeSyncLoss port words s = .next u) : u.brk = s.brk := by
  unfold execAfeSyncLoss at h
  obtain rfl := Host.Outcome.next.inj h
  simp

theorem execAfeSyncLock_brk (port : Fin 4) (words : List (BitVec 20)) (s : State) {u : State} (h : execAfeSyncLock port words s = .next u) : u.brk = s.brk := by
  unfold execAfeSyncLock at h
  obtain rfl := Host.Outcome.next.inj h
  simp

theorem execLeatStepStart_brk (port : Fin 4) (s : State) {u : State} (h : execLeatStepStart port s = .next u) : u.brk = s.brk := by
  unfold execLeatStepStart at h
  obtain rfl := Host.Outcome.next.inj h
  simp

theorem execPollSend_brk (port : Fin 4) (idle : U32) (s : State) {u : State} (h : execPollSend port idle s = .next u) : u.brk = s.brk := by
  unfold execPollSend at h
  obtain rfl := Host.Outcome.next.inj h
  simp

theorem execResponseReceived_brk (port : Fin 4) (rx : PlcRx) (s : State) {u : State} (h : execResponseReceived port rx s = .next u) : u.brk = s.brk := by
  unfold execResponseReceived at h
  obtain rfl := Host.Outcome.next.inj h
  simp

theorem execResponseLost_brk (port : Fin 4) (fch : Bool) (s : State) {u : State} (h : execResponseLost port fch s = .next u) : u.brk = s.brk := by
  unfold execResponseLost at h
  obtain rfl := Host.Outcome.next.inj h
  simp

theorem execPhaseWrite_brk (s : State) {u : State} (h : execPhaseWrite s = .next u) : u.brk = s.brk := by
  unfold execPhaseWrite at h
  obtain rfl := Host.Outcome.next.inj h
  simp

theorem execDiscAnswerReceived_brk (port : Fin 4) (rx : PlcRx) (s : State) {u : State} (h : execDiscAnswerReceived port rx s = .next u) : u.brk = s.brk := by
  unfold execDiscAnswerReceived at h
  obtain rfl := Host.Outcome.next.inj h
  simp

theorem execDiscoveryEnd_brk (port : Fin 4) (s : State) {u : State} (h : execDiscoveryEnd port s = .next u) : u.brk = s.brk := by
  unfold execDiscoveryEnd at h
  obtain rfl := Host.Outcome.next.inj h
  simp

theorem execIdleStepEnd_brk (port : Fin 4) (s : State) {u : State} (h : execIdleStepEnd port s = .next u) : u.brk = s.brk := by
  unfold execIdleStepEnd at h
  obtain rfl := Host.Outcome.next.inj h
  simp

theorem execPlcAfeCalibrationDone_brk (port : Fin 4) (s : State) {u : State} (h : execPlcAfeCalibrationDone port s = .next u) : u.brk = s.brk := by
  unfold execPlcAfeCalibrationDone at h
  obtain rfl := Host.Outcome.next.inj h
  simp

theorem execTmRefreshDue_brk (port : Fin 4) (slot : BitVec 12) (s : State) {u : State} (h : execTmRefreshDue port slot s = .next u) : u.brk = s.brk := by
  unfold execTmRefreshDue at h
  obtain rfl := Host.Outcome.next.inj h
  simp

theorem execLaneStop_brk (c : Ctx) (lane : Byte) (s : State) {u : State} (h : execLaneStop c lane s = .next u) : u.brk = s.brk := by
  unfold execLaneStop at h
  obtain rfl := Host.Outcome.next.inj h
  simp

theorem execLaneRestart_brk (c : Ctx) (lane : Byte) (pass : Bool) (s : State) {u : State} (h : execLaneRestart c lane pass s = .next u) : u.brk = s.brk := by
  unfold execLaneRestart at h
  obtain rfl := Host.Outcome.next.inj h
  simp

theorem execSelfTest_brk (c : Ctx) (test arg : Byte) (code : U32) (s : State) {u : State} (h : execSelfTest c test arg code s = .next u) : u.brk = s.brk := by
  unfold execSelfTest at h
  obtain rfl := Host.Outcome.next.inj h
  simp

theorem execClockLoss_brk (dom : Dom) (s : State) {u : State} (h : execClockLoss dom s = .next u) : u.brk = s.brk := by
  unfold execClockLoss at h
  obtain rfl := Host.Outcome.next.inj h
  simp

theorem execClockRestore_brk (dom : Dom) (s : State) {u : State} (h : execClockRestore dom s = .next u) : u.brk = s.brk := by
  unfold execClockRestore at h
  obtain rfl := Host.Outcome.next.inj h
  simp

theorem execStageWatchdogTrip_brk (unit : StageUnit) (stage : Byte) (rerun : Bool) (s : State) {u : State} (h : execStageWatchdogTrip unit stage rerun s = .next u) : u.brk = s.brk := by
  unfold execStageWatchdogTrip at h
  obtain rfl := Host.Outcome.next.inj h
  simp

theorem execComparatorSelfCheck_brk (stuck again gap : BitVec 5) (s : State) {u : State} (h : execComparatorSelfCheck stuck again gap s = .next u) : u.brk = s.brk := by
  unfold execComparatorSelfCheck at h
  obtain rfl := Host.Outcome.next.inj h
  simp

theorem execTbRateCheck_brk (cycles : U32) (s : State) {u : State} (h : execTbRateCheck cycles s = .next u) : u.brk = s.brk := by
  unfold execTbRateCheck at h
  obtain rfl := Host.Outcome.next.inj h
  simp

theorem execTbMonitorStop_brk (s : State) {u : State} (h : execTbMonitorStop s = .next u) : u.brk = s.brk := by
  unfold execTbMonitorStop at h
  obtain rfl := Host.Outcome.next.inj h
  simp

theorem execHeartbeatMiss_brk (core : Fin 4) (restarted : Bool) (s : State) {u : State} (h : execHeartbeatMiss core restarted s = .next u) : u.brk = s.brk := by
  unfold execHeartbeatMiss at h
  obtain rfl := Host.Outcome.next.inj h
  simp

theorem execBankRotation_brk (bad again : Option U32) (s : State) {u : State} (h : execBankRotation bad again s = .next u) : u.brk = s.brk := by
  unfold execBankRotation at h
  obtain rfl := Host.Outcome.next.inj h
  simp

theorem execSafeNfaultReadback_brk (read again : Bool) (s : State) {u : State} (h : execSafeNfaultReadback read again s = .next u) : u.brk = s.brk := by
  unfold execSafeNfaultReadback at h
  obtain rfl := Host.Outcome.next.inj h
  simp

theorem execSafeStateDrillEnd_brk (pass : Bool) (s : State) {u : State} (h : execSafeStateDrillEnd pass s = .next u) : u.brk = s.brk := by
  unfold execSafeStateDrillEnd at h
  obtain rfl := Host.Outcome.next.inj h
  simp

theorem execSramScrub_brk (found : List ScrubFind) (s : State) {u : State} (h : execSramScrub found s = .next u) : u.brk = s.brk := by
  unfold execSramScrub at h
  obtain rfl := Host.Outcome.next.inj h
  simp

theorem execTailraceConfig_brk (c : Ctx) (op : Byte) (ents : List CfgEntry) (s : State) {u : State} (h : execTailraceConfig c op ents s = .next u) : u.brk = s.brk := by
  unfold execTailraceConfig at h
  obtain rfl := Host.Outcome.next.inj h
  simp

theorem execTariffLoad_brk (c : Ctx) (slot : Byte) (ver size : U32) (s : State) {u : State} (h : execTariffLoad c slot ver size s = .next u) : u.brk = s.brk := by
  unfold execTariffLoad at h
  obtain rfl := Host.Outcome.next.inj h
  simp

theorem execTariffAssign_brk (c : Ctx) (slot : Byte) (n : U16) (s : State) {u : State} (h : execTariffAssign c slot n s = .next u) : u.brk = s.brk := by
  unfold execTariffAssign at h
  obtain rfl := Host.Outcome.next.inj h
  simp

theorem execCampaignLoad_brk (c : Ctx) (k : Byte) (imgVer size : U32) (s : State) {u : State} (h : execCampaignLoad c k imgVer size s = .next u) : u.brk = s.brk := by
  unfold execCampaignLoad at h
  obtain rfl := Host.Outcome.next.inj h
  simp

theorem execCampaignTarget_brk (c : Ctx) (k op kind : Byte) (n : U16) (s : State) {u : State} (h : execCampaignTarget c k op kind n s = .next u) : u.brk = s.brk := by
  unfold execCampaignTarget at h
  obtain rfl := Host.Outcome.next.inj h
  simp

theorem execCampaignStart_brk (c : Ctx) (k : Byte) (deadline : U48) (s : State) {u : State} (h : execCampaignStart c k deadline s = .next u) : u.brk = s.brk := by
  unfold execCampaignStart at h
  obtain rfl := Host.Outcome.next.inj h
  simp

theorem execCampaignActivate_brk (c : Ctx) (k : Byte) (s : State) {u : State} (h : execCampaignActivate c k s = .next u) : u.brk = s.brk := by
  unfold execCampaignActivate at h
  obtain rfl := Host.Outcome.next.inj h
  simp

theorem execCampaignAbort_brk (c : Ctx) (k : Byte) (s : State) {u : State} (h : execCampaignAbort c k s = .next u) : u.brk = s.brk := by
  unfold execCampaignAbort at h
  obtain rfl := Host.Outcome.next.inj h
  simp

theorem execCampaignRelease_brk (c : Ctx) (k : Byte) (s : State) {u : State} (h : execCampaignRelease c k s = .next u) : u.brk = s.brk := by
  unfold execCampaignRelease at h
  obtain rfl := Host.Outcome.next.inj h
  simp

theorem execCampaignReload_brk (c : Ctx) (k : Byte) (size : U32) (s : State) {u : State} (h : execCampaignReload c k size s = .next u) : u.brk = s.brk := by
  unfold execCampaignReload at h
  obtain rfl := Host.Outcome.next.inj h
  simp

theorem execSetpoint_brk (c : Ctx) (idx : Idx) (body : List Byte) (cmp : SpCompare) (s : State) {u : State} (h : execSetpoint c idx body cmp s = .next u) : u.brk = s.brk := by
  unfold execSetpoint at h
  obtain rfl := Host.Outcome.next.inj h
  simp

theorem execSetpointWithdraw_brk (c : Ctx) (idx : Idx) (s : State) {u : State} (h : execSetpointWithdraw c idx s = .next u) : u.brk = s.brk := by
  unfold execSetpointWithdraw at h
  obtain rfl := Host.Outcome.next.inj h
  simp

theorem execRecordRead_brk (c : Ctx) (first count : U32) (s : State) {u : State} (h : execRecordRead c first count s = .next u) : u.brk = s.brk := by
  unfold execRecordRead at h
  obtain rfl := Host.Outcome.next.inj h
  simp

theorem execConfirmProcess_brk (s : State) {u : State} (h : execConfirmProcess s = .next u) : u.brk = s.brk := by
  unfold execConfirmProcess at h
  obtain rfl := Host.Outcome.next.inj h
  simp

theorem execPendFlagWrite_brk (idx : Idx) (s : State) {u : State} (h : execPendFlagWrite idx s = .next u) : u.brk = s.brk := by
  unfold execPendFlagWrite at h
  obtain rfl := Host.Outcome.next.inj h
  simp

theorem execTdfMacOutcome_brk (s : State) {u : State} (h : execTdfMacOutcome s = .next u) : u.brk = s.brk := by
  unfold execTdfMacOutcome at h
  obtain rfl := Host.Outcome.next.inj h
  simp

theorem execTariffSweepDone_brk (s : State) {u : State} (h : execTariffSweepDone s = .next u) : u.brk = s.brk := by
  unfold execTariffSweepDone at h
  obtain rfl := Host.Outcome.next.inj h
  simp

theorem execSetpointRetry_brk (idx : Idx) (cmp : SpCompare) (s : State) {u : State} (h : execSetpointRetry idx cmp s = .next u) : u.brk = s.brk := by
  unfold execSetpointRetry at h
  obtain rfl := Host.Outcome.next.inj h
  simp

theorem execSetpointExpire_brk (idx : Idx) (s : State) {u : State} (h : execSetpointExpire idx s = .next u) : u.brk = s.brk := by
  unfold execSetpointExpire at h
  obtain rfl := Host.Outcome.next.inj h
  simp

theorem execAnnounceElapsed_brk (k : Fin 16) (s : State) {u : State} (h : execAnnounceElapsed k s = .next u) : u.brk = s.brk := by
  unfold execAnnounceElapsed at h
  obtain rfl := Host.Outcome.next.inj h
  simp

theorem execFragGapSend_brk (path : Fin 13) (s : State) {u : State} (h : execFragGapSend path s = .next u) : u.brk = s.brk := by
  unfold execFragGapSend at h
  obtain rfl := Host.Outcome.next.inj h
  simp

theorem execCampaignDeadline_brk (k : Fin 16) (s : State) {u : State} (h : execCampaignDeadline k s = .next u) : u.brk = s.brk := by
  unfold execCampaignDeadline at h
  obtain rfl := Host.Outcome.next.inj h
  simp

theorem execAbortHoldElapsed_brk (k : Fin 16) (s : State) {u : State} (h : execAbortHoldElapsed k s = .next u) : u.brk = s.brk := by
  unfold execAbortHoldElapsed at h
  obtain rfl := Host.Outcome.next.inj h
  simp

theorem execRepairResend_brk (n : U16) (s : State) {u : State} (h : execRepairResend n s = .next u) : u.brk = s.brk := by
  unfold execRepairResend at h
  obtain rfl := Host.Outcome.next.inj h
  simp

theorem execWakeConfig_brk (c : Ctx) (addr src : Byte) (s : State) {u : State} (h : execWakeConfig c addr src s = .next u) : u.brk = s.brk := by
  unfold execWakeConfig at h
  obtain rfl := Host.Outcome.next.inj h
  simp

theorem execHostReset_brk (s : State) {u : State} (h : execHostReset s = .next u) : u.brk = s.brk := by
  unfold execHostReset at h
  obtain rfl := Host.Outcome.next.inj h
  simp

theorem execWakeEvent_brk (cause : Fin 3) (s : State) {u : State} (h : execWakeEvent cause s = .next u) : u.brk = s.brk := by
  unfold execWakeEvent at h
  obtain rfl := Host.Outcome.next.inj h
  simp

theorem execWakeAttemptTimeout_brk (pll : Bool) (s : State) {u : State} (h : execWakeAttemptTimeout pll s = .next u) : u.brk = s.brk := by
  unfold execWakeAttemptTimeout at h
  obtain rfl := Host.Outcome.next.inj h
  simp

theorem execWakeRetryTimer_brk (s : State) {u : State} (h : execWakeRetryTimer s = .next u) : u.brk = s.brk := by
  unfold execWakeRetryTimer at h
  obtain rfl := Host.Outcome.next.inj h
  simp

theorem execBkpActiveRise_brk (s : State) {u : State} (h : execBkpActiveRise s = .next u) : u.brk = s.brk := by
  unfold execBkpActiveRise at h
  obtain rfl := Host.Outcome.next.inj h
  simp

theorem execBkpActiveFall_brk (s : State) {u : State} (h : execBkpActiveFall s = .next u) : u.brk = s.brk := by
  unfold execBkpActiveFall at h
  obtain rfl := Host.Outcome.next.inj h
  simp

theorem execStatus_brk (c : Ctx) (s : State) {u : State} (h : execStatus c s = .next u) : u.brk = s.brk := by
  unfold execStatus at h
  obtain rfl := Host.Outcome.next.inj h
  exact command_brk (fun _ => by simp) _

theorem execDebugAccess_brk (entry : Fin 2) (tag : U16) (access : DbgAccess) (s : State) {u : State} (h : execDebugAccess entry tag access s = .next u) : u.brk = s.brk := by
  unfold execDebugAccess at h
  split at h <;> cases h <;> simp

theorem execDevAccessErrClear_brk (value : U32) (s : State) {u : State} (h : execDevAccessErrClear value s = .next u) : u.brk = s.brk := by
  unfold execDevAccessErrClear at h
  obtain rfl := Host.Outcome.next.inj h
  simp

theorem execRcRegisterRead_brk (space : Space) (addr : U32) (s : State) {u : State} (h : execRcRegisterRead space addr s = .next u) : u.brk = s.brk := by
  unfold execRcRegisterRead at h
  split at h <;> cases h <;> simp

theorem execBar2Write_brk (addr : U32) (s : State) {u : State} (h : execBar2Write addr s = .next u) : u.brk = s.brk := by
  unfold execBar2Write at h
  obtain rfl := Host.Outcome.next.inj h
  simp

theorem execDarkBlockAccess_brk (bus : Fin 5) (blk : Blk) (write : Bool) (addr : U32) (s : State) {u : State} (h : execDarkBlockAccess bus blk write addr s = .next u) : u.brk = s.brk := by
  unfold execDarkBlockAccess at h
  obtain rfl := Host.Outcome.next.inj h
  simp

theorem execMgmtRead_brk (reg : Byte) (count : Nat) (s : State) {u : State} (h : execMgmtRead reg count s = .next u) : u.brk = s.brk := by
  unfold execMgmtRead at h
  obtain rfl := Host.Outcome.next.inj h
  simp

theorem execMgmtWrite_brk (reg value : Byte) (s : State) {u : State} (h : execMgmtWrite reg value s = .next u) : u.brk = s.brk := by
  unfold execMgmtWrite at h
  obtain rfl := Host.Outcome.next.inj h
  simp

end Sys2Proof.Machine
end

