-- ==== Sys2Proof/Laws/ClaimGroups.lean ====
section
/-! SUPPORT. What the operations that change the claim part leave of the held claim and the output groups (R434). -/

namespace Sys2Proof.Machine

@[simp] theorem abandonCkpt_hold (c : Nat) (st : Status) (s : State) : (abandonCkpt c st s).brk.hold = s.brk.hold := by
  unfold abandonCkpt; dsimp only; (repeat' split) <;> simp

@[simp] theorem abandonCkpt_groups (c : Nat) (st : Status) (s : State) : (abandonCkpt c st s).brk.groups = s.brk.groups := by
  unfold abandonCkpt; dsimp only; (repeat' split) <;> simp

theorem setGroups_fold_brk (m : Nat) (s t : State) (l : List (String × Nat)) : (l.foldl
    (fun t e => if grp s e.2 == bit m e.2 then t else emit (.pin e.1 (b2n (bit m e.2))) t) t).brk = t.brk :=
  foldl_brk (fun t e => by split <;> simp) t l

theorem setGroups_hg (m : Nat) (s : State) : (setGroups m s).brk.hold = s.brk.hold ∧ (setGroups m s).brk.groups = m := by
  unfold setGroups
  extract_lets off src s1 s2 s3 s4 s5 cs s6
  have e2 : s2.brk = s1.brk := setGroups_fold_brk m s s1 _
  have e3 : s3.brk = s1.brk := by
    simp only [s3]; split
    · exact (foldl_brk (fun t e => by simp) _ _).trans e2
    · exact e2
  have e4 : s4.brk = s1.brk := by
    simp only [s4]; split
    · exact (foldl_brk (fun t e => by simp) _ _).trans e3
    · exact e3
  have e5 : s5.brk = s1.brk := by
    simp only [s5]; split
    · rw [fluOff_brk]; exact (foldl_brk (fun t e => by simp) _ _).trans e4
    · split
      · rw [fluOn_brk]; exact e4
      · exact e4
  have h5 : s5.brk.hold = s.brk.hold ∧ s5.brk.groups = m := by rw [e5]; exact ⟨rfl, rfl⟩
  have h6 : s6.brk.hold = s.brk.hold ∧ s6.brk.groups = m := by
    simp only [s6, abandonCkpt_hold, abandonCkpt_groups]
    split <;> simp [h5]
  clear_value s2 s3 s4 s5 s6
  split
  · simpa using h5
  · split
    · split
      · simpa using h6
      · exact h6
    · exact h5

@[simp] theorem setGroups_hold (m : Nat) (s : State) : (setGroups m s).brk.hold = s.brk.hold := (setGroups_hg m s).1

@[simp] theorem setGroups_groups (m : Nat) (s : State) : (setGroups m s).brk.groups = m := (setGroups_hg m s).2

@[simp] theorem dropClaim_hold (w c : Nat) (s : State) : (dropClaim w c s).brk.hold = false := by
  unfold dropClaim; dsimp only; split <;> simp

@[simp] theorem dropClaim_groups (w c : Nat) (s : State) : (dropClaim w c s).brk.groups = 0 := by
  unfold dropClaim; dsimp only; split <;> simp

theorem safeDrop_gated {s : State} (h : Gated s) : Gated (safeDrop s) := by
  unfold safeDrop; split
  · exact h
  · simp [Gated]

@[simp] theorem clearCause_hold (c : Nat) (s : State) : (clearCause c s).brk.hold = s.brk.hold := by
  unfold clearCause; dsimp only; (repeat' split) <;> simp

@[simp] theorem clearCause_groups (c : Nat) (s : State) : (clearCause c s).brk.groups = s.brk.groups := by
  unfold clearCause; dsimp only; (repeat' split) <;> simp

@[simp] theorem proofFault_hold (r : Role) (c : Nat) (b : BrkState) : (proofFault r c b).hold = b.hold := by
  unfold proofFault; split <;> rfl

@[simp] theorem proofFault_groups (r : Role) (c : Nat) (b : BrkState) : (proofFault r c b).groups = b.groups := by
  unfold proofFault; split <;> rfl

@[simp] theorem lineFault_hold (c n : Nat) (s : State) : (lineFault c n s).brk.hold = false := by
  unfold lineFault; dsimp only; (repeat' split) <;> simp

@[simp] theorem lineFault_groups (c n : Nat) (s : State) : (lineFault c n s).brk.groups = 0 := by
  unfold lineFault; dsimp only; (repeat' split) <;> simp

@[simp] theorem loseHold_hold (w : Nat) (s : State) : (loseHold w s).brk.hold = false := by
  unfold loseHold; dsimp only; split <;> simp

@[simp] theorem loseHold_groups (w : Nat) (s : State) : (loseHold w s).brk.groups = 0 := by
  unfold loseHold; dsimp only; split <;> simp

@[simp] theorem notReady_hold (c : Bool) (n : Nat) (s : State) : (notReady c n s).brk.hold = s.brk.hold := by
  unfold notReady; dsimp only; (repeat' split) <;> simp

@[simp] theorem notReady_groups (c : Bool) (n : Nat) (s : State) : (notReady c n s).brk.groups = s.brk.groups := by
  unfold notReady; dsimp only; (repeat' split) <;> simp

theorem chkMoved_hg (b n : Nat) (s : State) :
    (chkMoved b n s).brk.hold = s.brk.hold ∧ (chkMoved b n s).brk.groups = s.brk.groups := by
  unfold chkMoved; dsimp only; split <;> simp

theorem chkCopy_hg (ok : Bool) (s : State) : (chkCopy ok s).brk.hold = s.brk.hold ∧ (chkCopy ok s).brk.groups = s.brk.groups := by
  unfold chkCopy
  split
  · exact ⟨rfl, rfl⟩
  · split
    · simp
    · extract_lets f o
      have ho : ∀ {n : Nat} {t : State}, o = some (n, t) → t.brk = s.brk := by
        intro n t h
        simp only [o] at h
        split at h
        · cases h; rfl
        · exact takeData_brk h
      clear_value o f
      split
      · next h1 _ =>
        have hb := ho rfl
        dsimp only
        split
        · split
          · split <;> simp [chkMoved_hg, hb]
          · simp [hb]
        · simp [hb]
      · next h1 _ =>
        have hb := ho rfl
        simp [chkMoved_hg, hb]
      · exact ⟨rfl, rfl⟩

@[simp] theorem chkCopy_hold (ok : Bool) (s : State) : (chkCopy ok s).brk.hold = s.brk.hold := (chkCopy_hg ok s).1

@[simp] theorem chkCopy_groups (ok : Bool) (s : State) : (chkCopy ok s).brk.groups = s.brk.groups := (chkCopy_hg ok s).2

theorem ckptPage_hg (ok : Bool) (s : State) : (ckptPage ok s).brk.hold = s.brk.hold ∧ (ckptPage ok s).brk.groups = s.brk.groups := by
  unfold ckptPage
  split
  · split
    · exact ⟨rfl, rfl⟩
    · split
      · simp
      · next hp =>
        have hb := ckptPlace_brk hp
        split
        · simp [ckptBreak, hb]
        · dsimp only; split <;> simp [hb]
  · exact ⟨rfl, rfl⟩

@[simp] theorem ckptPage_hold (ok : Bool) (s : State) : (ckptPage ok s).brk.hold = s.brk.hold := (ckptPage_hg ok s).1

@[simp] theorem ckptPage_groups (ok : Bool) (s : State) : (ckptPage ok s).brk.groups = s.brk.groups := (ckptPage_hg ok s).2

theorem ckptRest_hg (n : Nat) (s : State) : (ckptRest n s).brk.hold = s.brk.hold ∧ (ckptRest n s).brk.groups = s.brk.groups := by
  induction n generalizing s with
  | zero => exact ⟨rfl, rfl⟩
  | succ n ih => rw [ckptRest]; (repeat' split) <;> simp [ih]

@[simp] theorem cutDone_hold (w : ProgWhat) (ok : Bool) (s : State) : (cutDone w ok s).brk.hold = s.brk.hold := by
  unfold cutDone; dsimp only; (repeat' split) <;> simp

@[simp] theorem cutDone_groups (w : ProgWhat) (ok : Bool) (s : State) : (cutDone w ok s).brk.groups = s.brk.groups := by
  unfold cutDone; dsimp only; (repeat' split) <;> simp

@[simp] theorem programDone_hold (ch : Bool) (w : ProgWhat) (b : Nat) (ok : Bool) (s : State) : (programDone ch w b ok s).brk.hold = s.brk.hold := by
  unfold programDone; dsimp only; (repeat' split) <;> simp

@[simp] theorem programDone_groups (ch : Bool) (w : ProgWhat) (b : Nat) (ok : Bool) (s : State) : (programDone ch w b ok s).brk.groups = s.brk.groups := by
  unfold programDone; dsimp only; (repeat' split) <;> simp

@[simp] theorem formatEnd_hold (ch : Bool) (l : List Nat) (s : State) : (formatEnd ch l s).brk.hold = s.brk.hold := by
  unfold formatEnd; dsimp only; (repeat' split) <;> simp

@[simp] theorem formatEnd_groups (ch : Bool) (l : List Nat) (s : State) : (formatEnd ch l s).brk.groups = s.brk.groups := by
  unfold formatEnd; dsimp only; (repeat' split) <;> simp

@[simp] theorem mountChk_hold (w : Nat) (a : Anchor) (s : State) : (mountChk w a s).brk.hold = s.brk.hold := rfl

@[simp] theorem mountChk_groups (w : Nat) (a : Anchor) (s : State) : (mountChk w a s).brk.groups = s.brk.groups := rfl

@[simp] theorem mountEnd_hold (ch : Bool) (ms : Nat) (l : List Nat) (m : List (Nat × Option RawPage)) (s : State) : (mountEnd ch ms l m s).brk.hold = s.brk.hold := by
  unfold mountEnd; dsimp only; (repeat' split) <;> simp

@[simp] theorem mountEnd_groups (ch : Bool) (ms : Nat) (l : List Nat) (m : List (Nat × Option RawPage)) (s : State) : (mountEnd ch ms l m s).brk.groups = s.brk.groups := by
  unfold mountEnd; dsimp only; (repeat' split) <;> simp

@[simp] theorem clearCore_hold (s : State) : (clearCore s).brk.hold = false := rfl

@[simp] theorem clearCore_groups (s : State) : (clearCore s).brk.groups = 0 := rfl

@[simp] theorem systemReset_hold (c : Nat) (s : State) : (systemReset c s).brk.hold = false := by simp [systemReset]

@[simp] theorem systemReset_groups (c : Nat) (s : State) : (systemReset c s).brk.groups = 0 := by simp [systemReset]

@[simp] theorem enterState_hold (t : PState) (s : State) : (enterState t s).brk.hold = s.brk.hold := by
  simp only [enterState, brk_ite, startSeq_brk, ite_self]
  (repeat' split) <;> (simp; split <;> rfl)

@[simp] theorem enterState_groups (t : PState) (s : State) : (enterState t s).brk.groups = s.brk.groups := by
  simp only [enterState, brk_ite, startSeq_brk, ite_self]
  (repeat' split) <;> (simp; split <;> rfl)

@[simp] theorem destroyKeys_hold (s : State) : (destroyKeys s).brk.hold = false := by simp [destroyKeys]

@[simp] theorem destroyKeys_groups (s : State) : (destroyKeys s).brk.groups = 0 := by simp [destroyKeys]

theorem gated_of {s t : State} (h : Gated s) (e : t.brk = s.brk) : Gated t := by simpa [Gated, e] using h

theorem gated_of2 {s t : State} (h : Gated s) (e : t.brk.hold = s.brk.hold) (e' : t.brk.groups = s.brk.groups) : Gated t := by
  simpa [Gated, e, e'] using h

theorem lcEffect_gated (k : Nat) {s : State} (h : Gated s) : Gated (lcEffect k s) := by
  unfold lcEffect; dsimp only; (repeat' split) <;> simpa [Gated] using h

theorem lifecycleCmd_gated (c : Ctx) (k : Nat) {s : State} (h : Gated s) : Gated (lifecycleCmd c k s).st := by
  unfold lifecycleCmd
  split
  · simpa [Gated, refuse] using h
  · dsimp only
    split
    · simpa [Gated, refuse] using h
    · split
      · simpa [Gated] using h
      · exact lcEffect_gated k h

theorem complete_gated {c : Ctx} {st : Status} {r : Nat} {d : List Byte} {s t : State} (h : Gated s) (ht : Gated t) :
    Gated (complete c st r d t s) := by
  unfold complete; split
  · exact gated_of h (by simp)
  · exact gated_of ht (by simp)

theorem command_gated {i : Instr} {form : Bool} {body : State → CmdRes} {s : State} (h : Gated s) (hb : Gated (body s).st) :
    Gated (command i form body s) := by
  unfold command
  split
  · unfold runCmd
    extract_lets c
    clear_value c
    repeat' split
    all_goals first
      | exact h
      | (refine gated_of h ?_; (simp; done))
      | (rename_i e; rw [e] at hb; first | exact hb | exact complete_gated h hb | (refine gated_of hb ?_; (simp; done)))
  · exact h

theorem regWrite_gated {b : Blk} {a : Nat} {f : State → State} {s : State} (h : Gated s) (hf : Gated (f s)) : Gated (regWrite b a f s) := by
  unfold regWrite; split
  · (refine gated_of h ?_; (simp; done))
  · exact hf

theorem writeNow_gated {w : Nat × Nat} {s : State} (h : Gated s) : Gated (writeNow w s) := gated_of h (by simp)

theorem replyFirst_gated {i : Instr} {body : State → CmdRes} {f : State → State} {s : State} (h : Gated s)
    (hb : Gated (body s).st) (hf : ∀ t, Gated t → Gated (f t)) : Gated (replyFirst i body f s) := by
  have hc : Gated (command i true body s) := command_gated h hb
  unfold replyFirst
  extract_lets t
  split
  · refine hf _ ?_
    cases hostCmd i
    · exact hc
    · exact writeNow_gated hc
  · exact hc

@[simp] theorem requestRevert_hold (c : Nat) (s : State) : (requestRevert c s).brk.hold = false := by simp [requestRevert]

@[simp] theorem requestRevert_groups (c : Nat) (s : State) : (requestRevert c s).brk.groups = 0 := by simp [requestRevert]

theorem svcDoneRun_gated (e : Nat) (t : U16) (r : Bool) {s : State} (h : Gated s) : Gated (svcDoneRun e t r s) := by
  unfold svcDoneRun; dsimp only; split
  · simp [Gated]
  · (refine gated_of h ?_; (simp; done))

@[simp] theorem startCkpt_hold (c) (s : State) : (startCkpt c s).brk.hold = s.brk.hold := by simp [startCkpt]

@[simp] theorem startCkpt_groups (c) (s : State) : (startCkpt c s).brk.groups = s.brk.groups := by simp [startCkpt]

theorem checkpointCmd_gated (c : Ctx) {s : State} (h : Gated s) : Gated (checkpointCmd c s).st := by
  unfold checkpointCmd refuse; (repeat' split) <;> (refine gated_of2 h ?_ ?_ <;> (simp; done))

theorem ckptEnd_gated (ok : Bool) {s : State} (h : Gated s) : Gated (ckptEnd ok s) := by
  unfold ckptEnd
  extract_lets t
  have ht : Gated t := by
    simp only [t]; split
    · exact gated_of2 h (ckptRest_hg _ _).1 (ckptRest_hg _ _).2
    · exact h
  clear_value t
  dsimp only; (repeat' split) <;> (refine gated_of2 ht ?_ ?_ <;> (simp [spoilAnchor]; done))

theorem ckptPeriod_gated {s : State} (h : Gated s) : Gated (ckptPeriod s) := by
  unfold ckptPeriod; dsimp only; (repeat' split) <;> (refine gated_of2 h ?_ ?_ <;> (simp; done))

@[simp] theorem toStandby_hold (s : State) : (toStandby s).brk.hold = false := by
  unfold toStandby; dsimp only; rw [enterState_hold]; split <;> simp

@[simp] theorem toStandby_groups (s : State) : (toStandby s).brk.groups = 0 := by
  unfold toStandby; dsimp only; rw [enterState_groups]; split <;> simp

/-- A device that goes to STANDBY has no group enabled (R434, R435). -/
theorem toStandby_gated (s : State) : Gated (toStandby s) := fun _ => toStandby_groups s

@[simp] theorem roundWon_hold (s : State) : (roundWon s).brk.hold = true := by
  unfold roundWon; dsimp only; split <;> simp

theorem takeLevel_gated {s : State} (h : Gated s) : Gated (takeLevel s) := by unfold takeLevel; split <;> exact gated_of2 h rfl rfl

@[simp] theorem takeLevel_hold (s : State) : (takeLevel s).brk.hold = s.brk.hold := by unfold takeLevel; split <;> rfl

@[simp] theorem takeLevel_groups (s : State) : (takeLevel s).brk.groups = s.brk.groups := by unfold takeLevel; split <;> rfl

theorem roundEnd_gated (p : Nat) (b : Bool) {s : State} (h : Gated s) : Gated (roundEnd p b s) := by
  unfold roundEnd; dsimp only
  (repeat' split) <;> first | (with_reducible exact toStandby_gated _) | (simp [Gated]; done) | (refine gated_of2 h ?_ ?_ <;> (simp; done))

theorem claimRound_gated (n : Nat) (b : Bool) {s : State} (h : Gated s) : Gated (claimRound n b s) := by
  unfold claimRound
  extract_lets own a pulls low s1
  have h1 : Gated s1 := by
    simp only [s1]; split
    · exact h
    · exact gated_of h (emit_brk ..)
  clear_value s1
  split
  · simp [Gated]
  · simp [Gated]
  · exact roundEnd_gated _ _ h1

theorem watchRound_gated (p : Nat) {s : State} (h : Gated s) : Gated (watchRound p s) := by
  unfold watchRound; (repeat' split) <;> exact gated_of2 h rfl rfl

theorem busIdle_gated {s : State} (h : Gated s) : Gated (busIdle s) := by
  unfold busIdle; dsimp only; (repeat' split) <;> exact gated_of2 h rfl rfl

theorem claimSetCmd_gated (o l : Nat) {s : State} (h : Gated s) : Gated (claimSetCmd o l s).st := by
  unfold claimSetCmd refuse; (repeat' split) <;> first | exact gated_of2 h rfl rfl | (simp [Gated]; done)

theorem brakeConfigAfter_gated (e : List CfgEntry) (x : Tab Int) {s : State} (h : Gated s) : Gated (brakeConfigAfter e x s) := by
  unfold brakeConfigAfter; split <;> exact gated_of2 h rfl rfl

theorem configure_gated {g : Grp} {op : Byte} {e : List CfgEntry} {r : List CfgEntry → State → Option Status}
    {f : Tab Int → State → State} {s : State} (h : Gated s) (hf : ∀ x t, Gated t → Gated (f x t)) : Gated (configure g op e r f s).st := by
  unfold configure refuse; dsimp only
  (repeat' split) <;> first | exact h | exact hf _ _ (gated_of2 h rfl rfl)

theorem peerSilent_gated {s : State} (h : Gated s) : Gated (peerSilent s) := by
  unfold peerSilent; dsimp only; split <;> (refine gated_of2 h ?_ ?_ <;> (simp; done))

theorem faultClearCmd_gated (k : Nat) (p : Bool) {s : State} (h : Gated s) : Gated (faultClearCmd k p s).st := by
  unfold faultClearCmd refuse; split <;> (refine gated_of2 h ?_ ?_ <;> (simp; done))

@[simp] theorem powerClear_hold (a : Bool) (s : State) : (powerClear a s).brk.hold = false := by simp [powerClear]

@[simp] theorem powerClear_groups (a : Bool) (s : State) : (powerClear a s).brk.groups = 0 := by simp [powerClear]

theorem powerUp_gated (u : Bool) {s : State} (h : Gated s) : Gated (powerUp u s) := by
  unfold powerUp; dsimp only; split <;> simpa [Gated] using h

theorem resetNow_gated (k : Nat) {s : State} (h : Gated s) : Gated (resetNow k s) := by
  unfold resetNow; split <;> simpa [Gated] using h

theorem enterTrim_gated {s : State} (h : Gated s) : Gated (enterTrim s) := by
  intro hh; simp [enterTrim] at hh ⊢; simp [h hh, bits]

@[simp] theorem leaveTrim_hold (s : State) : (leaveTrim s).brk.hold = s.brk.hold := by simp [leaveTrim]

@[simp] theorem leaveTrim_groups (s : State) : (leaveTrim s).brk.groups = s.brk.groups := by simp [leaveTrim]

theorem powerStateNow_gated (k : Nat) {s : State} (h : Gated s) : Gated (powerStateNow k s) := by
  unfold powerStateNow
  dsimp only
  split
  · exact h
  split
  · exact gated_of2 h (leaveTrim_hold s) (leaveTrim_groups s)
  · split
    · exact enterTrim_gated (gated_of h rfl)
    · exact gated_of h rfl
  · exact gated_of h rfl

theorem entryCkpt_gated {s : State} (h : Gated s) : Gated (entryCkpt s) := by
  unfold entryCkpt; (repeat' split) <;> (refine gated_of2 h ?_ ?_ <;> (simp; done))

theorem entryStep_gated {s : State} (h : Gated s) : Gated (entryStep s) := by
  unfold entryStep; split
  · exact h
  · dsimp only
    (repeat' split) <;> first
      | exact h | exact enterTrim_gated h
      | (refine gated_of2 h ?_ ?_ <;> (simp; done))
      | exact gated_of (s := entryCkpt (closeBatch s)) (entryCkpt_gated (gated_of h (by simp))) rfl
      | (simp [Gated]; done)

theorem watcherFault_gated {s : State} (h : Gated s) : Gated (watcherFault s) := by
  unfold watcherFault; dsimp only; split
  · simp [Gated]
  · exact h

theorem resume_gated (w : Waking) (s : State) : Gated (resume w s) := by
  unfold resume; extract_lets st b p i s1 s2 s3 s4
  have e1 : Gated s1 := fun _ => rfl
  clear_value s1
  have e2 : Gated s2 := gated_of e1 (by simp [s2])
  clear_value s2
  have e3 : Gated s3 := by simp only [s3]; split <;> first | exact e2 | (refine gated_of e2 ?_; (simp; done))
  have e4 : Gated s4 := watcherFault_gated (gated_of e3 (by simp))
  exact gated_of e4 (by simp)

theorem hushBoot_gated (w : Waking) (s : State) : Gated (hushBoot w s) := by simp [hushBoot, Gated]

theorem wakeDone_gated {s : State} (h : Gated s) : Gated (wakeDone s) := by
  unfold wakeDone
  split
  · exact h
  · split
    · exact h
    · extract_lets s1
      have h1 : Gated s1 := gated_of h (by simp [s1])
      clear_value s1
      split
      · exact resume_gated _ _
      · exact hushBoot_gated _ _
      · exact gated_of h1 rfl

theorem watcherFire_gated (b : Bool) {s : State} (h : Gated s) : Gated (watcherFire b s) := by
  unfold watcherFire; dsimp only; split
  · exact h
  · (refine gated_of2 h ?_ ?_ <;> (simp; done))

theorem proofWake_gated {s : State} (h : Gated s) : Gated (proofWake s) := by
  unfold proofWake; dsimp only; split
  · exact h
  · (refine gated_of2 h ?_ ?_ <;> (simp; done))

theorem bootFail_gated (t c : Nat) {s : State} (h : Gated s) : Gated (bootFail t c s) := by
  unfold bootFail; exact safeDrop_gated (gated_of h (by simp))

theorem copyDone_gated {s : State} (h : Gated s) : Gated (copyDone s) := by
  unfold copyDone; dsimp only; split <;> first | (simp [Gated]; done) | (refine gated_of h ?_; (simp; done))

theorem chunkDone_gated (ok : Bool) {s : State} (h : Gated s) : Gated (chunkDone ok s) := by
  unfold chunkDone; dsimp only
  (repeat' split) <;> first
    | exact h | exact gated_of h rfl | exact bootFail_gated _ _ (gated_of h (by simp)) | exact copyDone_gated (gated_of h rfl)

theorem suiteResult_gated (k : Nat) {s : State} (h : Gated s) : Gated (suiteResult k s) := by
  have h1 : Gated (if k = 0 then s else raise 125 7 k s) := by split <;> first | exact h | exact gated_of h (by simp)
  unfold suiteResult; extract_lets t
  replace h : Gated t := h1
  clear_value t
  (repeat' split) <;> first | exact h | exact safeDrop_gated (gated_of2 h (by simp <;> rfl) (by simp <;> rfl)) | exact gated_of h rfl

theorem bootRom_gated (k : Nat) {s : State} (h : Gated s) : Gated (bootRom k s) := by
  unfold bootRom; extract_lets v first of img alt t t0 q s0
  have e0 : s0.brk = s.brk := by
    have e1 : t.brk = s.brk := by simp only [t, seqGood_brk]; split <;> simp
    have e2 : t0.brk = s.brk := by simp only [t0]; split <;> simp [e1]
    simp only [s0]; split <;> simp [e1, e2]
  have h0 : Gated s0 := gated_of h e0
  clear_value s0
  split
  · exact gated_of h0 rfl
  · split
    · exact bootFail_gated _ _ h0
    · refine gated_of (suiteResult_gated k (gated_of (watcherFault_gated ?_) (recorderGood_brk _ _))) (loaderUpdate_brk _ _)
      intro _
      exact congrArg BrkState.groups (nandStart_brk _)

theorem bootLoader_gated (k : Nat) {s : State} (h : Gated s) : Gated (bootLoader k s) := by
  unfold bootLoader; dsimp only; (repeat' split) <;> first | exact h | exact bootFail_gated _ _ h | (refine gated_of h ?_; (simp; done))

theorem bootChain_gated (k f : Nat) {s : State} (h : Gated s) : Gated (bootChain k f s) := by
  unfold bootChain; dsimp only
  (repeat' split) <;> first | exact h | exact bootRom_gated _ h | exact bootLoader_gated _ h | (refine gated_of h ?_; (simp; done))

theorem restoreCkpt_gated (k : Ckpt) {s : State} (h : Gated s) : Gated (restoreCkpt k s) :=
  gated_of2 h (by simp [restoreCkpt]) (by simp [restoreCkpt])

theorem restoreNothing_gated {s : State} (h : Gated s) : Gated (restoreNothing s) := by
  unfold restoreNothing; extract_lets b l c g s1
  have h1 : Gated s1 := gated_of2 h rfl rfl
  clear_value s1
  split <;> exact gated_of h1 (by simp)

theorem restored_gated (g c : Nat) {s : State} (h : Gated s) : Gated (restored g c s) := by
  unfold restored; (refine gated_of2 h ?_ ?_ <;> (simp; done))

theorem restoreFailed_gated {s : State} (h : Gated s) : Gated (restoreFailed s) := by
  unfold restoreFailed; exact safeDrop_gated (gated_of h (by simp))

theorem restoreComplete_gated (a b : Bool) {s : State} (h : Gated s) : Gated (restoreComplete a b s) := by
  unfold restoreComplete
  split
  · exact h
  split
  · exact restored_gated _ _ (gated_of h (by simp))
  extract_lets n
  split
  · exact restored_gated _ _ (restoreNothing_gated (gated_of h (drawFree_brk ..)))
  · split
    · exact restored_gated _ _ (restoreCkpt_gated _ h)
    · exact restoreFailed_gated h
  · split
    · exact restored_gated _ _ (restoreCkpt_gated _ h)
    · split
      · exact restored_gated _ _ (restoreCkpt_gated _ h)
      · exact restoreFailed_gated h

theorem svcRequest_gated (m : List Byte) (x) {s : State} (h : Gated s) : Gated (svcRequest m x s) := by
  unfold svcRequest; dsimp only
  (repeat' split) <;> first
    | exact svcDoneRun_gated _ _ _ h | (refine gated_of h ?_; (simp; done))

theorem svcSubmit_gated (l : Nat) (x) {s : State} (h : Gated s) : Gated (svcSubmit l x s) := svcRequest_gated _ _ h

theorem devWrite_gated (o v : Nat) {s : State} (h : Gated s) : Gated (devWrite o v s) := by
  unfold devWrite
  (repeat' split) <;> first | exact h | (simp [Gated]; done) | exact svcSubmit_gated _ _ h | (refine gated_of h ?_; (simp; done))

theorem blkWrite_gated (b : Blk) (o v : Nat) {s : State} (h : Gated s) : Gated (blkWrite b o v s) := by
  unfold blkWrite
  (repeat' split) <;> first | exact h | exact devWrite_gated _ _ h | (refine gated_of h ?_; (simp; done))

theorem bar0Write_gated (a v : Nat) (be : Byte) {s : State} (h : Gated s) : Gated (bar0Write a v be s) := by
  have h1 : Gated (if be ≠ 0xF then badAccess s else s) := by split <;> first | exact h | (refine gated_of h ?_; (simp; done))
  unfold bar0Write; dsimp only
  generalize (if be ≠ 0xF then badAccess s else s) = s1 at *
  (repeat' split) <;> first | exact h1 | (refine gated_of h1 ?_; (simp; done)) | exact blkWrite_gated _ _ _ h1

end Sys2Proof.Machine
end

