-- ==== Sys2Proof/WellFormed.lean ====
section
/-! DEFINITION. Which terms spell a command the block can receive: the field ranges, lengths and alignments the operands' types do not
already fix. -/

namespace Sys2Proof

/-- XLEN and the bytes an "in" transfer brought (R350): at most 8 MiB, a multiple of 4, and all of them or none. -/
def ctxOk (c : Ctx) : Bool := decide (c.xlen ≤ 2 ^ 23 ∧ c.xlen % 4 = 0 ∧ (c.xin = [] ∨ c.xin.length = c.xlen))

/-- COUNT of a configuration command (R367): one to four entries to set, one to get. -/
def entsOk (op : Byte) (l : List CfgEntry) : Bool := decide (1 ≤ l.length ∧ l.length ≤ (if op = 1 then 1 else 4))

/-- An offset lies in its register space: BAR0 and BAR4 by their sizes (R336), configuration space by its 4 KiB. -/
def spaceBytes : Space → Nat → Bool
  | .bar0, a => decide (a < 2 ^ 24)
  | .bar4, a => decide (a < 2 ^ 16)
  | .config, a => decide (a < 2 ^ 12)

/-- A host register write is one the bus can carry: an aligned dword in its BAR, with four byte enables (R342, R343). -/
def hostWrOk : HostWr → Bool
  | .bar0 a _ be => a.toNat % 4 == 0 && spaceBytes .bar0 a.toNat && decide (be.toNat < 16)
  | .bar4 a _ be => a.toNat % 4 == 0 && spaceBytes .bar4 a.toNat && decide (be.toNat < 16)
  | .command _ | .bar _ _ | .msixControl _ _ | .deviceControl _ _ | .aerClear _ => true

/-- A page of the CHK channel (R406–R408): its tag's fields fit, its KIND is one CHK holds, and it has 16,384 data bytes. -/
def rawOk : Option RawPage → Bool
  | none => true
  | some q => (q.kind == 1 || q.kind == 3 || q.kind == 4) && decide (q.tflags < 4 ∧ q.lunit < 2 ^ 32 ∧ q.wseq < 2 ^ 64 ∧ q.dseq < 2 ^ 64 ∧
      q.pidx < 2 ^ 32 ∧ q.data.length = 16384)

/-- A command's operands are ones its bus, packet or event can carry. -/
def Instr.wf : Instr → Bool
  | .status c => ctxOk c
  | .ingestConfig c op ents => ctxOk c && entsOk op ents
  | .gatewaySet c _ _ _ _ => ctxOk c
  | .exportSet c _ _ _ _ => ctxOk c
  | .configSave c => ctxOk c
  | .bind c _ _ _ _ => ctxOk c
  | .unbind c _ => ctxOk c
  | .block c _ => ctxOk c
  | .unblock c _ => ctxOk c
  | .coldRead c _ => ctxOk c
  | .coldWrite c _ _ => ctxOk c
  | .ledgerConfig c op ents => ctxOk c && entsOk op ents
  | .strangerDrain c _ _ => ctxOk c
  | .relay c _ => ctxOk c
  | .hostPend c _ _ => ctxOk c
  | .nodeActivate c _ _ _ => ctxOk c
  | .nodeDeactivate c _ _ => ctxOk c
  | .nodeSet c _ _ _ _ => ctxOk c
  | .attach c _ _ => ctxOk c
  | .rejectProposal c _ _ => ctxOk c
  | .nodeMove c _ _ _ => ctxOk c
  | .weirConfig c op ents => ctxOk c && entsOk op ents
  | .weirEnable c _ => ctxOk c
  | .lossClass c _ _ _ _ _ _ _ => ctxOk c
  | .nodeClass c _ _ _ => ctxOk c
  | .checkBind c _ _ _ => ctxOk c
  | .checkUnbind c _ => ctxOk c
  | .intervalResults c _ _ _ => ctxOk c
  | .affinityTest c _ _ _ => ctxOk c
  | .affinityAbort c _ _ => ctxOk c
  | .weirReportDrain c _ _ => ctxOk c
  | .vaneConfig c op ents => ctxOk c && entsOk op ents
  | .scriptLoad c _ _ _ => ctxOk c
  | .channel c _ => ctxOk c
  | .leatConfig c op ents => ctxOk c && entsOk op ents
  | .scheduleLoad c _ _ => ctxOk c
  | .slotRead c _ _ _ => ctxOk c
  | .slotAssign c _ _ _ => ctxOk c
  | .slotRelease c _ _ => ctxOk c
  | .tmOverride c _ _ _ _ => ctxOk c
  | .tailraceConfig c op ents => ctxOk c && entsOk op ents
  | .tariffLoad c _ _ _ => ctxOk c
  | .tariffAssign c _ _ => ctxOk c
  | .campaignLoad c _ _ _ => ctxOk c
  | .campaignTarget c _ _ _ _ => ctxOk c
  | .campaignStart c _ _ => ctxOk c
  | .campaignActivate c _ => ctxOk c
  | .campaignAbort c _ => ctxOk c
  | .campaignRelease c _ => ctxOk c
  | .campaignReload c _ _ => ctxOk c
  | .setpoint c _ body _ => ctxOk c && body.length == 24
  | .setpointWithdraw c _ => ctxOk c
  | .recordRead c _ _ => ctxOk c
  | .taiReportDrain c _ _ => ctxOk c
  | .flumeConfig c op ents => ctxOk c && entsOk op ents
  | .channelConfig c _ _ _ _ => ctxOk c
  | .dcBlocker c _ _ _ _ => ctxOk c
  | .coefLoad c _ _ => ctxOk c
  | .bankSwap c _ => ctxOk c
  | .decimReset c => ctxOk c
  | .factoryCal c _ rcd => ctxOk c && rcd.length == 16
  | .userCal c _ rcd => ctxOk c && rcd.length == 16
  | .meteringPoint c _ _ _ _ _ elems => ctxOk c && elems.length == 3
  | .flumeIntervals c _ _ _ => ctxOk c
  | .fantailConfig c op ents => ctxOk c && entsOk op ents
  | .timeSet c _ _ => ctxOk c
  | .timeForce c _ _ _ _ => ctxOk c
  | .utcOffset c _ _ => ctxOk c
  | .ptpTransmit c _ _ _ _ => ctxOk c
  | .stampDrain c _ _ => ctxOk c
  | .granaryConfig c op ents => ctxOk c && entsOk op ents
  | .hmrSet c _ _ => ctxOk c
  | .archiveRead c _ _ => ctxOk c
  | .mediaStatus c _ => ctxOk c
  | .format c _ _ => ctxOk c
  | .brakeConfig c op ents => ctxOk c && entsOk op ents
  | .claimSet c _ _ => ctxOk c
  | .checkpoint c => ctxOk c
  | .keyLoad c _ _ => ctxOk c
  | .deviceKey c _ _ => ctxOk c
  | .lifecycle c _ => ctxOk c
  | .firewallRule c _ _ _ _ _ => ctxOk c
  | .firewallRelease c _ => ctxOk c
  | .powerState c _ => ctxOk c
  | .wakeConfig c _ _ => ctxOk c
  | .reset c _ => ctxOk c
  | .logRead c _ _ _ => ctxOk c
  | .logView c _ _ => ctxOk c
  | .logConfig c op ents => ctxOk c && entsOk op ents
  | .logRestart c => ctxOk c
  | .lastgasp c _ => ctxOk c
  | .nop c params => ctxOk c && decide (params.length ≤ 40)
  | .laneStop c _ => ctxOk c
  | .laneRestart c _ _ => ctxOk c
  | .selfTest c _ _ _ => ctxOk c
  | .faultClear c _ _ => ctxOk c
  | .queueFlush c _ => ctxOk c
  | .identify _ _ => true
  | .lock _ _ header => header.length == 256
  | .data _ _ _ bytes => decide (bytes.length ≤ 4080)
  | .done _ _ _ => true
  | .release _ _ => true
  | .disarm _ _ => true
  | .debugChallenge _ _ => true
  | .debugToken _ _ _ token => decide (token.length ≤ 4080)
  | .provisioningSession _ _ _ => true
  | .debugAccess _ _ _ => true
  | .hqTailWrite _ _ be => decide (be.toNat < 16)
  | .bqHeadWrite _ _ be => decide (be.toNat < 16)
  | .qpEnable _ value => value.toNat.testBit 0
  | .qpDisable _ value => !value.toNat.testBit 0
  | .evtPendClear _ _ => true
  | .devAccessErrClear _ => true
  | .secFwViolInfoClear _ => true
  | .fanSnapTake _ => true
  | .secFwReleaseWrite _ => true
  | .devUpdRevertWrite _ => true
  | .devUpdHoldWrite _ => true
  | .devSvcOutLenWrite _ _ => true
  | .devSvcInAckWrite _ => true
  | .paceCtrlWrite _ => true
  | .msixVectorUnmask _ => true
  | .rcRegisterRead space addr => addr.toNat % 4 == 0 && spaceBytes space addr.toNat
  | .registerWrite w => hostWrOk w
  | .bar2Write addr => addr.toNat % 4 == 0 && decide (addr.toNat < 2 ^ 26)
  | .darkBlockAccess _ _ _ _ => true
  | .mgmtRead _ _ => true
  | .mgmtWrite _ _ => true
  | .powerOn _ => true
  | .systemReset => true
  | .hostReset => true
  | .d3hotEntry => true
  | .d0Return => true
  | .bootChain _ _ => true
  | .wakeEvent _ => true
  | .wakeAttemptTimeout _ => true
  | .wakeRetryTimer => true
  | .wakeComplete => true
  | .powerEntryStep => true
  | .bkpActiveRise => true
  | .tiltMoving => true
  | .usbDetach => true
  | .clockLoss _ => true
  | .clockRestore _ => true
  | .stageWatchdogTrip _ _ _ => true
  | .paceWindowEnd => true
  | .paceSpeedRefresh _ => true
  | .ingLoadRefresh => true
  | .headraceDatagram _ => true
  | .nackDatagram _ => true
  | .laneDraw => true
  | .sluiceVerdict _ _ _ => true
  | .seenCacheInsert _ => true
  | .quernAuth _ => true
  | .keyUnwrapDone _ _ => true
  | .bolterRules _ => true
  | .ledgerUpdate _ _ => true
  | .rateTokenRefill code => decide (code < 1024)
  | .entryRebuild _ => true
  | .rebuildFreeCleanup _ => true
  | .absenceSweep => true
  | .seenCacheWalk => true
  | .gwAckSend => true
  | .batchTimeout => true
  | .counterReserveRecord _ => true
  | .vanePpduReceived _ _ => true
  | .iqSyncLoss _ _ => true
  | .iqLock _ _ => true
  | .ackCutoff _ _ => true
  | .vaneTxEnd _ => true
  | .csmaComplete _ cca _ _ => decide (cca ≠ [] ∧ cca.length ≤ 5)
  | .vaneAckWaitExpiry _ => true
  | .beaconDue _ => true
  | .beaconDrop _ => true
  | .relayTime _ => true
  | .relayLateDrop _ => true
  | .spiTransactionDone _ miso => decide (miso.length ≤ 8)
  | .upstreamDeadline => true
  | .afeSyncLoss _ _ => true
  | .leatStepStart _ => true
  | .pollSend _ _ => true
  | .responseReceived _ _ => true
  | .responseLost _ _ => true
  | .phaseWrite => true
  | .discAnswerReceived _ _ => true
  | .discoveryEnd _ => true
  | .idleStepEnd _ => true
  | .plcAfeCalibrationDone _ => true
  | .tmRefreshDue _ _ => true
  | .confirmProcess => true
  | .pendFlagWrite _ => true
  | .tdfMacOutcome => true
  | .tariffSweepDone => true
  | .setpointRetry _ _ => true
  | .setpointExpire _ => true
  | .announceElapsed _ => true
  | .fragGapSend _ => true
  | .campaignDeadline _ => true
  | .abortHoldElapsed _ => true
  | .repairResend _ => true
  | .modulatorStuck _ _ => true
  | .channelRestore _ _ => true
  | .msyncRise => true
  | .settlingEnd => true
  | .fadeComplete => true
  | .flumeSecondEnd bits => bits.length == 12
  | .zeroCrossing _ bits => bits.length == 12
  | .flumeIntervalClose _ _ bits => bits.length == 12
  | .weirPartAccumulate => true
  | .intervalEnd => true
  | .lateWindowEnd => true
  | .closeComplete _ _ _ => true
  | .affinityTestEnd _ => true
  | .ptpMessageReceived _ _ _ _ _ => true
  | .delayReqSend _ => true
  | .ptpTransparentForward _ _ _ => true
  | .ppsInEdge _ => true
  | .sourceLost _ => true
  | .switchHoldElapsed => true
  | .ppsOutPulse => true
  | .rtcLoad => true
  | .leapSecondEnd => true
  | .hopperFetch _ packets => packets.all (fun k => k.bytes.length == 64)
  | .binReplyWrite _ _ _ => true
  | .binAggTimer _ => true
  | .holdoffExpiry _ => true
  | .queueFlushBoundary _ => true
  | .queueScrubVisit _ _ => true
  | .queueStall _ => true
  | .freezeTimeout _ => true
  | .nandProgramDone _ _ _ _ => true
  | .nandEraseDone _ _ _ => true
  | .nandReadDone _ _ corr _ => corr.all (fun k => decide (k ≤ 40))
  | .journalTimer => true
  | .arcFlushTimer => true
  | .patrolRead _ => true
  | .targetNotReady _ _ => true
  | .mountRebuildComplete ch _ _ media => media.isEmpty || (ch && media.all (fun e => decide (e.1 < 2 ^ 32) && rawOk e.2))
  | .hmrDmaError _ => true
  | .checkpointComplete _ => true
  | .ckptPeriodTimer => true
  | .busIdle => true
  | .claimRoundEnd _ _ => true
  | .claimLineFault _ _ => true
  | .claimWatcherFire _ => true
  | .restoreComplete _ _ => true
  | .proofTimer => true
  | .peerSilent => true
  | .tokenLockoutEnd => true
  | .debugLimitExpiry => true
  | .comparatorSelfCheck _ _ _ => true
  | .tbRateCheck _ => true
  | .tbMonitorStop => true
  | .heartbeatMiss _ _ => true
  | .bankRotation _ _ => true
  | .safeNfaultReadback _ _ => true
  | .safeStateClaimDrop => true
  | .loaderChunkDone _ => true
  | .healthConfirm => true
  | .trialWindowExpiry => true
  | .trialTimerReset => true
  | .stagingLockIdle => true
  | .afeSyncLock _ _ => true
  | .bkpActiveFall => true
  | .tiltRelease => true
  | .safeStateDrillEnd _ => true
  | .ptpFrameEgress _ _ => true
  | .dmaTransferCompletion _ _ _ => true
  | .sramScrub _ => true
  | .rampEnd => true
  | .usbAttach => true
  | .supplyLoss _ => true

/-- The packet fields of a host command; other commands have none. -/
def Instr.ctx? : Instr → Option Ctx
  | .status c => some c
  | .ingestConfig c _ _ => some c
  | .gatewaySet c _ _ _ _ => some c
  | .exportSet c _ _ _ _ => some c
  | .configSave c => some c
  | .bind c _ _ _ _ => some c
  | .unbind c _ => some c
  | .block c _ => some c
  | .unblock c _ => some c
  | .coldRead c _ => some c
  | .coldWrite c _ _ => some c
  | .ledgerConfig c _ _ => some c
  | .strangerDrain c _ _ => some c
  | .relay c _ => some c
  | .hostPend c _ _ => some c
  | .nodeActivate c _ _ _ => some c
  | .nodeDeactivate c _ _ => some c
  | .nodeSet c _ _ _ _ => some c
  | .attach c _ _ => some c
  | .rejectProposal c _ _ => some c
  | .nodeMove c _ _ _ => some c
  | .weirConfig c _ _ => some c
  | .weirEnable c _ => some c
  | .lossClass c _ _ _ _ _ _ _ => some c
  | .nodeClass c _ _ _ => some c
  | .checkBind c _ _ _ => some c
  | .checkUnbind c _ => some c
  | .intervalResults c _ _ _ => some c
  | .affinityTest c _ _ _ => some c
  | .affinityAbort c _ _ => some c
  | .weirReportDrain c _ _ => some c
  | .vaneConfig c _ _ => some c
  | .scriptLoad c _ _ _ => some c
  | .channel c _ => some c
  | .leatConfig c _ _ => some c
  | .scheduleLoad c _ _ => some c
  | .slotRead c _ _ _ => some c
  | .slotAssign c _ _ _ => some c
  | .slotRelease c _ _ => some c
  | .tmOverride c _ _ _ _ => some c
  | .tailraceConfig c _ _ => some c
  | .tariffLoad c _ _ _ => some c
  | .tariffAssign c _ _ => some c
  | .campaignLoad c _ _ _ => some c
  | .campaignTarget c _ _ _ _ => some c
  | .campaignStart c _ _ => some c
  | .campaignActivate c _ => some c
  | .campaignAbort c _ => some c
  | .campaignRelease c _ => some c
  | .campaignReload c _ _ => some c
  | .setpoint c _ _ _ => some c
  | .setpointWithdraw c _ => some c
  | .recordRead c _ _ => some c
  | .taiReportDrain c _ _ => some c
  | .flumeConfig c _ _ => some c
  | .channelConfig c _ _ _ _ => some c
  | .dcBlocker c _ _ _ _ => some c
  | .coefLoad c _ _ => some c
  | .bankSwap c _ => some c
  | .decimReset c => some c
  | .factoryCal c _ _ => some c
  | .userCal c _ _ => some c
  | .meteringPoint c _ _ _ _ _ _ => some c
  | .flumeIntervals c _ _ _ => some c
  | .fantailConfig c _ _ => some c
  | .timeSet c _ _ => some c
  | .timeForce c _ _ _ _ => some c
  | .utcOffset c _ _ => some c
  | .ptpTransmit c _ _ _ _ => some c
  | .stampDrain c _ _ => some c
  | .granaryConfig c _ _ => some c
  | .hmrSet c _ _ => some c
  | .archiveRead c _ _ => some c
  | .mediaStatus c _ => some c
  | .format c _ _ => some c
  | .brakeConfig c _ _ => some c
  | .claimSet c _ _ => some c
  | .checkpoint c => some c
  | .keyLoad c _ _ => some c
  | .deviceKey c _ _ => some c
  | .lifecycle c _ => some c
  | .firewallRule c _ _ _ _ _ => some c
  | .firewallRelease c _ => some c
  | .powerState c _ => some c
  | .wakeConfig c _ _ => some c
  | .reset c _ => some c
  | .logRead c _ _ _ => some c
  | .logView c _ _ => some c
  | .logConfig c _ _ => some c
  | .logRestart c => some c
  | .lastgasp c _ => some c
  | .nop c _ => some c
  | .laneStop c _ => some c
  | .laneRestart c _ _ => some c
  | .selfTest c _ _ _ => some c
  | .faultClear c _ _ => some c
  | .queueFlush c _ => some c
  | .identify _ _ => none
  | .lock _ _ _ => none
  | .data _ _ _ _ => none
  | .done _ _ _ => none
  | .release _ _ => none
  | .disarm _ _ => none
  | .debugChallenge _ _ => none
  | .debugToken _ _ _ _ => none
  | .provisioningSession _ _ _ => none
  | .debugAccess _ _ _ => none
  | .hqTailWrite _ _ _ => none
  | .bqHeadWrite _ _ _ => none
  | .qpEnable _ _ => none
  | .qpDisable _ _ => none
  | .evtPendClear _ _ => none
  | .devAccessErrClear _ => none
  | .secFwViolInfoClear _ => none
  | .fanSnapTake _ => none
  | .secFwReleaseWrite _ => none
  | .devUpdRevertWrite _ => none
  | .devUpdHoldWrite _ => none
  | .devSvcOutLenWrite _ _ => none
  | .devSvcInAckWrite _ => none
  | .paceCtrlWrite _ => none
  | .msixVectorUnmask _ => none
  | .rcRegisterRead _ _ => none
  | .registerWrite _ => none
  | .bar2Write _ => none
  | .darkBlockAccess _ _ _ _ => none
  | .mgmtRead _ _ => none
  | .mgmtWrite _ _ => none
  | .powerOn _ => none
  | .systemReset => none
  | .hostReset => none
  | .d3hotEntry => none
  | .d0Return => none
  | .bootChain _ _ => none
  | .wakeEvent _ => none
  | .wakeAttemptTimeout _ => none
  | .wakeRetryTimer => none
  | .wakeComplete => none
  | .powerEntryStep => none
  | .bkpActiveRise => none
  | .tiltMoving => none
  | .usbDetach => none
  | .clockLoss _ => none
  | .clockRestore _ => none
  | .stageWatchdogTrip _ _ _ => none
  | .paceWindowEnd => none
  | .paceSpeedRefresh _ => none
  | .ingLoadRefresh => none
  | .headraceDatagram _ => none
  | .nackDatagram _ => none
  | .laneDraw => none
  | .sluiceVerdict _ _ _ => none
  | .seenCacheInsert _ => none
  | .quernAuth _ => none
  | .keyUnwrapDone _ _ => none
  | .bolterRules _ => none
  | .ledgerUpdate _ _ => none
  | .rateTokenRefill _ => none
  | .entryRebuild _ => none
  | .rebuildFreeCleanup _ => none
  | .absenceSweep => none
  | .seenCacheWalk => none
  | .gwAckSend => none
  | .batchTimeout => none
  | .counterReserveRecord _ => none
  | .vanePpduReceived _ _ => none
  | .iqSyncLoss _ _ => none
  | .iqLock _ _ => none
  | .ackCutoff _ _ => none
  | .vaneTxEnd _ => none
  | .csmaComplete _ _ _ _ => none
  | .vaneAckWaitExpiry _ => none
  | .beaconDue _ => none
  | .beaconDrop _ => none
  | .relayTime _ => none
  | .relayLateDrop _ => none
  | .spiTransactionDone _ _ => none
  | .upstreamDeadline => none
  | .afeSyncLoss _ _ => none
  | .leatStepStart _ => none
  | .pollSend _ _ => none
  | .responseReceived _ _ => none
  | .responseLost _ _ => none
  | .phaseWrite => none
  | .discAnswerReceived _ _ => none
  | .discoveryEnd _ => none
  | .idleStepEnd _ => none
  | .plcAfeCalibrationDone _ => none
  | .tmRefreshDue _ _ => none
  | .confirmProcess => none
  | .pendFlagWrite _ => none
  | .tdfMacOutcome => none
  | .tariffSweepDone => none
  | .setpointRetry _ _ => none
  | .setpointExpire _ => none
  | .announceElapsed _ => none
  | .fragGapSend _ => none
  | .campaignDeadline _ => none
  | .abortHoldElapsed _ => none
  | .repairResend _ => none
  | .modulatorStuck _ _ => none
  | .channelRestore _ _ => none
  | .msyncRise => none
  | .settlingEnd => none
  | .fadeComplete => none
  | .flumeSecondEnd _ => none
  | .zeroCrossing _ _ => none
  | .flumeIntervalClose _ _ _ => none
  | .weirPartAccumulate => none
  | .intervalEnd => none
  | .lateWindowEnd => none
  | .closeComplete _ _ _ => none
  | .affinityTestEnd _ => none
  | .ptpMessageReceived _ _ _ _ _ => none
  | .delayReqSend _ => none
  | .ptpTransparentForward _ _ _ => none
  | .ppsInEdge _ => none
  | .sourceLost _ => none
  | .switchHoldElapsed => none
  | .ppsOutPulse => none
  | .rtcLoad => none
  | .leapSecondEnd => none
  | .hopperFetch _ _ => none
  | .binReplyWrite _ _ _ => none
  | .binAggTimer _ => none
  | .holdoffExpiry _ => none
  | .queueFlushBoundary _ => none
  | .queueScrubVisit _ _ => none
  | .queueStall _ => none
  | .freezeTimeout _ => none
  | .nandProgramDone _ _ _ _ => none
  | .nandEraseDone _ _ _ => none
  | .nandReadDone _ _ _ _ => none
  | .journalTimer => none
  | .arcFlushTimer => none
  | .patrolRead _ => none
  | .targetNotReady _ _ => none
  | .mountRebuildComplete _ _ _ _ => none
  | .hmrDmaError _ => none
  | .checkpointComplete _ => none
  | .ckptPeriodTimer => none
  | .busIdle => none
  | .claimRoundEnd _ _ => none
  | .claimLineFault _ _ => none
  | .claimWatcherFire _ => none
  | .restoreComplete _ _ => none
  | .proofTimer => none
  | .peerSilent => none
  | .tokenLockoutEnd => none
  | .debugLimitExpiry => none
  | .comparatorSelfCheck _ _ _ => none
  | .tbRateCheck _ => none
  | .tbMonitorStop => none
  | .heartbeatMiss _ _ => none
  | .bankRotation _ _ => none
  | .safeNfaultReadback _ _ => none
  | .safeStateClaimDrop => none
  | .loaderChunkDone _ => none
  | .healthConfirm => none
  | .trialWindowExpiry => none
  | .trialTimerReset => none
  | .stagingLockIdle => none
  | .afeSyncLock _ _ => none
  | .bkpActiveFall => none
  | .tiltRelease => none
  | .safeStateDrillEnd _ => none
  | .ptpFrameEgress _ _ => none
  | .dmaTransferCompletion _ _ _ => none
  | .sramScrub _ => none
  | .rampEnd => none
  | .usbAttach => none
  | .supplyLoss _ => none

end Sys2Proof
end

