-- ==== Sys2Proof/Tests/Slice0.lean ====
section
/-! SUPPORT. The model's own tests: ill-formed commands refused, a witness for every statement's hypotheses, and small steps. -/

open Sys2Proof Sys2Proof.Machine

-- One test after another: each waiting test would hold a thread of its own.
set_option Elab.async false

namespace Sys2Proof.Tests

/-! step_runs_front -/
theorem wit_step_idle : State.reset.pending = [] := by decide

/-! doorbells_and_pairs -/
def witPair : QPair := { en := true, st := .enabled, size := 0x44, vector := 3, hqBase := 0x1000, bqBase := 0x2000 }
def witHop (q : QPair) : State := { State.reset with hop := { pairs := [(1, q)] } }
theorem wit_doorbells_tail : (pair (witHop witPair) (1 : Fin 16).val).st = .enabled ∧
    bits (15 : U32).toNat 0 12 < hqSize (pair (witHop witPair) (1 : Fin 16).val) ∧
    hqSize (pair (witHop witPair) (1 : Fin 16).val) ≤ bits (16 : U32).toNat 0 12 ∧ (7 : Byte) ≠ 0xF := by decide
theorem wit_doorbells_head : let q := pair (witHop { witPair with bqTail := 5, unreleased := 4, ien := true }) (1 : Fin 16).val
    2 ≤ q.unreleased ∧ 2 < bqSize q ∧ ((2 : Nat) = 0 → q.unreleased ≠ bqSize q) ∧
    bits (3 : U32).toNat 0 12 = (q.bqTail + bqSize q - q.unreleased % bqSize q + 2) % bqSize q := by decide

theorem wit_doorbells_full : let q := pair (witHop { witPair with bqTail := 5, unreleased := 16 }) (1 : Fin 16).val
    q.unreleased = bqSize q ∧ q.bqTail < bqSize q ∧ bits (5 : U32).toNat 0 12 = q.bqTail ∧
    dark (witHop { witPair with bqTail := 5, unreleased := 16 }) .hop = false := by decide
theorem wit_doorbells_beyond : let q := pair (witHop { witPair with bqTail := 5, unreleased := 4, ien := true }) (1 : Fin 16).val
    q.unreleased < 7 ∧ 7 < bqSize q ∧ bits (8 : U32).toNat 0 12 = (q.bqTail + bqSize q - q.unreleased % bqSize q + 7) % bqSize q ∧
    bqSize q ≤ bits (16 : U32).toNat 0 12 ∧ dark { State.reset with pwr := { st := .hush } } .hop = true := by decide
theorem wit_pair_enable : let s := witHop { witPair with en := false, st := .disabled }
    dark s .hop = false ∧ (pair s (1 : Fin 16).val).st = .disabled ∧ (ctrlFields (1 : U32).toNat (pair s (1 : Fin 16).val)).hqBase % 4096 = 0 ∧
    4 ≤ bits (ctrlFields (1 : U32).toNat (pair s (1 : Fin 16).val)).size 0 4 := by decide
theorem wit_pair_enable_bad : let s := witHop { witPair with en := false, st := .disabled, size := 0x43 }
    dark s .hop = false ∧ (pair s (1 : Fin 16).val).st = .disabled ∧ ¬ 4 ≤ bits (ctrlFields (1 : U32).toNat (pair s (1 : Fin 16).val)).size 0 4 := by
  decide
theorem wit_pair_disable : dark (witHop witPair) .hop = false ∧ (pair (witHop witPair) (1 : Fin 16).val).st = .enabled ∧
    (pair (witHop { witPair with st := .faulted }) (1 : Fin 16).val).st = .faulted ∧ (pair State.reset (1 : Fin 16).val).st = .disabled := by
  decide

/-! fetch_and_reply -/
def witReady : State := { witHop { witPair with hqTail := 2 } with
  dev := { ready := true }, pwr := { st := .run } }
def witPacket (op : Nat) : Packet := { bytes := leBytes 2 op ++ zeros 2 ++ [6] ++ zeros 3 ++ leBytes 4 32 ++ zeros 4 ++ leBytes 8 0x5000 ++ zeros 40, segs := [] }
theorem wit_fetch : fetching witReady = true ∧ myTurn (1 : Fin 16).val witReady = true ∧
    (∀ h ≤ (pair witReady (1 : Fin 16).val).hqHead + hqSize (pair witReady (1 : Fin 16).val),
      granted witReady 4 ((pair witReady (1 : Fin 16).val).hqBase + 64 * h) 64 false = true) ∧
    transferAccesses (witPacket 0x0205) = [(0x5000, 32, true)] ∧ transferAccesses (witPacket 0x0C01) = [(0x5000, 32, false)] ∧
    ∀ a ∈ transferAccesses (witPacket 0x0C01), a.2.2 = false → granted witReady 4 a.1 a.2.1 false = true := by decide +kernel
def witDone : State := witHop { witPair with inflight := [{ tag := 7, reply := some {} }] }
theorem wit_reply : doneAt (pair witDone (1 : Fin 16).val).inflight 0 = some 0 ∧
    (pair witDone (1 : Fin 16).val).inflight[0]? = some { tag := 7, reply := some {} } ∧
    answered (pair witDone (1 : Fin 16).val).inflight 0 = some {} ∧ binOpen (1 : Fin 16).val witDone = true ∧
    granted witDone 4 ((pair witDone (1 : Fin 16).val).bqBase + 16 * (pair witDone (1 : Fin 16).val).bqTail) 16 true = true := by decide

theorem wit_bin_draining : let s := witHop { witPair with en := false, st := .draining }
    (pair s (1 : Fin 16).val).st = .draining ∧ (pair s (1 : Fin 16).val).inflight = [] ∧ binOpen (1 : Fin 16).val s = true := by decide

/-! bin_signals_and_dma_faults -/
theorem wit_agg : let s := { witHop { witPair with ien := true, unsig := 1, agg := 0x500 } with elapsed := 2000 }
    (pair s (1 : Fin 16).val).ien = true ∧ 0 < (pair s (1 : Fin 16).val).unsig ∧
    passed s (pair s (1 : Fin 16).val).unsigAt (bits (pair s (1 : Fin 16).val).agg 8 16 * tickUs) = true := by decide
theorem wit_dma : (DmaResult.error) ≠ .good ∧ (DmaResult.poisoned) ≠ .good ∧ (pair (witHop witPair) (1 : Fin 16).val).st = .enabled ∧
    findInflight (pair (witHop { witPair with inflight := [{ tag := 9 }] }) (1 : Fin 16).val).inflight 9 = some 0 := by decide
theorem wit_d0 : frozen witDone 4 = false ∧ witDone.dev.unclocked.contains .pcie = false ∧ dark witDone .hop = false ∧
    (pair witDone 1).st = .enabled := by decide
theorem wit_d0_granted (a : Nat) : granted witDone 4 a 16 true = true := rfl

/-! events_and_vectors -/
def witOwed : State := { State.reset with evt := { owed := 4, unmasked := 4 }, hop := { pcie := { msixEn := true } } }
theorem wit_events : dark State.reset .evt = false ∧ witOwed.evt.owed.getLsbD (2 : Fin 32).val = true ∧ witOwed.hop.pcie.funcMask = false ∧
    vecMasked witOwed (2 : Fin 32).val = false ∧ vecHeld witOwed (2 : Fin 32).val = false ∧ msgHeld witOwed = false ∧
    witOwed.evt.unmasked.getLsbD 2 = true ∧ witOwed.evt.unmasked.getLsbD 3 = false ∧
    State.reset.pwr.st ≠ .hush ∧ State.reset.pwr.st ≠ .off ∧ dark { State.reset with pwr := { st := .hush } } .evt = true ∧
    ({ State.reset with pwr := { st := .hush } } : State).pwr.st = .hush := by decide

/-! register_reads -/
theorem wit_register_reads : darkAt State.reset (0xE0018 : U32).toNat = false ∧ hidden State.reset = false ∧ isRc (0xE0018 : U32).toNat = true ∧
    isRc (0x14 : U32).toNat = false ∧ darkAt { State.reset with dev := { unclocked := [.pcie] } } (0x10000 : U32).toNat = true ∧
    ({ lc := 5 } : SecState).lc = 5 ∧ (0x14 : U32) ≠ 0 ∧ (0x14 : U32) ≠ 4 ∧
    dark { State.reset with pwr := { st := .trim } } .van = true ∧ State.reset.dev.accValid = false := by decide

theorem wit_mem_dark (h : Config.dramAddr 4096 = true) : memDark (0x1000 : U32).toNat { State.reset with dev := { unclocked := [.mem] } } = true ∧
    memDark (0x1000 : U32).toNat State.reset = false := by
  have a : memUp { State.reset with dev := { unclocked := [.mem] } } = false := by decide
  have b : memUp State.reset = true := by decide
  simp [memDark, a, b, h]
theorem wit_bar2_reads : dark State.reset .ldg = false ∧ dark State.reset .van = false ∧ hidden State.reset = false ∧
    hidden { State.reset with sec := { lc := 5 } } = true ∧ (0x0092BCA0 : U32).toNat = 32 * (300517 : Idx).toNat ∧
    State.reset.led.poisoned.contains (300517 : Idx).toNat = false ∧ 0x2800000 ≤ (0x3000000 : U32).toNat ∧ (0x3000000 : U32).toNat < 0x3FFF000 ∧
    (0x3FFF010 : U32).toNat = 0x3FFF010 := by decide

/-! register_writes_and_captures -/
theorem wit_register_writes : dark State.reset .dev = false ∧ dark State.reset .evt = false ∧ dark State.reset .hop = false ∧
    (pair State.reset (3 : Fin 16).val).st = .disabled ∧ (pair (witHop witPair) (1 : Fin 16).val).st ≠ .disabled ∧ (3 : Byte) ≠ 0xF ∧
    darkAt State.reset (0x20 : U32).toNat = false ∧ dark State.reset .ldg = false ∧ dark { State.reset with pwr := { st := .hush } } .ldg = true ∧
    (0x3000 : U32).toNat = 4096 * (3 : Fin 16).val ∧ (0x3004 : U32).toNat = 4096 * (3 : Fin 16).val + 4 ∧ (0x3008 : U32).toNat % 4096 ≠ 0 ∧
    (0x3008 : U32).toNat % 4096 ≠ 4 ∧
    darkAt { State.reset with dev := { unclocked := [.pcie] } } (0x10000 : U32).toNat = true := by decide
theorem wit_captures : dark State.reset .dev = false ∧ dark State.reset .sec = false ∧ dark State.reset .fan = false ∧
    dark State.reset .ing = false ∧ bit (0x80000001 : U32).toNat 31 = true ∧ bit (0x80000001 : U32).toNat 0 = true ∧
    bit (2 : U32).toNat 31 = false ∧ bit (2 : U32).toNat 0 = false ∧
    bits (1 : U32).toNat 0 2 ≠ State.reset.dev.paceWindow ∧ bits (2 : U32).toNat 0 2 = State.reset.dev.paceWindow ∧
    frozen { State.reset with sec := { frozen := 0x10 } } 4 = true ∧ (5 : U32) ≠ 0xF1EE0004 := by decide
theorem wit_capture_granted (a : Nat) : granted { State.reset with sec := { frozen := 0x10 } } 4 a 16 true = true := rfl

/-! ### Commands in flight -/
def witCtx : Ctx := { pair := 1, tag := 7, xlen := 0, xin := [] }
def witIn (b : List Byte) : Ctx := { pair := 1, tag := 7, xlen := b.length, xin := b }
def witOut (n : Nat) : Ctx := { pair := 1, tag := 7, xlen := n, xin := [] }
/-- s with pair 1 enabled and the command the one packet it has in flight, so that it starts next. -/
def sent (i : Instr) (s : State) : State := { s with hop := { s.hop with pairs := [(1, { witPair with inflight := (hostCmd i).toList.map (fun k =>
  { serial := 1, tag := k.c.tag, opcode := k.op, par := k.par, xlen := k.c.xlen }) })] } }
/-- Each of the commands is taken by s where it is the packet in flight. -/
def taken (l : List Instr) (s : State) : Bool := l.all (fun i => accepts i (sent i s))

/-! mgmt_and_status -/
def witRun : State := { State.reset with dev := { ready := true } }
theorem wit_mgmt : (mgmtAon State.reset (2 : Byte).toNat).isSome = true ∧ 10 ≤ (0x10 : Byte).toNat ∧ State.reset.sec.lc ≠ 5 ∧
    ({ lc := 5 } : SecState).lc = 5 ∧ dark { State.reset with pwr := { st := .hush } } .dev = true ∧ (3 : Byte) ≠ 0x10 ∧
    accepts (.status witCtx) (sent (.status witCtx) State.reset) = true ∧
    accepts (.nop witCtx [1, 2, 3, 4]) (sent (.nop witCtx [1, 2, 3, 4]) State.reset) = true ∧
    (let s := { State.reset with pwr := { st := .hush } }; s.pwr.st = .hush ∧ s.pwr.entry = none ∧ s.pwr.waking = none) := by decide

/-! service_port_and_refusals -/
def witHeader : List Byte := leBytes 4 0x4D495A43 ++ [1, 0, 0, 0] ++ zeros 248
def witLocked : State := { State.reset with svc := { lock := some 1, upd := .receiving, header := witHeader, staging := zeros 449 } }
theorem wit_staging : svcOpen (1 : Fin 2).val State.reset = true ∧ headerOk witHeader = true ∧ State.reset.sec.lc ≠ 3 ∧
    moving State.reset = false ∧ State.reset.pwr.bkp = false ∧ State.reset.svc.upd ≠ .trial ∧ State.reset.svc.upd ≠ .armed ∧
    State.reset.svc.lock = none := by decide +kernel
theorem wit_staging_owner : svcOpen (1 : Fin 2).val witLocked = true ∧ witLocked.svc.lock = some (1 : Fin 2).val ∧ moving witLocked = false ∧
    witLocked.pwr.bkp = false ∧ frozen witLocked 5 = false ∧ (449 : U32).toNat = witLocked.svc.staging.length ∧
    (449 : U32).toNat + ([] : List Byte).length ≤ containerLen witLocked.svc.header ∧
    containerLen witLocked.svc.header ≤ witLocked.svc.staging.length := by decide +kernel
theorem wit_staging_again : (let s := { State.reset with svc := { upd := .incomplete, header := witHeader, staging := [1] } }
    s.svc.upd = .incomplete ∧ s.svc.header ≠ [] ∧ hdrDigest s.svc.header = hdrDigest witHeader) ∧
    ({ upd := .armed } : SvcState).upd = .armed := by decide +kernel
theorem wit_refusals : (let s := { State.reset with svc := { lock := some 1, tilt := true }, sec := { lc := 2 } }
    svcOpen (1 : Fin 2).val s = true ∧ headerOk witHeader = true ∧ headerOk [] = false ∧ s.sec.lc ≠ 3 ∧ moving s = true ∧
    s.svc.lock = some (1 : Fin 2).val) ∧ ({ State.reset with sec := { lc := 3 } } : State).sec.lc = 3 := by decide +kernel

/-! update_pins_and_timers -/
def witTrial (at_ : Nat) : State := { State.reset with elapsed := at_, svc := { upd := .trial }, dev := { ready := true } }
theorem wit_update_timers : dark State.reset .dev = false ∧ State.reset.pwr.st = .run ∧ witLocked.svc.lock = some 1 ∧
    passed { witLocked with elapsed := 24000000000 } witLocked.svc.lastMsg (60 * tickS) = true ∧ (witTrial 120000000000).svc.upd = .trial ∧
    healthy (witTrial 120000000000) = true ∧ passed (witTrial 120000000000) 0 (300 * tickS) = true ∧
    passed (witTrial 120000000000) 0 (900 * tickS + 1) = false ∧ passed (witTrial 384000000000) 0 (900 * tickS) = true ∧
    passed (witTrial 384000000000) 0 (960 * tickS) = true ∧ dark (witTrial 5) .dev = false := by decide
theorem wit_usb : let s := { State.reset with svc := { usb := true, lock := some 0 }, sec := { session := some ⟨1, 0, 0, 60, 0⟩ } }
    s.svc.lock = some 0 ∧ s.sec.session = some ⟨1, 0, 0, 60, 0⟩ ∧ (⟨1, 0, 0, 60, 0⟩ : Debug).entry = 0 ∧ State.reset.svc.lock ≠ some 0 := by
  decide

/-! configuration_save -/
theorem wit_config_save : let s := sent (.configSave witCtx) State.reset
    accepts (.configSave witCtx) s = true ∧ s.sec.lc ≠ 3 ∧ s.svc.upd = .idle := by decide

/-! keys_and_lifecycle -/
theorem wit_keys (k : List Byte) (h : Config.keyUnwrap [] (zeros 24) = some k) :
    (∃ (c : Ctx) (s : State), accepts (.keyLoad c 1 16) s = true ∧ s.sec.lc = 1 ∧ c.xlen = (16 : Byte).toNat + 8 ∧
      Config.keyUnwrap (s.sec.ktk.getD []) c.xin = some k) ∧
    ∃ (c : Ctx) (s : State), accepts (.deviceKey c 1 16) s = true ∧ s.sec.lc = 1 ∧ c.xlen = (16 : Byte).toNat + 8 ∧
      Config.keyUnwrap (s.sec.ktk.getD []) c.xin = some k ∧ (1 : Byte).toNat ≤ 3 :=
  ⟨⟨witIn (zeros 24), sent (.keyLoad (witIn (zeros 24)) 1 16) { State.reset with sec := { lc := 1 } }, by decide, by decide, by decide, h⟩,
    witIn (zeros 24), sent (.deviceKey (witIn (zeros 24)) 1 16) { State.reset with sec := { lc := 1 } }, by decide, by decide, by decide, h, by decide⟩
theorem wit_firewall : let i : Instr := .firewallRule witCtx 40 4 1 0x2000 0x1000
    let s := sent i { State.reset with sec := { lc := 1, frozen := 0x21 } }
    let u := sent (.firewallRelease witCtx 5) s
    accepts i s = true ∧ accepts (.firewallRelease witCtx 5) u = true ∧ u.sec.lc ≤ 3 ∧ frozen u (5 : Byte).toNat = true ∧
    s.sec.lc = 1 ∧ 32 ≤ (40 : Byte).toNat ∧ (40 : Byte).toNat ≤ 63 ∧ (4 : Byte).toNat ≤ 11 ∧
    (0x2000 : U64).toNat % 4096 = 0 ∧ (5 : Byte).toNat ≠ 4 := by decide

def witHolder : State := { State.reset with sec := { lc := 1, owners := [(0, zeros 48)] } }
def witToken (d : Nat) : List Byte := leBytes 4 0x4B545A43 ++ [1, 2, 1, 0] ++ leBytes 4 d ++ zeros 4 ++ lcNonce witHolder ++ zeros 193
/-- A lifecycle token to FIELD by the holder of owner slot 0, where the unbodied digest and signature check say so. -/
theorem wit_lifecycle_token (h1 : Config.sha384 (zeros 97) = zeros 48)
    (h2 : Config.ecdsaP384 (zeros 97) (slice (witToken Config.deviceId) 0 0x30) (zeros 96) = true) :
    tokenFault witHolder 1 2 (lcNonce witHolder) (witToken Config.deviceId) = none := by
  have a : slice (witToken Config.deviceId) 0x90 97 = zeros 97 := rfl
  have b : slice (witToken Config.deviceId) 0x30 96 = zeros 96 := rfl
  have c : slice (witToken Config.deviceId) 8 4 = leBytes 4 Config.deviceId := rfl
  have d : ofLe (leBytes 4 Config.deviceId) = Config.deviceId % 2 ^ 32 := by
    simp [leBytes, ofLe]; omega
  have e : slice (witToken Config.deviceId) 0x10 32 = lcNonce witHolder := rfl
  have f : signerHash witHolder (tokSigner (witToken Config.deviceId)) = some (zeros 48) := rfl
  have g : tokMagic (witToken Config.deviceId) = 0x4B545A43 := rfl
  have i : tokKind (witToken Config.deviceId) = 1 := rfl
  have j : tokTarget (witToken Config.deviceId) = 2 := rfl
  have k : byteAt (witToken Config.deviceId) 7 = 0 := rfl
  have l : tokLimit (witToken Config.deviceId) = 0 := rfl
  simp only [tokenFault, a, b, c, d, e, f, g, i, j, k, l, h1, h2]
  simp
theorem wit_lifecycle_context : witHolder.sec.lc = 1 ∧ tokenLocked witHolder = false ∧ (∀ d, (witToken d).length = 241 ∧ 1 ≤ tokSigner (witToken d)) ∧
    accepts (.lifecycle (witOut 244) 2) (sent (.lifecycle (witOut 244) 2) witHolder) = true :=
  ⟨rfl, rfl, fun _ => ⟨rfl, Nat.le_refl 1⟩, by decide⟩

/-! debug_sessions_and_test_accesses -/
def witSession : State := { State.reset with elapsed := 24000000000, sec := { session := some ⟨2, 1, 0, 60, 0⟩, lockout := some 0 } }
theorem wit_debug : svcOpen (1 : Fin 2).val State.reset = true ∧ State.reset.sec.lc = 0 ∧ State.reset.sec.session = none ∧
    State.reset.brk.hold = false ∧ frozen State.reset 4 = false ∧ svcOpen (1 : Fin 2).val witSession = true ∧
    witSession.sec.session = some ⟨2, 1, 0, 60, 0⟩ ∧ frozen witSession 5 = false ∧ darkAt witSession 0x14 = false ∧
    granted witSession 5 0x1000 4 false = true ∧ passed witSession 0 (60 * tickS) = true ∧ witSession.sec.lockout = some 0 := by decide
theorem wit_provision : let p : Provision := { owners := [(0, zeros 48)], ktk := zeros 32, oik := zeros 32, pair := none, subsys := none }
    p.owners.any (fun o => o.1.val == 0) = true ∧ p.owners.all (fun o => decide (o.2.length = 48)) = true ∧ p.ktk.length = 32 ∧
    p.oik.length = 32 ∧ p.pair.any (fun k => decide (k.length ≠ 32)) = false := by decide
def witWindow : State := { State.reset with svc := { outWin := [(0, 0x000153C7), (1, 9)] } }
theorem wit_window : dark witWindow .dev = false ∧ svcOpen 1 witWindow = true ∧
    svcOut 16 witWindow = leBytes 2 0x53C7 ++ [1, 0] ++ leBytes 2 (9 : U16).toNat ++ zeros 10 := by decide
theorem wit_test_access : let s := { State.reset with sec := { session := some ⟨3, 1, 0, 60, 0⟩ }, svc := { outWin := [(0, 0x002353C7), (1, 9)] } }
    svcOpen (1 : Fin 2).val s = true ∧ s.sec.session = some ⟨3, 1, 0, 60, 0⟩ ∧ frozen s 5 = false ∧
    submitsTest (16 : U32).toNat (some (.access .test)) s = true := by decide

/-! configuration_commands -/
def witEntry : CfgEntry := { pid := 1, scope := 0, value := 100 }
theorem wit_configuration : ∃ gi ∈ cfgCommands, ∃ s u : State, gi.1 = .brake ∧ accepts (gi.2 witCtx 1 [witEntry]) s = true ∧
    (paramSpec gi.1 witEntry.pid.toNat witEntry.scope.toNat).isSome = true ∧ accepts (gi.2 witCtx 0 [witEntry]) u = true ∧
    settable gi.1 [witEntry] u = true ∧ entriesOk gi.1 [witEntry] = true ∧ cfgOk gi.1 (cfgGet (cfgAfter gi.1 [witEntry] u.cfg) gi.1) u = true ∧
    dramFits (cfgAfter gi.1 [witEntry] u.cfg) u = true ∧ entriesOk gi.1 [witEntry, witEntry] = false :=
  ⟨(.brake, .brakeConfig), by simp [cfgCommands], sent (.brakeConfig witCtx 1 [witEntry]) State.reset,
    sent (.brakeConfig witCtx 0 [witEntry]) State.reset, rfl, by decide, by decide, by decide, by decide, by decide, by decide, by decide, by decide⟩
theorem wit_configuration_twice : accepts (.brakeConfig witCtx 0 [witEntry, witEntry]) (sent (.brakeConfig witCtx 0 [witEntry, witEntry]) State.reset) = true ∧
    settable .brake [witEntry, witEntry] State.reset = true := by decide

/-! claim_rounds -/
def witClaim : State := { State.reset with brk := { role := .contend, level := 1 } }
theorem wit_claim_rounds : witClaim.brk.role ≠ .proof ∧ claimByte (takeLevel witClaim) < 256 ∧
    (claimByte (takeLevel State.reset) = 0 ∧ State.reset.brk.role = .listen ∧ deepDebug State.reset = false ∧ (5 : Byte) ≠ 0) ∧ witClaim.pwr.st = .run ∧ dark witClaim .brk = false ∧ (0 : Byte).toNat < claimByte (takeLevel witClaim) ∧
    claimByte (takeLevel witClaim) ≠ 0 ∧ claimByte (takeLevel witClaim) < (5 : Byte).toNat ∧ (2 : Byte).toNat ≠ 0 ∧
    (2 : Byte).toNat = claimByte (takeLevel witClaim) ∧
    (let s := { State.reset with brk := { role := .restoring, level := 1, hold := true } }
     s.brk.role = .restoring ∧ claimByte (takeLevel s) ≠ 0 ∧ claimByte (takeLevel s) < (5 : Byte).toNat ∧ dark s .brk = false) := by decide

/-! claim_faults_and_drops -/
def witActive : State := { State.reset with brk := { role := .active, level := 64, hold := true, groups := 15 }
                                            dev := { ready := true }, svc := { boot := .firmware } }
theorem wit_claim_faults : dark witActive .brk = false ∧ witActive.brk.role ≠ .fault ∧
    accepts (.claimSet witCtx 0 0) (sent (.claimSet witCtx 0 0) witActive) = true ∧
    accepts (.claimSet witCtx 1 9) (sent (.claimSet witCtx 1 9) witActive) = true ∧
    (let s := sent (.claimSet witCtx 0 0) { witActive with brk := { witActive.brk with role := .contend } }
     accepts (.claimSet witCtx 0 0) s = true ∧ s.brk.role = .contend) ∧
    (let s := sent (.claimSet witCtx 1 9) { witActive with brk := { role := .idle } }
     accepts (.claimSet witCtx 1 9) s = true ∧ s.brk.role = .idle ∧ roundsRun s = false ∧ s.saf.safe = false ∧ deepDebug s = false) ∧
    witActive.brk.role = .active ∧ witActive.saf.safe = false ∧ deepDebug witActive = false ∧ 2 ≤ (9 : Byte).toNat ∧
    (let s := { witActive with saf := { dropDue := some (0, 1) } }; s.saf.dropDue = some (0, 1) ∧ txIdle s = true) ∧
    (let s := { witActive with brk := {} }; s.brk.role = .listen ∧ dark s .brk = false ∧ s.svc.boot = .firmware ∧ s.brk.roundAt = 0 ∧
      deepDebug s = false) := by decide

/-! checkpoints -/
def witCkpt : State := { witActive with elapsed := 4000000000, gra := { chk := { st := .ready, geom := { targets := 1, luns := 1, blocks := 64, pages := 4096 } } } }
theorem wit_checkpoints : let s := sent (.checkpoint witCtx) witCkpt
    accepts (.checkpoint witCtx) s = true ∧ s.brk.role = .active ∧ s.gra.chk.st = .ready ∧
    s.brk.run = none ∧ paramN s .brake 2 0 ≠ 0 ∧
    passed s s.brk.lastCkpt (paramN s .brake 2 0 * tickS) = true := by decide
theorem ckpt_free : (freeData witCkpt).length = 64 := by decide +kernel
theorem ckpt_pages : pagesPer witCkpt.gra.chk = 4096 := by decide
theorem ckpt_tables : tablePages witCkpt = 4544 := by decide
theorem ckpt_base : witCkpt.brk.base = none := rfl
theorem ckpt_changed : changedPages witCkpt = List.range (tablePages witCkpt) := by simp only [changedPages, ckpt_base]
theorem wit_room : chkFull witCkpt = false := by
  have l : (changedPages witCkpt).length = 4544 := by rw [ckpt_changed, List.length_range, ckpt_tables]
  simp only [chkFull, nextBlocks, l, ckpt_free, ckpt_pages, decide_eq_false_iff_not]; decide

theorem wit_ckpt_run : let r : CkptRun := { gen := 1, at_ := 0, cmd := none, changed := [5], open_ := some (9, 3) }
    let s := { witCkpt with brk := { witCkpt.brk with run := some r }, snap := some {} }
    s.brk.run = some r ∧ r.done = false ∧ r.open_ = some (9, 3) ∧ 3 < pagesPer s.gra.chk ∧ s.gra.chk.st = .ready ∧ halted s .gra 10 = false ∧
    ({ r with changed := [], part := 2584 } : CkptRun).changed = [] ∧ partCount ≤ ({ r with part := 2584 } : CkptRun).part ∧
    r.stream.length ≤ 16384 * (r.sp + 1) ∧ ({ r with done := true } : CkptRun).done = true := by decide
theorem wit_peer : let s := { witActive with elapsed := 36000400000000, brk := { witActive.brk with peerAt := 1 } }
    paramN s .brake 4 0 ≠ 0 ∧ s.brk.peerAt ≠ 0 ∧ s.brk.peerRaised = false ∧
    passed s (s.brk.peerAt - 1) (paramN s .brake 4 0 * 3600 * tickS + tickS) = true := by decide

/-! power_states -/
theorem wit_power_states : taken ([1, 2, 4].map (.powerState witCtx)) witActive = true ∧
    accepts (.wakeConfig witCtx 0x20 3) (sent (.wakeConfig witCtx 0x20 3) witActive) = true ∧ witActive.pwr.st = .run ∧ witActive.pwr.entry = none ∧
    2 ≤ (2 : Byte).toNat ∧ (4 : Byte).toNat ≤ 4 ∧ coreHalted witActive = false ∧ txIdle witActive = true ∧ witActive.pwr.heldWake = 0 ∧
    8 ≤ (0x20 : Byte).toNat ∧ (0x20 : Byte).toNat < 0x78 ∧ (3 : Byte).toNat < 8 := by decide
theorem wit_entry : ({ st := .run, entry := some (.hush, 6, 0, false) } : PwrState).entry = some (.hush, 6, 0, false) ∧
    ({ st := .run, entry := some (.doze, 5, 0, false) } : PwrState).entry = some (.doze, 5, 0, false) ∧ PState.doze ≠ .trim ∧
    State.reset.brk.run = none := by decide

/-! resets -/
theorem wit_resets : ({ on := true } : PwrState).on = true ∧
    taken ([0, 1, 2].map (.reset witCtx)) witActive = true ∧ (2 : Byte).toNat ≤ 2 ∧
    State.reset.sec.session = none ∧ State.reset.pwr.on = false := by decide

/-! wakes -/
def witHush : State := { State.reset with elapsed := 34560000000001, pwr := { st := .hush }, brk := { role := .standby, armed := true } }
theorem wit_wakes : witHush.pwr.st = .hush ∧ witHush.pwr.entry = none ∧ witHush.pwr.waking = none ∧ witHush.pwr.wakeFail = false ∧
    bits witHush.pwr.wakeSrc (1 : Fin 3).val 1 = 1 ∧ witHush.brk.armed = true ∧ bits witHush.pwr.wakeSrc 2 1 = 1 ∧
    passed witHush (witHush.brk.roundAt - 1) watchTicks = true ∧ witHush.brk.role = .standby ∧ paramN witHush .brake 3 0 ≠ 0 ∧
    passed witHush witHush.brk.standbyAt (paramN witHush .brake 3 0 * 3600 * tickS) = true ∧ (witHush.brk.fired = false) ∧
    bits witHush.pwr.wakeSrc (2 : Fin 3).val 1 = 1 ∧ ({ witHush.brk with fired := true } : BrkState).fired = true := by decide
theorem wit_attempts : let s := { witHush with pwr := { witHush.pwr with waking := some { since := 0, at_ := 0, tries := 3 } } }
    s.pwr.waking = some { since := 0, at_ := 0, tries := 3 } ∧ passed s 0 (500 * tickUs) = true ∧ passed s 0 (10 * tickMs) = true ∧
    ({ since := 0, at_ := 0, tries := 3 } : Waking).pause = false ∧ ({ since := 0, at_ := 0, pause := true } : Waking).pause = true ∧
    s.pwr.st = .hush ∧ ({ s with pwr := { s.pwr with st := .doze } } : State).pwr.st = .doze := by decide

/-! boot_and_restore -/
def witRom : State := { State.reset with svc := { boot := .rom } }
theorem wit_boot : witRom.svc.boot = .rom ∧ witRom.pwr.waking = none ∧ witRom.pwr.wakeFail = false ∧ witRom.sec.lc ≠ 5 ∧ witRom.svc.upd = .idle ∧
    witRom.brk.fired = false ∧ witRom.saf.safe = false ∧ ({ lc := 5 } : SecState).lc = 5 := by decide
theorem wit_boot_bad : imageCheck witRom 1 witRom.svc.loader0.bytes ≠ .good ∧ imageCheck witRom 1 witRom.svc.loader1.bytes ≠ .good ∧
    imageCheck witRom 2 witRom.svc.running.bytes ≠ .good ∧ imageCheck witRom 2 witRom.svc.fallback.bytes ≠ .good := by
  simp [imageCheck, headerOk, witRom, State.reset, slice]
/-- A container passes its checks in BLANK where the device's unbodied ciphers say so: its tag opens it to a text with its digest, signed. -/
theorem wit_boot_good (h p : List Byte) (s : State) (t : Nat) (hl : h.length = 256) (hk : headerOk h = true) (ht : hdrType h = t)
    (x : List Byte) (hx : (h ++ x).length = containerLen h) (lc : s.sec.lc = 0) (ho : s.sec.burnedOut = false)
    (hv : (if t = 1 then s.sec.svnLoader else s.sec.svnMain) ≤ hdrSvn h)
    (hg : Config.gcmOpen (s.sec.oik.getD []) (slice h 0x14 12) (slice h 0 0x20) ((h ++ x).drop 449 ++ slice h 0x20 16) = some p)
    (hd : Config.sha384 p = hdrDigest h) (he : Config.ecdsaP384 Config.dravridKey (slice h 0 0x60) (slice h 0x60 96) = true) :
    imageCheck s t (h ++ x) = .good := by
  have e : (h ++ x).take 256 = h := by rw [← hl]; simp
  subst ht
  simp [imageCheck, e, hk, hx, lc, ho, hg, hd, he, hv]
theorem wit_loader : let s := { State.reset with svc := { boot := .loader, upd := .save, running := { len := 200000 } } }
    s.svc.boot = .loader ∧ copying s = true ∧ s.svc.chunk + 1 < chunksOf s ∧
    (let u := { State.reset with svc := { boot := .loader } }; u.svc.boot = .loader ∧ copying u = false) ∧
    (let u := { State.reset with svc := { boot := .loader, upd := .copy, staging := [1] } }; u.svc.upd = .copy ∧ chunksOf u ≤ u.svc.chunk + 1) := by
  decide
def witRestoring : State := { State.reset with brk := { role := .restoring, hold := true }, svc := { boot := .firmware }, gra := { chk := { st := .ready } }
                                               chk := [snapshot 1 State.reset] }
theorem wit_restore : dark witRestoring .brk = false ∧ witRestoring.brk.role = .restoring ∧ witRestoring.brk.hold = true ∧
    witRestoring.svc.boot = .firmware ∧
    witRestoring.gra.chk.st = .ready ∧ witRestoring.brk.keep = false ∧ witRestoring.saf.safe = false := by decide
theorem wit_restore_generation : witRestoring.chk.head? = some (snapshot 1 State.reset) ∧ witRestoring.chk ≠ [] := ⟨rfl, by simp [witRestoring]⟩
theorem wit_restore_sound (k : Ckpt) (h1 : (Config.sha256 []).length = 32) (h2 : ∀ b, (Config.cmac (pairKey witRestoring) b).length = 16) :
    ∃ g : Ckpt, g.cfg = k.cfg ∧ g.vault = k.vault ∧ ckptSound witRestoring g = true := by
  have hz (n : Nat) : (zeros n).length = n := by simp only [zeros, List.length_replicate]
  generalize hh : zeros 0x38 ++ Config.sha256 [] ++ zeros 152 = head
  have hl : head.length = 240 := by rw [← hh]; simp only [List.length_append, hz, h1]
  generalize ht : Config.cmac (pairKey witRestoring) head = tag
  have hg : tag.length = 16 := by rw [← ht]; exact h2 head
  refine ⟨{ k with extents := [], len := 0, dir := [], commit := head ++ tag }, rfl, rfl, ?_⟩
  have a : (head ++ tag).take 240 = head := by rw [← hl]; simp only [List.take_left']
  have b : (head ++ tag).drop 240 = tag := by rw [← hl]; simp only [List.drop_left']
  have c : slice (head ++ tag) 0x38 32 = Config.sha256 [] := by
    rw [← hh]
    simp only [slice, List.append_assoc]
    rw [List.drop_left' (hz 0x38), List.take_left' h1]
  have l : (head ++ tag).length = 256 := by rw [List.length_append, hl, hg]
  have r : readStream witRestoring.gra.chk k.gen [] 0 = some [] := rfl
  have u : readAll witRestoring.gra.chk [] = some [] := rfl
  simp only [ckptSound, a, b, c, l, r, u, ht, List.append_nil]
  simp only [decide_true, BEq.rfl, Bool.and_self]

/-! lanes_stop_and_return -/
def witFrame (q : Nat) : Frame := { bytes := [0x40, 0, 0, 0] ++ zeros 8 ++ leBytes 4 q ++ zeros 8, path := 3, port := 0, rxNs := 0 }
def witLane (r : BitVec 4) : State := { State.reset with ing := { run := r, mapRun := r, lanes := [(1, { input := [witFrame 0] })] } }
theorem wit_lanes : taken [.laneStop witCtx 1] (witLane 0xF) = true ∧ taken [.laneRestart witCtx 1 true, .laneRestart witCtx 1 false] (witLane 0xD) = true ∧
    (1 : Byte).toNat < 4 ∧ (witLane 2).ing.run.getLsbD 0 = false ∧ (witLane 0xD).ing.run.getLsbD (1 : Byte).toNat = false ∧
    (witLane 2).ing.run.getLsbD (1 : Byte).toNat = true ∧ clrBit (witLane 2).ing.run (1 : Byte).toNat = 0 ∧
    clrBit (witLane 0xF).ing.run (1 : Byte).toNat ≠ 0 ∧ dark (witLane 2) .ing = false ∧ (lane (witLane 2) (1 : Fin 4).val).input ≠ [] ∧
    (lane (witLane 2) (1 : Fin 4).val).park.length < 64 ∧ (lane (witLane 2) (0 : Fin 4).val).input = [] := by decide +kernel

/-! clocks_and_watchdogs -/
theorem wit_clocks : monitored State.reset .afe = true ∧ State.reset.dev.unclocked.contains .afe = false ∧ dark State.reset .ing = false ∧
    StageUnit.setpointB ∈ [.setpointA, .setpointB, .setpointComparator, .safeLogic] ∧ recurs 1 State.reset = false ∧
    recurs 8 State.reset = false ∧ (witLane 2).ing.run.getLsbD (1 : Fin 4).val = true ∧ clrBit (witLane 2).ing.run 1 = 0 ∧
    State.reset.saf.coresFrozen.getLsbD (3 : Fin 4).val = false ∧ ((0 : BitVec 12).truncate 4 ||| setBit (7 : BitVec 4) 3) = 0xF#4 := by decide

/-! time_and_pin_checks -/
theorem wit_checks : dark State.reset .ing = false ∧ 400 * State.reset.saf.tbTol < (((500000000 : U32).toNat : Int) - 400000000).natAbs ∧
    ¬ 400 * State.reset.saf.tbTol < (((400000100 : U32).toNat : Int) - 400000000).natAbs ∧ State.reset.saf.tbBad = false ∧
    ({ tbBad := true } : SafState).tbBad = true ∧ recurs 6 State.reset = false ∧ ((3 : BitVec 5) &&& ~~~(7 : BitVec 5)) = 0 ∧
    (0x1F : BitVec 5).getLsbD 4 = true ∧ (0 : BitVec 5).getLsbD 4 = false ∧ (0x1F : BitVec 5).getLsbD (2 : Fin 4).val = true ∧
    (0 : BitVec 5).getLsbD (2 : Fin 4).val = false ∧ (witLane 0xF).ing.run.getLsbD (2 : Fin 4).val = true := by decide

/-! self_tests -/
def witDrill : State := { State.reset with elapsed := tickS, saf := { tests := [{ test := 6, arg := 5, job := (0, 0), at_ := 0 }], pinLow := true } }
theorem wit_self_tests : taken ([0, 1, 2, 3, 4, 5, 6, 7].map (fun n => .selfTest witCtx n 1 0)) witDrill = true ∧
    witDrill.saf.tests.any (fun x => x.test == (6 : Byte).toNat) = true ∧
    witDrill.saf.tests.any (fun x => x.test == (2 : Byte).toNat) = false ∧ witDrill.brk.hold = false ∧ witDrill.brk.onProof = false ∧
    witDrill.saf.rotStopped = false ∧ witDrill.lea.ports.any (fun e => decide (e.2.calCmd ≠ [])) = false ∧
    (witLane 2).ing.run.getLsbD (0 : Byte).toNat = false ∧ ({ onProof := true } : BrkState).onProof = true ∧
    leaRuns { State.reset with lea := { ports := [(1, { sched := [default], run := true })] } } (1 : Byte).toNat = true ∧
    witDrill.saf.tests.find? (fun y => y.test == 6) = some { test := 6, arg := 5, job := (0, 0), at_ := 0 } ∧ passed witDrill 0 (5 * tickMs) = true ∧
    witDrill.saf.safe = false := by decide +kernel

/-! rotation_scrub_and_clearing -/
def witSafe : State := { State.reset with elapsed := 3 * tickS, saf := { safe := true, latched := 2, pinLow := true }, brk := { role := .fault } }
theorem wit_rotation : dark witSafe .ldg = false ∧ witSafe.saf.rotStopped = false ∧ passed witSafe witSafe.saf.rotAt (2 * tickS) = true ∧
    recurs 0xA witSafe = false ∧ recurs 0xA { witSafe with saf := { seen := [(0xA, 3 * tickS)] } } = true ∧
    witSafe.log.failed = false ∧ taken [.faultClear witCtx 1 true, .faultClear witCtx 1 false] witSafe = true ∧
    witSafe.saf.latched.getLsbD (2 : Byte).toNat = false ∧
    (1 : Byte).toNat < 16 ∧ witSafe.saf.latched.getLsbD (1 : Byte).toNat = true ∧ retest (1 : Byte).toNat true witSafe = true ∧
    retest (1 : Byte).toNat false witSafe = false ∧ witSafe.saf.safe = true ∧ witSafe.pwr.wakeFault = false ∧
    (∀ j < 16, safeCause j = true → (clrBit witSafe.saf.latched (1 : Byte).toNat).getLsbD j = false) ∧
    ∃ j < 16, safeCause j = true ∧ (clrBit (6 : BitVec 16) (1 : Byte).toNat).getLsbD j = true := by decide

/-! queue_drains_flush_scrub_and_stall -/
def witItem (p : Bool) : QItem := { body := .bytes (zeros 32), born := 0, poison := p }
def witQueue : State := { State.reset with que := { q := [(0, [witItem false, witItem true, witItem false]), (5, [witItem false])],
                                                    flush := [(0, 3, 9)] }, dev := { ready := true }, elapsed := tickS }
theorem wit_drains : taken ([[], [(1 : Fin 4096)]].flatMap (fun b => [.strangerDrain (witOut 64) 2 b, .weirReportDrain (witOut 64) 2 b,
      .taiReportDrain (witOut 64) 2 b, .stampDrain (witOut 64) 2 b])) witQueue = true ∧
    0 < (2 : U16).toNat ∧ (2 : U16).toNat ≤ 4096 ∧ (2 : U16).toNat * 32 ≤ (witOut 64).xlen ∧ (witOut 64).xlen < (3 : U16).toNat * 32 ∧
    (2 : U16).toNat * 16 ≤ (witOut 64).xlen ∧ (witOut 64).xlen < (5 : U16).toNat * 16 ∧
    ((queue witQueue 0).take (2 : U16).toNat).any (fun i => i.poison) = true ∧
    ((queue witQueue 0).take (1 : U16).toNat).any (fun i => i.poison) = false := by decide +kernel
theorem wit_drain_bad : (∃ k ∈ [(1 : Fin 4096)], k.val < ((queue witQueue 0).take (2 : U16).toNat).length) ∧
    (∀ k ∈ [(9 : Fin 4096)], ((queue witQueue 0).take (1 : U16).toNat).length ≤ k.val) ∧
    ((queue witQueue 0).take (2 : U16).toNat)[(0 : Fin 4096).val]? = some (witItem false) :=
  ⟨⟨1, List.mem_singleton_self _, by decide⟩, by simp only [List.mem_singleton, forall_eq]; decide, rfl⟩
theorem wit_flush : taken [.queueFlush witCtx 0, .queueFlush witCtx 5] witQueue = true ∧ 4 ≤ (5 : Byte).toNat ∧ (0 : Byte).toNat < 4 ∧
    witQueue.que.flush.filter (fun f => f.1 == (0 : Fin 4).val) ≠ [] ∧ witQueue.que.flush.filter (fun f => f.1 == (1 : Fin 4).val) = [] ∧
    (queue witQueue (0 : Fin 7).val)[1]? = some (witItem true) ∧ (queue witQueue (0 : Fin 7).val)[2]? = some (witItem false) ∧
    (witItem true).poison = true ∧ (witItem false).poison = false ∧
    queue witQueue (5 : Fin 7).val = witItem false :: [] ∧ (witItem false).born + 100 * tickMs < witQueue.elapsed := by decide +kernel
theorem wit_token : let s := { State.reset with elapsed := tickS, log := { buckets := [(7, { used := 1 })] } }
    dark s .log = false ∧ 7 < 1024 ∧ 0 < (tget {} s.log.buckets 7).used ∧ ((tget {} s.log.buckets 7).regained + 1) * tickS ≤
      (s.elapsed - (tget {} s.log.buckets 7).since) * logRate s 7 ∧ ¬ 0 < (tget {} s.log.buckets 8).used := by decide

/-! recorder_views -/
def witLog (f : Option Nat) (mode : Int) : State :=
  { State.reset with elapsed := 200 * tickS, cfg := [(14 * 2 ^ 32, mode)], log := { freeze := f, full := true, oldest := 1, mem := [{ code := 0, supp := 0, step := false, seq := 1, cal := 0, p0 := 0, p1 := 0, p2 := 0, p3 := 0 }] } }
theorem wit_views : taken ([0, 1, 2].map (fun o => .logView witCtx o [])) (witLog none 0) = true ∧
    taken ([0, 1, 2].map (fun o => .logView witCtx o [])) (witLog (some 0) 1) = true ∧ taken [.logRestart witCtx] (witLog none 0) = true ∧
    taken [.lastgasp (witOut 256) 0, .lastgasp (witOut 256) 1] State.reset = true ∧
    taken [.logRead (witOut 64) 0 2 [], .logRead (witOut 64) 1 2 [], .logRead (witOut 64) 1 2 [(0, 5)]] (witLog none 0) = true ∧
    (64 : Nat) = (2 : U16).toNat * 32 ∧ (64 : Nat) ≠ (3 : U16).toNat * 32 ∧
    seqLe (witLog none 0).log.oldest (1 : U32).toNat = true ∧ (1 : U32) ≠ 0 ∧ (witLog none 0).log.badWords = [] ∧
    seqLe (witLog none 0).log.oldest (0xFFFFFFFF : U32).toNat = false ∧
    freezeMode (witLog none 1) = true ∧ freezeMode (witLog none 0) = false ∧ (witLog (some 0) 1).log.freeze = some 0 ∧ (witLog none 1).log.freeze = none ∧
    passed (witLog (some 0) 1) 0 (paramN (witLog (some 0) 1) .recorder 1 0 * tickMs) = true ∧
    passed (witLog (some (200 * tickS)) 1) (200 * tickS) (paramN (witLog (some (200 * tickS)) 1) .recorder 1 0 * tickMs) = false ∧
    ({ failed := true } : LogState).failed = true ∧ State.reset.log.full = false ∧ State.reset.log.failed = false ∧
    (witLog none 0).log.full = true ∧ State.reset.log.bank.length ≤ 8 := by decide +kernel

theorem wit_bad_words : (∃ q, wordSeq (witLog none 0) (0 : U32).toNat = some q ∧ (witLog none 0).log.mem.any (fun r => r.seq == q) = true) ∧
    wordSeq (witLog none 0) (0x3FFFFC : U32).toNat = none ∧
    (∃ r ∈ (witLog none 0).log.mem, ([1] : List Nat).contains r.seq = true) := by decide

/-! eui_tag_of_a_binding -/
def witBound : State := { State.reset with
  cfg := [(2 * 2 ^ 32 + 2 * 2 ^ 16, 3)]
  dev := { ready := true }
  sec := { vault := [(1, some { key := zeros 16 }), (2, some { key := zeros 16, eui := 7 }), (3, some { key := zeros 32, eui := 8 })] }
  led := { entries := [(2, { state := .present, leg := 4, moveProp := true }), (3, { state := .blocked })],
           rev := [(7, some 2), (8, some 3)], walking := [9],
           cold := [(2, some { eui := 7 }), (3, some { eui := 8, blocked := true })],
           nodes := [(nodeKey 2 4, { active := true, defined := true, parent := 1, children := 1 }),
                     (nodeKey 3 1, { active := true, defined := true, children := 1 })] } }
theorem wit_eui_tag : taken [.bind witCtx 1 5 2 0x3FFFF] witBound = true ∧ slotOf witBound (1 : Idx).toNat = some { key := zeros 16 } ∧
    (entry witBound (1 : Idx).toNat).state = .free ∧ revFind witBound (5 : Eui).toNat = none ∧
    witBound.led.walking.contains (1 : Idx).toNat = false ∧ (2 : Byte).toNat ≤ 2 ∧ (0x3FFFF : U32).toNat = noLeg ∧
    revFits witBound (5 : Eui).toNat = true := by decide

/-! bindings -/
theorem wit_bindings : taken [.bind witCtx 2 5 2 0x3FFFF, .bind witCtx 1 7 2 0x3FFFF, .bind witCtx 1 5 2 0x3FFFF, .unbind witCtx 1, .unbind witCtx 2] witBound = true ∧ legForm (0x3FFFF : U32).toNat = true ∧
    (entry witBound (2 : Idx).toNat).state ≠ .free ∧ slotOf witBound (5 : Idx).toNat = none ∧
    slotOf witBound (1 : Idx).toNat = some { key := zeros 16 } ∧ revFind witBound (7 : Eui).toNat = some 2 ∧
    witBound.led.walking.contains 2 = false ∧ (entry witBound (2 : Idx).toNat).leg.toNat ≠ noLeg ∧
    (entry witBound (1 : Idx).toNat).leg.toNat = noLeg := by decide +kernel

/-! blocks_cold_records_and_host_flags -/
theorem wit_cold : taken ([2, 3, 5].flatMap (fun n => [.block witCtx n, .unblock witCtx n, .hostPend witCtx n 1, .hostPend witCtx n 2, .coldRead (witOut 4) n]))
      witBound = true ∧ (entry witBound (5 : Idx).toNat).state = .free ∧ coldOn witBound = true ∧
    coldOn State.reset = false ∧ (entry witBound (2 : Idx).toNat).state ≠ .free ∧ (entry witBound (3 : Idx).toNat).state = .blocked ∧
    (entry witBound (2 : Idx).toNat).state ≠ .blocked ∧ (witOut 4).xlen ≠ coldSize witBound ∧
    tget none witBound.led.cold (2 : Idx).toNat = some { eui := 7 } ∧ (4 : U32).toNat < 0x80 ∧ 0x80 ≤ (0x80 : U32).toNat := by decide +kernel
theorem wit_cold_transfer : taken [.coldRead (witOut (coldSize witBound)) 2, .coldWrite (witIn (zeros 4)) 2 0x80] witBound = true ∧
    taken [.coldRead (witOut 4) 2, .coldWrite (witIn (zeros 4)) 2 0x80] State.reset = true ∧
    coldSize witBound < (0xFFFF : U32).toNat + (witIn (zeros 4)).xlen ∧
    (0x80 : U32).toNat + (witIn (zeros 4)).xlen ≤ coldSize witBound ∧ (witIn (zeros 4)).xin.length = (witIn (zeros 4)).xlen := by decide +kernel

/-! topology_of_nodes -/
theorem wit_topology : taken ([3, 4, 9].flatMap (fun n => [.nodeActivate witCtx 2 n 1, .nodeDeactivate witCtx 2 n, .nodeSet witCtx 2 0 3 n])) witBound = true ∧ (4 : U32).toNat < levelCount (2 : Byte).toNat ∧
    levelCount (2 : Byte).toNat ≤ (0x30000 : U32).toNat ∧ (2 : Byte).toNat ≠ 5 ∧ levelCount ((2 : Byte).toNat + 1) ≤ (0x10000 : U32).toNat ∧
    parentForm (2 : Byte).toNat (1 : U32).toNat = true ∧ (node witBound (nodeKey (2 : Byte).toNat (4 : U32).toNat)).active = true ∧
    (node witBound (nodeKey (2 : Byte).toNat (4 : U32).toNat)).children ≠ 0 ∧ (node witBound (nodeKey 2 3)).active = false ∧
    (node witBound (nodeKey 3 (3 / 3))).active = true ∧ (node witBound (nodeKey 3 (9 / 3))).active = false ∧
    (1 : U32).toNat = (3 : U32).toNat / 3 ∧ (node witBound (nodeKey 5 0)).active = false := by decide +kernel
theorem wit_topology_empty : let s := { witBound with led := { witBound.led with nodes := [(nodeKey 2 4, { active := true })] } }
    (node s (nodeKey (2 : Byte).toNat (4 : U32).toNat)).children = 0 ∧ parentKey s (nodeKey 2 4) = some (nodeKey 3 1) := by decide

/-! topology_of_endpoints -/
def witMoves : State := { witBound with led := { witBound.led with
  nodes := [(nodeKey 3 1, { active := true }), (nodeKey 4 2, { active := true })], moves := [⟨3, 1, 2, 0⟩] } }
theorem wit_endpoints : taken ([4, 5, 0x3FFFF].flatMap (fun l => [.attach witCtx 2 l, .attach witCtx 5 l])) witBound = true ∧
    taken [.rejectProposal witCtx 2 3, .rejectProposal witCtx 3 3] witBound = true ∧ legForm (4 : U32).toNat = true ∧
    (entry witBound (2 : Idx).toNat).state ≠ .free ∧ checkHeld witBound (2 : Idx).toNat = false ∧ (5 : U32).toNat ≠ noLeg ∧
    legActive witBound (5 : U32).toNat = false ∧ legActive witBound (4 : U32).toNat = true ∧ (entry witBound (5 : Idx).toNat).state = .free ∧
    checkHeld { witBound with wei := { checks := [{ idx := 2 }] } } (2 : Idx).toNat = true ∧
    (entry witBound (2 : Idx).toNat).moveProp = true ∧ (entry witBound (3 : Idx).toNat).moveProp = false ∧
    (entry witBound (3 : Idx).toNat).state ≠ .free ∧ (3 : Byte).toNat ≤ 3 ∧
    witBound.wei.suppress.length < 4096 := by decide +kernel
theorem wit_moves : taken [.nodeMove witCtx 3 1 2, .nodeMove witCtx 2 1 2] witMoves = true ∧ (1 : U32).toNat < levelCount (3 : Byte).toNat ∧
    parentForm (3 : Byte).toNat (2 : U32).toNat = true ∧ (node witMoves (nodeKey (3 : Byte).toNat (1 : U32).toNat)).active = true ∧
    (node witMoves (nodeKey ((3 : Byte).toNat + 1) (2 : U32).toNat)).active = true ∧
    witMoves.led.moves.any (fun m => m.lvl == (3 : Byte).toNat && m.num == (1 : U32).toNat) = true ∧ witBound.led.moves = [] ∧
    (node witMoves (nodeKey 2 1)).active = false ∧ (node witBound (nodeKey 2 4)).active = true ∧ (node witBound (nodeKey 3 1)).active = true ∧
    (node witMoves (nodeKey (4 : Byte).toNat (2 : U32).toNat)).active = true := by decide +kernel
theorem wit_moves_full : (List.replicate 4096 (⟨3, 7, 2, 0⟩ : NodeMv)).any (fun m => m.lvl == 3 && m.num == 1) = false ∧
    4096 ≤ (List.replicate 4096 (⟨3, 7, 2, 0⟩ : NodeMv)).length := by decide +kernel

/-! rebuilds_and_absence -/
theorem wit_rebuilds : dark witBound .ldg = false ∧ tget none witBound.led.cold (2 : Idx).toNat = some { eui := 7 } ∧
    tget none witBound.led.cold (4 : Idx).toNat = none ∧ witBound.led.walking.contains (9 : Idx).toNat = true ∧
    witBound.led.walking.contains (2 : Idx).toNat = false := by decide
theorem wit_sweep : let s := { witBound with elapsed := 2000 * tickS }
    dark s .ldg = false ∧ passed s s.led.sweepAt (10 * tickS) = true ∧ (entry s 2).state = .present ∧
    paramN s .ledger 0 0 ≤ sinceHeard s (entry s 2) ∧ (entry s 3).state = .blocked := by decide

/-! ingest_and_staging -/
def witGram : List Byte := [1, 1, 7, 0, 0, 0, 0, 0, 1, 0, 0, 0, 16, 0, 0, 0] ++ zeros 16
/-- A frame with an IPv4 header of no options and a UDP header without checksum. -/
def witUdpFrame (l : List Byte) : List Byte := zeros 12 ++ [8, 0, 0x45, 0] ++ beBytes 2 (28 + l.length) ++ zeros 5 ++ [17] ++ zeros 2 ++ [9, 0, 0, 0] ++ zeros 4 ++
  beBytes 2 5000 ++ beBytes 2 (paramN State.reset .device 7 0) ++ beBytes 2 (8 + l.length) ++ [0, 0] ++ l
def witUdp : UdpIn := { eth := 1, frame := witUdpFrame witGram }
def witDatagram (l : List Byte) : Datagram := { af := 4, src := 9, sport := 5000, dport := paramN State.reset .device 7 0, payload := l }
def witHead : State := { State.reset with
  dev := { ready := true }
  ing := { State.reset.ing with hrOpen := true, gws := [(7, { set := true, af := 4, addr := 9 })],
                                staging := [⟨7, false, 1, 9, 5000, 0, witGram⟩] } }
theorem wit_headrace : hrClosed witHead = false ∧ hrClosed State.reset = true ∧ udpParse [] = none ∧
    udpParse witUdp.frame = some (witDatagram witGram) ∧ (witDatagram witGram).dport = paramN witHead .device 7 0 ∧
    hrParse witGram = some (7, [(0, zeros 16)]) ∧ hrParse [] = none ∧
    (gwAt witHead 7).set = true ∧ (gwAt witHead 7).af = (witDatagram witGram).af ∧ (gwAt witHead 7).addr = (witDatagram witGram).src ∧
    (gwAt State.reset 7).set = false ∧ stagedBytes witHead + (witDatagram witGram).payload.length ≤ 2 ^ 26 := by decide +kernel
theorem wit_full_ring : let s := { witHead with ing := { witHead.ing with staging := [⟨7, false, 1, 9, 0, 0, zeros (2 ^ 26)⟩] } }
    2 ^ 26 < stagedBytes s + (witDatagram witGram).payload.length := by
  simp only [stagedBytes, zeros, List.map_cons, List.map_nil, List.sum_cons, List.sum_nil, List.length_replicate]; decide
theorem wit_relay : let c : Ctx := witIn ([32, 0, 0, 0] ++ witGram)
    accepts (.relay c 1) (sent (.relay c 1) witHead) = true ∧ 0 < (1 : U16).toNat ∧ (1 : U16).toNat ≤ 256 ∧ relayParse (1 : U16).toNat c.xin = some [witGram] ∧
    (∀ d ∈ [witGram], (hrParse d).isSome = true) ∧ stagedBytes witHead + (([witGram] : List (List Byte)).map (·.length)).sum ≤ 2 ^ 26 := by decide +kernel
theorem wit_draw : witHead.ing.staging = ⟨7, false, 1, 9, 5000, 0, witGram⟩ :: [] ∧ witHead.ing.run ≠ 0 ∧ (0 : BitVec 4) = 0 ∧
    halted witHead .ing 6 = false ∧ halted { witHead with sec := { frozen := 0x40 } } .ing 6 = true ∧
    memUp witHead = true ∧ witHead.dev.quiet = false ∧ entryPast witHead 3 = false ∧ roomFor witHead (stagedFrames ⟨7, false, 1, 9, 5000, 0, witGram⟩) = true := by decide

/-! gateways_export_and_resend -/
theorem wit_gateways : taken [.gatewaySet witCtx 5000 0 4 9, .gatewaySet witCtx 7 1 4 9, .gatewaySet witCtx 7 0 4 9, .exportSet witCtx 0 4 80 9,
      .exportSet witCtx 1 4 80 9, .exportSet witCtx 2 4 80 9, .exportSet witCtx 2 4 0 9, .exportSet witCtx 3 4 80 9] witHead = true ∧
    4096 ≤ (5000 : U16).toNat ∧ (7 : U16).toNat < 4096 ∧
    (9 : BitVec 128).toNat < 2 ^ 32 ∧ (4 : Byte) = 4 ∧ (80 : U16) ≠ 0 ∧ frozen witHead 6 = false ∧ dark witHead .ing = false ∧ halted witHead .ing 6 = false := by decide +kernel
theorem wit_nack : let s := { witHead with sec := { devKeys := [(0, zeros 32)] } }
    let l : List Byte := [0x7F, 0xC2, 1, 0, 0, 0] ++ zeros 7 ++ [0x80] ++ zeros 32
    hrClosed s = false ∧ udpParse (witUdpFrame l) = some (witDatagram l) ∧ ofLe (slice l 0 2) = 0xC27F ∧ 0 < ofLe (slice l 2 4) ∧ ofLe (slice l 2 4) ≤ 16 ∧
    l.length = 30 + 16 * ofLe (slice l 2 4) ∧ 2 ^ 63 ≤ ofLe (slice l 6 8) ∧ devKey s 0 ≠ [] ∧ s.ing.lastNack < ofLe (slice l 6 8) := by
  decide +kernel
def witBatch : OpenBatch := { seq := 3, openNs := 0, openAt := 0, key := [], recs := [] }
theorem wit_batch : let s := { witHead with elapsed := 100 * tickS, ing := { witHead.ing with batch := some witBatch } }
    s.ing.batch = some witBatch ∧ passed s witBatch.openAt (paramN s .device 10 0 * tickMs) = true ∧
    passed witHead witBatch.openAt (paramN witHead .device 10 0 * tickMs) = false ∧ dark s .ing = false := by decide
theorem wit_reserve : (reserve State.reset (1 : Fin 3).val).startDue = true ∧
    (let r : Reserve := { val := 0, ceil := 2 ^ 40, startDue := false }; ¬ (r.startDue = true ∨ r.stopped = true ∨ r.ceil ≤ r.val + 2 ^ 31)) := by decide

/-! millrace_stages -/
/-- A reading frame of index 2, tag zero, in each of lane 2's buffers. -/
def witReading : Frame := { bytes := [0x40, 0, 0, 0, 2, 0, 0, 0, 0, 0, 0, 0, 1, 0, 0, 0] ++ zeros 8, path := 3, port := 0, rxNs := 0, idx := 2 }
def witMill (l : Lane) : State := { witBound with
  ing := { State.reset.ing with lanes := [(2, l)] }
  led := { witBound.led with entries := [(2, { state := .present, euiTag := 0 }), (3, { state := .blocked })] } }
theorem wit_sluice : let s := witMill { input := [witReading] }
    dark s .ing = false ∧ s.ing.run.getLsbD (2 : Fin 4).val = true ∧ (lane s (2 : Fin 4).val).input = witReading :: [] ∧
    malformed witReading = false ∧ sluiceIdx s witReading = some (2, 0) ∧ strangerReason s { witReading with idx := 2, bindGen := 0 } = none ∧
    (entry s 2).state ≠ .blocked ∧ seenOf s { witReading with idx := 2, bindGen := 0 } = none ∧
    malformed { witReading with bytes := [] } = true ∧
    (entry s 3).state = .blocked ∧ strangerReason State.reset { witReading with idx := 2, bindGen := 0 } ≠ none ∧
    (seenOf { s with ing := { s.ing with seen := [{ idx := 2, seq := 1, tagh := 0 }] } } { witReading with idx := 2, bindGen := 0 }).isSome = true := by
  decide
def witFull : State := { witMill {} with ing := { State.reset.ing with
  seen := (List.range 16).map (fun k => { idx := 2, seq := 1, tagh := k + 1, way := k, st := .inFlight }) } }
theorem wit_no_way : pickWay witFull 2 1 false = none ∧ seenOf witFull { witReading with bindGen := 0 } = none := by
  refine ⟨?_, by decide +kernel⟩
  have h : witFull.ing.seen = (List.range 16).map (fun k => { idx := 2, seq := 1, tagh := k + 1, way := k, st := .inFlight }) := rfl
  simp [pickWay, h, List.range, List.range.loop, closed, oldestSeen]
theorem wit_ways (s : State) (h : s.ing.seen = []) : pickWay s 2 1 false = some (8, none) := by simp [pickWay, h]; rfl
theorem wit_quern : let s := witMill { quern := [witReading], park := [witReading], bolter := [witReading], insWait := [witReading] }
    dark s .ing = false ∧ halted s .ing 7 = false ∧ halted s .ing 11 = false ∧ memUp s = true ∧
    halted { s with sec := { s.sec with frozen := 0x880 } } .ing 7 = true ∧ halted { s with sec := { s.sec with frozen := 0x880 } } .ing 11 = true ∧
    (lane s (2 : Fin 4).val).quern = witReading :: [] ∧ (lane s (2 : Fin 4).val).park = witReading :: [] ∧
    (lane s (2 : Fin 4).val).bolter = witReading :: [] ∧ (lane s (2 : Fin 4).val).insWait = witReading :: [] ∧
    slotOf s witReading.idx = some { key := zeros 16, eui := 7 } ∧ gKeyg witReading = (entry s witReading.idx).keyGen.toNat ∧
    s.ing.unwrapBad.contains witReading.idx = false ∧ s.sec.cache.contains witReading.idx = false ∧
    (lane s (2 : Fin 4).val).park.length < 64 ∧ s.ing.run.getLsbD (2 : Fin 4).val = true ∧
    ({ s.ing with unwrapBad := [2] } : IngState).unwrapBad.contains witReading.idx = true ∧ seenOf s witReading = none ∧ slotOf s 77 = none ∧
    gKeyg { witReading with bytes := [0, 4] } ≠ (entry s witReading.idx).keyGen.toNat ∧
    ({ s with sec := { s.sec with cache := [2] } } : State).sec.cache.contains witReading.idx = true := by decide

/-! ledger_updates -/
theorem wit_update : let s := witMill { update := [{ witReading with plain := some [] }] }
    let f : Frame := { witReading with plain := some [] }
    halted s .ing 7 = false ∧ s.dev.paceEn = true ∧ s.ing.run.getLsbD (2 : Fin 4).val = true ∧
    (lane s (2 : Fin 4).val).update = f :: [] ∧ ¬ ((entry s f.idx).state = .free ∨
      (entry s f.idx).bindGen.toNat ≠ f.bindGen ∨ f.plain = none) ∧ (entry s f.idx).state ≠ .blocked ∧
    replayJudge s (entry s f.idx) f (f.plain.getD []) = .pass true false 1 1 ∧ f.rule = 0 ∧
    replayJudge s { state := .present, lastSeq := 1 } f [] = .late ∧ replayJudge s { state := .present, lastSeq := 100 } f [] = .replay := by decide +kernel

/-! pace_and_load -/
theorem wit_pace : let s := { State.reset with elapsed := tickS }
    dark s .ing = false ∧ s.dev.paceEn = true ∧ passed s s.dev.paceAt (paceTicks s.dev.paceWindow) = true ∧
    passed State.reset State.reset.dev.paceAt (paceTicks State.reset.dev.paceWindow) = false ∧ (5 : U16).toNat < s.dev.paceFloor ∧
    s.dev.paceArmed = true ∧ s.dev.paceFloor ≤ (0xFFFF : U16).toNat := by decide

/-! weir_commands -/
def witWeir : State := { witBound with
  wei := { en := true, openIv := some 0, checks := [{ idx := 3, lvl := 2, num := 9 }], slots := [{ interval := 5, closed := true }],
           parts := [{ interval := 0, idx := 2, leg := 4, net := 100 }] }
  fan := { State.reset.fan with st := .sync } }
theorem wit_weir : taken [.weirEnable witCtx 0, .weirEnable witCtx 1, .weirEnable witCtx 2] witWeir = true ∧
    taken [.weirEnable witCtx 0, .weirEnable witCtx 1] witBound = true ∧
    taken [.lossClass witCtx 2 1 1 2 3 4 5, .lossClass witCtx 6 1 1 2 3 4 5, .nodeClass witCtx 2 1 4, .nodeClass witCtx 2 1 5] witWeir = true ∧
    taken ([2, 3, 5].flatMap (fun n => [.checkBind witCtx n 2 4, .checkUnbind witCtx n])) witWeir = true ∧
    taken [.intervalResults (witOut 96) 5 0 2, .intervalResults (witOut 96) 6 0 2, .intervalResults (witOut 12791872) 5 0 0] witWeir = true ∧
    witBound.wei.en = false ∧
    dramFits witBound.cfg witBound = true ∧ witBound.fan.st = .unset ∧ witWeir.fan.st ≠ .unset ∧ witWeir.wei.en = true ∧
    (2 : Byte).toNat ≤ 5 ∧ 5 < (6 : Byte).toNat ∧ (4 : U32).toNat < levelCount (2 : Byte).toNat ∧
    (node witWeir (nodeKey (2 : Byte).toNat (4 : U32).toNat)).active = true ∧ (node witWeir (nodeKey 2 5)).active = false ∧
    (entry witWeir (3 : Idx).toNat).state ≠ .free ∧ (entry witWeir (3 : Idx).toNat).leg.toNat = noLeg ∧ (entry witWeir (5 : Idx).toNat).state = .free ∧
    (entry witWeir (2 : Idx).toNat).leg.toNat ≠ noLeg ∧ isCheck witWeir (3 : Idx).toNat = true ∧ isCheck witWeir (2 : Idx).toNat = false ∧
    witBound.wei.checks.any (fun k => k.idx == (3 : Idx).toNat || nodeKey k.lvl k.num == nodeKey 2 4) = false ∧
    witWeir.wei.checks.any (fun k => k.idx == (3 : Idx).toNat || nodeKey k.lvl k.num == nodeKey 2 4) = true ∧
    slotOfIv witWeir (5 : U64).toNat = some { interval := 5, closed := true } ∧ slotOfIv witWeir (6 : U64).toNat = none := by decide +kernel

theorem wit_check_levels : let s := { witBound with led := { witBound.led with nodes := [(nodeKey 4 1, { active := true, anchor := true }), (nodeKey 4 2, { active := true })] } }
    3 < (4 : Byte).toNat ∧ (node s (nodeKey (4 : Byte).toNat (1 : U32).toNat)).anchor = true ∧ (node s (nodeKey 4 1)).active = true ∧
    (node s (nodeKey (4 : Byte).toNat (2 : U32).toNat)).anchor = false ∧ (node s (nodeKey 4 2)).active = true ∧
    taken [.checkBind witCtx 3 4 1, .checkBind witCtx 3 4 2] s = true ∧
    (entry s (3 : Idx).toNat).state ≠ .free ∧ (entry s (3 : Idx).toNat).leg.toNat = noLeg := by decide
theorem wit_dram_full : dramFits [(2 * 2 ^ 32 + 2 * 2 ^ 16, 5), (4 * 2 ^ 32 + 2 * 2 ^ 16, 192)] State.reset = false := by decide
theorem wit_affinity : let c : Ctx := witIn [2, 0, 0, 0]
    taken [.affinityTest c 0 1 0, .affinityAbort c 0 1, .affinityAbort witCtx 1 1, .affinityAbort (witIn [0, 0, 0, 1]) 0 1] witWeir = true ∧ c.xlen = 4 * (1 : U16).toNat ∧
    (∀ w ∈ wordsAt c.xin 0 (1 : U16).toNat, w < 2 ^ 20) ∧ (∃ w ∈ wordsAt [0, 0, 0, 1] 0 (1 : U16).toNat, 2 ^ 20 ≤ w) ∧ frz witWeir 10 0 = 0 ∧
    (∀ i ∈ wordsAt c.xin 0 (1 : U16).toNat, i < 2 ^ 20 ∧ (entry witWeir i).state ≠ .free) ∧ (1 : U16).toNat ≤ freeTests witWeir ∧
    freeTests { witWeir with wei := { tests := List.replicate 256 { idx := 1, feeder := true, commanded := true, cands := [], startS := 0 } } } <
      (1 : U16).toNat := by decide +kernel

/-! weir_accumulation_and_intervals -/
theorem wit_parts : halted witWeir .wei 8 = false ∧ halted { witWeir with sec := { frozen := 0x100 } } .wei 8 = true ∧
    witWeir.wei.parts = { interval := 0, idx := 2, leg := 4, net := 100 } :: [] ∧
    witWeir.wei.openIv = some 0 ∧ 4 < levelCount 2 ∧ State.reset.wei.openIv = none ∧ (4 : Nat) ≠ noLeg ∧
    (0x7FFFFFFF : Int) < ({ net := 0x7FFFFFFF } : WBank).net + 100 ∧
    ({ witWeir.wei with openIv := some 7, closing := some 0 } : WeirState).closing = some 0 ∧ (queue witWeir 6).length < qcap 6 ∧
    slotOfIv witWeir 0 = none ∧ witWeir.wei.late ≠ some 0 ∧ witWeir.wei.closing ≠ some 0 := by decide
theorem wit_check_part : checkAt witWeir 3 (min 0 0) ≠ none ∧ checkAt witWeir 2 (min 0 0) = none ∧ (3 : Nat) ≠ noLeg ∧ (0 : Nat) < 1 ∧
    ({ witWeir.wei with late := some 0, openIv := some 1 } : WeirState).late = some 0 ∧
    slotOfIv { witWeir with wei := { witWeir.wei with slots := [{ interval := 0 }] } } 0 ≠ none := by decide
def witWeirLate : State := { witWeir with elapsed := 2000 * tickS, wei := { witWeir.wei with late := some 0, openIv := some 1 } }
theorem wit_intervals : nowS witWeir < endOf witWeir 0 ∧ endOf { witWeir with elapsed := 2000 * tickS } 0 ≤ nowS { witWeir with elapsed := 2000 * tickS } ∧
    witWeir.wei.late = none ∧ witWeir.wei.closing = none ∧ witWeirLate.wei.late = some 0 ∧
    endOf witWeirLate 0 + paramN witWeirLate .weir 1 0 ≤ nowS witWeirLate ∧ halted witWeirLate .wei 8 = false ∧
    nowS witWeir < endOf witWeir 0 + paramN witWeir .weir 1 0 := by decide

theorem wit_grid : let s := { State.reset with elapsed := 2000 * tickS, fan := { State.reset.fan with st := .sync } }
    halted s .wei 8 = false ∧ s.wei.openIv = none ∧ s.fan.st ≠ .unset ∧ s.wei.grid ≠ gridNow s ∧ State.reset.fan.st = .unset := by decide
def witTest : AffTest := { idx := 2, feeder := true, commanded := true, cands := [], startS := 0 }
theorem wit_test_end : ({ witWeirLate with wei := { witWeirLate.wei with tests := [witTest] } } : State).wei.tests.find?
      (fun t => t.idx == (2 : Idx).toNat && testDue witWeirLate t) = some witTest ∧
    witWeirLate.wei.tests.find? (fun t => t.idx == (2 : Idx).toNat && testDue witWeirLate t) = none := by decide

/-! residuals_of_a_close -/
theorem wit_close : let s := { witWeir with wei := { witWeir.wei with closing := some 5 } }
    halted s .wei 8 = false ∧ s.wei.closing = some 5 ∧ slotOfIv s 5 = some { interval := 5, closed := true } ∧ queue s 6 = [] ∧
    40000 < (50000 : U32).toNat := by decide

/-! radio_scripts_and_reception -/
def witSpi : SpiTx := { len := 1, chk := 1, exp := 5, bytes := [9] }
def witPort : VPort := { lock := true, scripts := [(2, [witSpi, witSpi])] }
def witVane (v : VPort) : State := { State.reset with
  dev := { ready := true }, brk := { role := .active, hold := true, groups := 0xF, level := 1 }, van := { ports := [(3, v)] } }
/-- A broadcast data frame: control word, sequence number, PAN ID, destination, source, payload. -/
def witPsdu : List Byte := [0x41, 0xE8, 1] ++ leBytes 2 (panId State.reset) ++ [0xFF, 0xFF] ++ zeros 8 ++ [0x40] ++ zeros 23
def witPpdu : Ppdu := { phr := true, fcs := true, fcs4 := false, psdu := witPsdu, shr := 0, air := 0, power := -60 }
def witMac : Mac := {
  ftype := 1, ver := 2, sec := false, pend := false, ar := false, ie := false, seq := some 1
  dstPan := some (panId State.reset), dst := [0xFF, 0xFF], src := zeros 8, payload := [0x40] ++ zeros 23 }
theorem wit_scripts : let c : Ctx := witIn ([1, 0, 0, 0, 7] ++ zeros 7)
    taken [.scriptLoad c 3 2 1, .scriptLoad c 9 2 1] (witVane witPort) = true ∧ c.xlen = 12 * (1 : Byte).toNat ∧ (3 : Byte).toNat < 8 ∧
    (List.range (1 : Byte).toNat).all (fun j => byteAt c.xin (12 * j + 3) == 0) = true ∧
    (spiList c.xin (1 : Byte).toNat).all (fun x => decide (1 ≤ x.len ∧ x.len ≤ 8 ∧ x.chk ≤ x.len)) = true ∧
    scriptFits (paramN (witVane witPort) .vane 7 0) (spiList c.xin (1 : Byte).toNat) = true := by decide
theorem wit_channel : taken [.channel witCtx 3, .channel witCtx 8] (witVane witPort) = true ∧ taken [.channel witCtx 3] State.reset = true ∧ grp (witVane witPort) 0 = true ∧ grp State.reset 0 = false ∧
    (vport (witVane witPort) (3 : Byte).toNat).running = none ∧ unclockedPort (witVane witPort) (3 : Byte).toNat = false ∧
    (vport (witVane witPort) 3).tx = none ∧ (vport (witVane witPort) 3).chanWait = [] ∧
    script (vport (witVane witPort) (3 : Byte).toNat) 2 = witSpi :: [witSpi] ∧ script (vport (witVane witPort) 4) 2 = [] ∧
    (vport (witVane { witPort with running := some (2, 0, none) }) 3).running.isSome = true ∧
    (vport (witVane { witPort with running := some (2, 0, none) }) (3 : Fin 8).val).running = some (2, 0, none) ∧
    (script witPort 2)[0]? = some witSpi ∧ (script witPort 2)[0 + 1]? = some witSpi ∧ byteAt [5] (witSpi.chk - 1) = witSpi.exp ∧
    witSpi.chk ≠ 0 ∧ byteAt [4] (witSpi.chk - 1) ≠ witSpi.exp ∧ dark (witVane witPort) .van = false ∧
    (witVane witPort).dev.unclocked.contains (.rfiq 3) = false := by decide
theorem wit_lanes_lock : laneLocks iqSync (List.replicate 64 (0x80004000 : U32)) = true ∧ laneLoses iqSync (List.replicate 4 (0 : U32)) = true ∧
    laneLocks iqSync [0x80004000] = false ∧ laneLoses iqSync [0x80004000] = false ∧ listens (witVane witPort) 0 = true ∧
    (witVane witPort).dev.unclocked.contains (.rfiq 3) = false ∧ listens State.reset 0 = false ∧ unclockedPort (witVane witPort) 3 = false ∧
    unclockedPort { witVane witPort with dev := { unclocked := [.rfiq 3] } } 3 = true ∧ script witPort 3 = [] := by decide +kernel
theorem wit_reception : portLive (witVane witPort) 3 = true ∧ listens (witVane witPort) 0 = true ∧ (vport (witVane witPort) (3 : Fin 8).val).lock = true ∧
    (vport (witVane witPort) (3 : Fin 8).val).tx = none ∧ witPpdu.psdu.length + 2 ≤ 2047 ∧
    macParse witPsdu = some witMac ∧
    (∀ m, isAck (witVane witPort) 3 witPpdu m = none) ∧ (witVane witPort).dev.quiet = false ∧ (witVane witPort).ing.run ≠ 0 ∧
    ({ witVane witPort with dev := { quiet := true } } : State).dev.quiet = true := by
  refine ⟨by decide, by decide, by decide, by decide, by decide, by decide, fun m => rfl, by decide, by decide, by decide⟩
theorem wit_filter : macFilter (witVane witPort) 3 witMac = true := by
  have h : panId (witVane witPort) = panId State.reset := by decide
  simp [macFilter, witMac, h, zeros]

/-! radio_transmission -/
def witAck (d : Option Bool) : AckDue := { ppdu := 1, endAt := 0, seq := none, dst := zeros 8, fcs4 := false, decision := d }
def witAcks (d : Option Bool) : State := { witVane { witPort with acks := [witAck d] } with elapsed := tickMs }
theorem wit_acks : dark (witAcks none) .van = false ∧ (vport (witAcks none) (3 : Fin 8).val).acks = witAck none :: [] ∧
    (vport (witAcks (some true)) (3 : Fin 8).val).acks = witAck (some true) :: [] ∧ passed (witAcks none) 0 (650 * tickUs) = true ∧
    passed (witVane witPort) 0 (650 * tickUs) = false ∧ (witAck (some false)).decision = some false ∧ (witAck none).decision = none ∧
    (witAck (some true)).decision = some true ∧ grp (witAcks (some true)) 0 = true ∧ (vport (witAcks (some true)) (3 : Fin 8).val).tx = none ∧
    (vport (witAcks (some true)) (3 : Fin 8).val).idle = false ∧ entering (witAcks (some true)) = false ∧ grp State.reset 0 = false := by decide
def witTx : TxFrame := { prio := 5, bytes := zeros 4, uni := some 2, item := 6 }
theorem wit_csma : let s := witVane { witPort with queue := [witTx] }
    nextTx (vport s (3 : Fin 8).val).queue = some witTx ∧ portLive s 3 = true ∧ (vport s (3 : Fin 8).val).tx = none ∧
    (vport s (3 : Fin 8).val).running = none ∧ (vport s (3 : Fin 8).val).ackWait = none ∧ grp s 0 = true ∧
    overAck (vport s (3 : Fin 8).val) 3 0 0 s = false ∧ portLive { s with brk := {} } 3 = true ∧ grp { s with brk := {} } 0 = false ∧
    csma (ccaBusy s 3) 0 [(0, -100)] = some true ∧ csma (ccaBusy s 3) 0 (List.replicate 5 (0, 50)) = some false ∧
    csma (ccaBusy s 3) 0 [(0, 50)] = none ∧ withheld s witTx = false ∧ withheld { s with dev := { quiet := true } } witTx = true ∧
    (7 : Byte).toNat < 8 ∧ unclockedPort s 3 = false ∧ overAck { witPort with acks := [witAck none] } 3 (2000000 : U32).toNat 0 s = true := by decide
theorem wit_tx_end : let s := { witVane { witPort with tx := some witTx, ackWait := some (witTx, 0) } with elapsed := tickS }
    dark s .van = false ∧ (vport s (3 : Fin 8).val).tx = some witTx ∧ (vport s (3 : Fin 8).val).running = none ∧
    (vport s (3 : Fin 8).val).ackWait = some (witTx, 0) ∧ passed s 0 (1050 * tickUs) = true ∧ witTx.tries < paramN s .vane 8 0 ∧
    paramN s .vane 8 0 ≤ ({ witTx with tries := 200 } : TxFrame).tries ∧ passed (witVane witPort) 0 (1050 * tickUs) = false := by decide

/-! beacons_relays_and_ramp -/
def witBeacon (r : Reserve) : State := { witVane witPort with
  elapsed := 1000 * tickS, cfg := [(5 * 2 ^ 32 + 13 * 2 ^ 16, 8)]
  ing := { State.reset.ing with reserves := [(1, r)] } }
theorem wit_beacons : bit (paramN (witBeacon {}) .vane 13 0) (3 : Fin 8).val = true ∧ bit (paramN (witBeacon {}) .vane 13 0) (2 : Fin 8).val = false ∧
    dark (witBeacon {}) .van = false ∧
    ((witBeacon {}).elapsed + beaconMs (witBeacon {}) * tickMs - (3 : Fin 8).val * (beaconMs (witBeacon {}) * tickMs) / 8) /
      (beaconMs (witBeacon {}) * tickMs) ≠ 0 ∧ (vport (witBeacon {}) (3 : Fin 8).val).beaconAt = 0 ∧ grp (witBeacon {}) 0 = true ∧
    (reserve (witBeacon { val := 5, ceil := 9 }) 1).val < (reserve (witBeacon { val := 5, ceil := 9 }) 1).ceil ∧
    (reserve (witBeacon { val := 5, ceil := 9 }) 1).val < 0xFFFF0000 ∧ (reserve (witBeacon {}) 1).ceil ≤ (reserve (witBeacon {}) 1).val ∧
    grp { witBeacon {} with brk := {} } 0 = false := by decide
def witJob : RelayJob := { frame := zeros 20, idx := 2, seq := 1, tagh := 0, due := 0 }
def witRelay (p : Bool) (l : List Seen) : State := { witBeacon {} with
  cfg := [(5 * 2 ^ 32 + 12 * 2 ^ 16, 8)]
  que := { q := [(5, [{ body := .job witJob, born := 0, poison := p }])] }, ing := { State.reset.ing with seen := l } }
theorem wit_relays : (queue (witRelay true []) 5).find? (fun x => match x.body with | .job j => decide (j.due ≤ (witRelay true []).elapsed) | _ => false) =
      some { body := .job witJob, born := 0, poison := true } ∧
    (queue (witRelay false []) 5).find? (fun x => match x.body with | .job j => decide (j.due ≤ (witRelay false []).elapsed) | _ => false) =
      some { body := .job witJob, born := 0, poison := false } ∧ queue (witBeacon {}) 5 = [] ∧ dark (witRelay true []) .van = false ∧
    (witRelay false []).ing.seen.find? (fun e => e.idx == witJob.idx && e.seq == witJob.seq && e.tagh == witJob.tagh) = none ∧
    (witRelay false [{ idx := 2, seq := 1, tagh := 0 }]).ing.seen.find? (fun e => e.idx == witJob.idx && e.seq == witJob.seq && e.tagh == witJob.tagh) =
      some { idx := 2, seq := 1, tagh := 0 } ∧ bits 0 4 2 < paramN (witRelay false []) .vane 11 0 ∧
    paramN (witRelay false []) .vane 11 0 ≤ bits 0x30 4 2 ∧ grp (witRelay false []) 0 = true ∧
    bit (paramN (witRelay false []) .vane 12 0) (3 : Fin 8).val = true := by decide
theorem wit_upstream : let s := { witBeacon {} with van := { up := .track, misses := 2, ramp := some 0 } }
    s.van.up = .track ∧ s.van.deadline ≤ s.elapsed ∧ 2 ≤ s.van.misses ∧ s.van.ramp = some 0 ∧ dark s .van = false ∧
    passed s 0 (7 * paramN s .vane 16 0 * tickMs) = true ∧ (witVane witPort).van.up ≠ .track ∧ ({ misses := 1 } : VaneState).misses < 2 ∧
    passed (witVane witPort) 0 (7 * paramN (witVane witPort) .vane 16 0 * tickMs) = false := by decide

/-! power_line_slots_and_schedule -/
def witStep (ty n first : Nat) : Nat := ty * 2 ^ 29 + n * 2 ^ 16 + first
def witLine (q : LPort) : State := { State.reset with
  dev := { ready := true }, brk := { role := .active, hold := true, groups := 0xF, level := 1 }
  led := { entries := [(2, { state := .present })] }, lea := { ports := [(1, q)] } }
def witHeld : LPort := { lock := true, slots := [(5, { idx := 2, st := .active })] }
theorem wit_schedule : let c : Ctx := witIn (leBytes 4 (witStep 2 50 0) ++ leBytes 4 (witStep 7 0 0))
    taken [.scheduleLoad c 1 2, .scheduleLoad c 4 2, .slotRead (witOut 32) 1 5 1, .slotRead (witOut 32) 1 4096 1] (witLine {}) = true ∧ c.xlen = 4 * (2 : U16).toNat ∧
    schedOk ((List.range (2 : U16).toNat).map (fun k => ofLe (slice c.xin (4 * k) 4))) = true ∧ schedOk [witStep 2 50 0] = false ∧
    leaRuns (witLine {}) (1 : Byte).toNat = false ∧ leaRuns (witLine { run := true }) (1 : Byte).toNat = true ∧
    (witOut 32).xlen = 32 * (1 : U16).toNat := by decide +kernel
theorem wit_slots : taken ([5, 4095].flatMap (fun k => [.slotAssign witCtx 1 k 2, .slotAssign witCtx 1 k 3, .slotRelease witCtx 1 k, .tmOverride witCtx 1 k 0 0,
      .tmOverride witCtx 1 k 2 0, .tmOverride witCtx 1 k 1 (BitVec.ofNat 32 (robo (witLine witHeld) 1))])) (witLine witHeld) = true ∧
    (entry (witLine witHeld) (2 : Idx).toNat).state ≠ .free ∧
    (entry (witLine witHeld) (3 : Idx).toNat).state = .free ∧ (slotAt (lport (witLine witHeld) (1 : Byte).toNat) (5 : U16).toNat).st ≠ .free ∧
    (slotAt (lport (witLine witHeld) (0 : Byte).toNat) (4095 : U16).toNat).st = .free ∧
    (slotAt (lport (witLine witHeld) 1) 5).idx = (2 : Idx).toNat ∧ inExch (lport (witLine witHeld) 1) 5 = false ∧
    inExch { witHeld with exch := some { slot := 5, pseq := 0 } } 5 = true ∧ tmOk (witLine witHeld) 1 (robo (witLine witHeld) 1) = true ∧
    (∀ r < 4, ∀ e ∈ (lport (witLine {}) r).slots, e.2.idx ≠ (2 : Idx).toNat ∨ e.2.st = .free) ∧
    leaLive (witLine witHeld) = true ∧ (lport (witLine witHeld) (1 : Fin 4).val).lock = true ∧ grp (witLine witHeld) 1 = true ∧
    grp State.reset 1 = false := by decide +kernel

/-! power_line_steps -/
def witCycle (w : Nat) (b : Bool) : LPort := {
  witHeld with
  sched := [w, witStep 7 0 0], run := true, begun := b, calDue := true }
theorem wit_step_start : leaLive (witLine (witCycle (witStep 0 9 0) false)) = true ∧ State.reset.dev.quiet = false ∧
    (lport (witLine (witCycle (witStep 0 9 0) false)) (1 : Fin 4).val) = witCycle (witStep 0 9 0) false ∧
    stepType (stepWord (witCycle (witStep 0 9 0) false)) = 0 ∧ stepType (stepWord (witCycle (witStep 1 64 0) false)) = 1 ∧
    stepType (stepWord (witCycle (witStep 2 50 0) false)) = 2 ∧ 50 ≤ stepCount (stepWord (witCycle (witStep 2 50 0) false)) ∧
    anyCal (witLine (witCycle (witStep 2 50 0) false)) = false ∧ stepType (stepWord (witCycle (witStep 7 0 0) false)) = 7 ∧
    stepType (stepWord (witCycle (witStep 3 2 0) false)) = 3 ∧ mustWait (witLine (witCycle (witStep 1 64 0) false)) (1 : Fin 4).val = false ∧
    mustWait (witLine { witCycle (witStep 1 64 0) false with freeAt := 5 }) (1 : Fin 4).val = true ∧ grp State.reset 1 = false ∧
    ({ witCycle (witStep 0 9 0) false with run := false } : LPort).run = false := by decide
theorem wit_sdi : laneLocks sdiSync (List.replicate 64 (0xA0 : BitVec 20)) = true ∧ laneLoses sdiSync (List.replicate 4 (0 : BitVec 20)) = true ∧
    laneLoses sdiSync [] = false ∧ listens (witLine witHeld) 1 = true := by decide +kernel
theorem wit_step_end : let s := witLine (witCycle (witStep 1 64 0) true)
    let u := witLine (witCycle (witStep 2 50 0) true)
    inStep s (1 : Fin 4).val 1 = true ∧ inStep u (1 : Fin 4).val 2 = true ∧ passed s 0 (64 * 20 * tickMs) = false ∧
    passed { s with elapsed := 100 * tickS } 0 (64 * (lport s 1).subMs * tickMs) = true ∧ passed u 0 (50 * tickMs) = false ∧
    passed { u with elapsed := tickS } 0 (50 * tickMs) = true ∧ inStep { s with elapsed := 100 * tickS } 1 1 = true ∧
    inStep { u with elapsed := tickS } 1 2 = true := by decide
def witAnswer : PlcRx := {
  psdu := plcFrame State.reset 4 0x1FFF 0 ([0] ++ leBytes 8 7 ++ zeros 7), air := 0, snr := [], excess := [] }
def witDisc (auto : Bool) : State := {
  witLine (witCycle (witStep 1 64 0) true) with
  cfg := if auto then [] else [(6 * 2 ^ 32 + 12 * 2 ^ 16 + 256, 0)]
  led := { entries := [(2, { state := .present })], rev := [(7, some 2)] } }
theorem wit_disc_answer : leaLive (witDisc true) = true ∧ grp (witDisc true) 1 = true ∧ (lport (witDisc true) (1 : Fin 4).val).lock = true ∧
    (witDisc true).dev.quiet = false ∧
    inStep (witDisc true) (1 : Fin 4).val 1 = true ∧ plcForm witAnswer.psdu = true ∧ fType witAnswer.psdu = 4 ∧
    revFind (witDisc true) (ofLe (slice (fBody witAnswer.psdu) 1 8)) = some 2 ∧ leaP (witDisc true) 12 (1 : Fin 4).val 0 = 1 ∧
    (∀ d ∈ witAnswer.excess, d < param (witDisc true) .leat 17 0) ∧ (autoSlot (1 : Fin 4).val (witDisc true)).isSome = true ∧ leaP (witDisc false) 12 (1 : Fin 4).val 0 ≠ 1 ∧
    (lport (witDisc false) (1 : Fin 4).val).fullRaised = false := by decide +kernel
theorem wit_phase_write : let s := { witLine { witHeld with calibrating := true } with
      lea := { ports := [(1, { witHeld with calibrating := true })], phaseWr := [(2, 0, 3)] } }
    dark s .ldg = false ∧ s.lea.phaseWr = (2, 0, 3) :: [] ∧ (entry s 2).state ≠ .free ∧ (entry s 2).bindGen.toNat = 0 ∧
    (entry s 2).phase.toNat ≠ 3 ∧ (entry s 2).bindGen.toNat ≠ 1 ∧ (lport s (1 : Fin 4).val).calibrating = true ∧
    (slotAt (lport s (1 : Fin 4).val) (5 : BitVec 12).toNat).st ≠ .free ∧
    leaP { s with elapsed := 5000000 * tickS } 14 0 0 ≤ (nowS { s with elapsed := 5000000 * tickS } % 2 ^ 32 + 2 ^ 32 - 0) % 2 ^ 32 ∧
    (nowS s % 2 ^ 32 + 2 ^ 32 - 0) % 2 ^ 32 < leaP s 14 0 0 := by decide

/-! power_line_polling -/
def witPoll (x : Option Exch) : State := witLine { witCycle (witStep 0 9 0) true with exch := x }
def witExch (n : Nat) : Exch := { slot := 5, pseq := 7, repolls := n, item := some (4, []), cfg := [] }
def witResponse (ps : Nat) : PlcRx := {
  psdu := plcFrame State.reset 2 (5 + 4096) ps ([0xFF, 0xFF] ++ zeros 5), air := 0, snr := [], excess := [] }
def witMore : List Byte := let p := (witResponse 7).psdu
  let b := p.take 1 ++ [1] ++ (p.take 15).drop 2
  b ++ leBytes 4 (crc32 b)
theorem wit_response_more : plcForm witMore = true ∧ bit (byteAt witMore 1) 0 = true ∧ fType witMore = 2 ∧ byteAt witMore 6 = 7 := by
  decide +kernel
theorem wit_poll_send : inStep (witPoll none) (1 : Fin 4).val 0 = true ∧ (0 : U32).toNat < leaP (witPoll none) 2 0 0 * 1000000 ∧
    leaP (witPoll none) 2 0 0 * 1000000 ≤ (4000000000 : U32).toNat ∧ gapOver (witPoll none) (1 : Fin 4).val = true ∧
    gapOver (witLine { witHeld with freeAt := 5 }) 1 = false ∧ (entry (witPoll none) 2).state ≠ .free ∧
    (lport (witPoll none) 1).exch = none ∧ rangeSlots (lport (witPoll none) 1) = (5, { idx := 2, st := .active }) :: [] ∧
    grp (witPoll none) 1 = true ∧ (entry (witPoll none) 2).state ≠ .free ∧ (entry (witPoll none) 2).bindGen.toNat = 0 ∧
    rangeSlots (witCycle (witStep 0 3 0) true) = [] ∧ grp { witPoll none with brk := {} } 1 = false ∧
    (entry { witPoll none with led := {} } 2).state = .free := by decide
/-- A re-poll and an extra poll that are due, and a re-poll of a slot gone stale. -/
theorem wit_repoll : let e := { witExch 1 with open_ := false }
    let s := witPoll (some e)
    (lport s (1 : Fin 4).val).exch = some e ∧ e.open_ = false ∧ leaP (exState (some e) s) 2 0 0 * 1000000 ≤ (4000000000 : U32).toNat ∧
    gapOver s 1 = true ∧ grp s 1 = true ∧ staleSlot s (slotAt (lport s 1) e.slot) = false ∧
    staleSlot { s with led := {} } (slotAt (lport s 1) e.slot) = true ∧ ({ e with fresh := true } : Exch).fresh = true ∧ e.fresh = false := by decide
theorem wit_response_lost : leaLive (witPoll (some (witExch 0))) = true ∧ (lport (witPoll (some (witExch 0))) (1 : Fin 4).val).exch = some (witExch 0) ∧
    (witExch 0).open_ = true ∧ passed (witPoll none) (witExch 0).endAt ((exP (witExch 0) 3 0 0 + 1) * tickMs) = false ∧
    (witExch 0).repolls < exP (witExch 0) 5 0 0 ∧ exP (witExch 0) 5 0 0 ≤ (witExch 200).repolls ∧
    (lport (witPoll none) (1 : Fin 4).val).waiting = [] ∧ min 255 (exP (witExch 0) 7 0 0 - 1 + 1) = exP (witExch 0) 7 0 0 ∧
    exP (witExch 0) 11 0 0 ≤ min 255 (250 + 1) ∧ exP (witExch 0) 8 0 0 ≤ min 255 (250 + 1) ∧
    min 255 (0 + 1) < exP (witExch 0) 8 0 0 := by decide
theorem wit_response : leaLive (witPoll (some (witExch 0))) = true ∧ grp (witPoll none) 1 = true ∧
    (lport (witPoll none) (1 : Fin 4).val).lock = true ∧ (witPoll none).dev.quiet = false ∧
    (∀ d ∈ (witResponse 7).excess, d < param (witPoll none) .leat 17 0 ∧ d < cfgGet (witExch 0).cfg .leat 17 0) ∧ plcForm [] = false ∧
    fType (plcFrame State.reset 2 0 0 []) ≠ 4 ∧ fConc (leBytes 8 0xFFFFFFFF) ≠ paramN (witPoll none) .vane 3 0 ∧ plcForm (witResponse 7).psdu = true ∧
    fConc (witResponse 7).psdu = paramN (witPoll none) .vane 3 0 ∧ fType (witResponse 7).psdu = 2 ∧
    byteAt (witResponse 7).psdu 6 = (witExch 0).pseq ∧ fSlot (witResponse 7).psdu = (witExch 0).slot + 4096 * (1 : Fin 4).val ∧
    byteAt (witResponse 8).psdu 6 ≠ (witExch 0).pseq ∧ plcForm (witResponse 8).psdu = true ∧ bit (byteAt (witResponse 7).psdu 1) 0 = false ∧
    (witExch 0).more < exP (witExch 0) 6 0 0 := by decide +kernel

/-! tariffs_records_and_outcomes -/
def witTail (tai : TailState) : State := { State.reset with
  dev := { ready := true }, led := { entries := [(2, { state := .present, kind := 1 })] }, tai := tai }
def witRec (r : DlRec) : State := witTail {
  recs := [(2, r)], tariffs := [(4, { ver := 3, data := zeros 200 })], sweep := [4], confirms := [(2, [1, 0, 0, 0, 3, 0, 0, 0])]
  items := [⟨9, .tariff 2 4 1, 3, true⟩], outcomes := [(9, true, false)]
  repairs := [(1, { idx := 2, ranges := [(0, 1)], parked := some 0 })] }
theorem wit_tariff_load : let c := witIn [1, 2, 3, 4]
    taken [.tariffLoad c 4 4 3, .tariffLoad c 0xFF 4 3, .tariffLoad c 5 4 3, .tariffLoad c 5 0 3] (witRec {}) = true ∧
    sizeForm c (3 : U32).toNat = true ∧ (tariff (witRec {}) (4 : Byte).toNat).ver < (4 : U32).toNat ∧
    (4 : U32).toNat ≤ (tariff (witRec {}) 4).ver + 1 ∧ (witRec {}).tai.sweep.contains (4 : Byte).toNat = true ∧
    (witRec {}).tai.sweep.contains (5 : Byte).toNat = false := by decide +kernel
theorem wit_tariff_assign : let c := witIn [2, 0, 0, 0]
    taken [.tariffAssign c 4 1, .recordRead (witOut 16) 2 1, .recordRead (witOut 16) 0x100000 1] (witRec {}) = true ∧
    taken [.tariffAssign c 4 1] { witRec {} with led := {} } = true ∧ taken [.tariffAssign witCtx 4 0] (witRec {}) = true ∧
    c.xlen = 4 * (1 : U16).toNat ∧ anyFree (witRec {}) (xinWords c (1 : U16).toNat) = false ∧
    allIdx (xinWords c (1 : U16).toNat) = true ∧ anyFree State.reset (xinWords c (1 : U16).toNat) = true ∧
    (witOut 16).xlen = 16 * (1 : U32).toNat := by decide +kernel
theorem wit_confirm : (witRec { tslot := 4, tunconf := true }).tai.confirms = (2, [1, 0, 0, 0, 3, 0, 0, 0]) :: [] ∧
    halted (witRec {}) .tai 9 = false ∧ halted { State.reset with sec := { frozen := 0x200 } } .tai 9 = true ∧
    (dl (witRec { tslot := 4, tunconf := true }) 2).tslot ≠ 0xFF ∧ ofLe (slice [1, 0, 0, 0, 3, 0, 0, 0] 4 4) = 3 ∧
    (tariff (witRec { tslot := 4 }) 4).ver = 3 ∧ (tariff (witRec { tslot := 5 }) 5).ver ≠ 3 ∧ (dl (witRec { tslot := 5 }) 2).tslot = 5 ∧
    (entry (witRec {}) (2 : Idx).toNat).state ≠ .free ∧ (entry State.reset (2 : Idx).toNat).state = .free := by decide
theorem wit_outcome : let s := witRec { tslot := 4, tunconf := true }
    s.tai.items.find? (fun it => it.num == 9) = some ⟨9, .tariff 2 4 1, 3, true⟩ ∧ s.tai.outcomes = (9, true, false) :: [] ∧
    halted s .tai 9 = false ∧ halted { s with elapsed := 100000 * tickS } .tai 9 = false ∧ s.tai.bursts = [] ∧ (dl s 2).tslot = 4 ∧ 0 < nseg (tariff s 4) ∧ (repair s (1 : U16).toNat).parked = some 0 ∧
    (repair s (1 : U16).toNat).ranges ≠ [] ∧ passed s 0 (paramN s .tailrace 7 0 * tickS) = false ∧
    passed { s with elapsed := 100000 * tickS } 0 (paramN s .tailrace 7 0 * tickS) = true := by decide +kernel

/-! campaigns -/
def witCamp (v : Camp) : State := { witTail { recs := [(2, { cmemb := 8 })], camps := [(3, v)] } with
  brk := { role := .active, hold := true, groups := 0xF, level := 1 }
  ing := { State.reset.ing with reserves := [(2, { val := 5, ceil := 9 })] } }
theorem wit_camp_load : let c := witIn [1, 2, 3, 4]
    let u := witCamp { st := .suspended, size := 3 }
    taken [.campaignLoad c 3 1 3, .campaignLoad c 4 1 3] (witCamp {}) = true ∧ taken [.campaignLoad witCtx 3 1 0] (witCamp {}) = true ∧
    taken [.campaignReload c 3 3, .campaignReload c 3 4] u = true ∧
    taken [.campaignReload c 3 3] { u with saf := { safe := true } } = true ∧ sizeForm witCtx (0 : U32).toNat = true ∧
    sizeForm c (3 : U32).toNat = true ∧ sizeForm c (4 : U32).toNat = true ∧ (camp (witCamp {}) (3 : Byte).toNat).st = .idle ∧
    (camp u (3 : Byte).toNat).st = .suspended ∧ (3 : U32).toNat = (camp u (3 : Byte).toNat).size ∧
    (4 : U32).toNat ≠ (camp u (3 : Byte).toNat).size := by decide +kernel
theorem wit_camp_reload (l : List Byte) : (camp (witCamp { st := .suspended, size := 3, digest := Config.sha256 l }) 3).digest = Config.sha256 l := rfl
theorem wit_reload_states : let v : Camp := { st := .suspended, prior := .activate }
    (camp (witCamp v) (3 : Byte).toNat).prior = .activate ∧ safetyFault { witCamp v with saf := { safe := true } } = true ∧
    safetyFault (witCamp v) = false ∧ members (witCamp v) (3 : Byte).toNat ≠ [] ∧ members (witTail { camps := [(3, v)] }) 3 = [] ∧
    ({ v with prior := .multicast } : Camp).prior = .multicast ∧ paths (witCamp v) ≠ [] ∧ ({ v with prior := .loaded } : Camp).prior ≠ .activate ∧
    param { witCamp v with cfg := [(7 * 2 ^ 32 + 8 * 2 ^ 16, 0)] } .tailrace 8 0 = 0 := by decide
theorem wit_camp_target : let c := witIn [2, 0, 0, 0]
    let s := witCamp { st := .loaded }
    taken [.campaignTarget c 3 0 0 1, .campaignTarget c 3 1 0 1, .campaignTarget witCtx 3 2 1 0, .campaignTarget witCtx 3 3 1 0,
      .campaignTarget witCtx 3 4 1 0, .campaignTarget witCtx 3 2 3 0] s = true ∧
    taken [.campaignTarget c 3 0 0 1] { s with led := {} } = true ∧ taken [.campaignTarget c 3 0 0 1] (witCamp {}) = true ∧
    (camp s (3 : Byte).toNat).st = .loaded ∧ (camp (witCamp {}) (3 : Byte).toNat).st ≠ .loaded ∧
    c.xlen = (if (1 : Byte).toNat < 2 then 4 * (1 : U16).toNat else 0) ∧ anyFree (witCamp {}) (xinWords c (1 : U16).toNat) = false ∧
    allIdx (xinWords c (1 : U16).toNat) = true ∧ allIdx [2 ^ 20] = false ∧ (entry (witCamp {}) 2).kind.toNat = (1 : Byte).toNat ∧
    witCtx.xlen = (if (2 : Byte).toNat < 2 then 4 * (1 : U16).toNat else 0) := by decide +kernel
theorem wit_camp_life : taken [.campaignStart witCtx 3 5, .campaignStart witCtx 3 0, .campaignAbort witCtx 3] (witCamp { st := .loaded }) = true ∧
    taken [.campaignActivate witCtx 3] (witCamp { st := .repair }) = true ∧
    taken [.campaignActivate witCtx 3] { witCamp { st := .repair } with saf := { safe := true } } = true ∧
    taken [.campaignRelease witCtx 3, .campaignAbort witCtx 3] (witCamp { st := .closed }) = true ∧ taken [.campaignRelease witCtx 3] (witCamp {}) = true ∧
    members (witCamp { st := .loaded }) (3 : Byte).toNat ≠ [] ∧ members (witCamp {}) 4 = [] ∧
    nowS (witCamp { st := .loaded }) < (5 : U48).toNat ∧ (0 : U48).toNat ≤ nowS (witCamp {}) ∧ safetyFault (witCamp { st := .repair }) = false ∧
    (camp (witCamp { st := .repair }) 3).st = .repair ∧ taiHeld (witCamp {}) = false ∧ taiHeld { witCamp {} with brk := {} } = true ∧
    (camp (witCamp { st := .closed }) 3).st = .closed ∧ (camp (witCamp { st := .aborted }) 3).st = .aborted := by decide +kernel
theorem wit_camp_timers : let s := { witCamp { st := .announce } with elapsed := 5000000 * tickS }
    halted s .tai 9 = false ∧ halted (witCamp {}) .tai 9 = false ∧
    passed (witCamp {}) 0 (paramN (witCamp {}) .tailrace 5 0 * tickS) = false ∧ passed s 0 (paramN s .tailrace 5 0 * tickS) = true ∧
    paths s ≠ [] ∧ (camp s (3 : Fin 16).val).st = .announce ∧ (camp s 3).deadline ≤ nowS s ∧
    passed s 0 (paramN s .tailrace 6 0 * tickS) = true ∧ passed (witCamp {}) 0 (paramN (witCamp {}) .tailrace 6 0 * tickS) = false ∧
    nowS (witCamp {}) < ({ deadline := 9 } : Camp).deadline := by decide
theorem wit_frag : let s := witCamp { st := .multicast, pass := 1, blocks := 2 }
    halted s .tai 9 = false ∧ pathReady (3 : Fin 13).val s = true ∧ nextCamp (3 : Fin 13).val s = some 3 ∧ (reserve s 2).val < (reserve s 2).ceil ∧
    (reserve s 2).val < 0xFFFFF000 ∧ pathReady 3 { s with brk := {} } = false := by decide

/-! setpoints -/
def witBody : List Byte := leBytes 4 5 ++ [0, 0, 0, 0] ++ zeros 4 ++ leBytes 4 0 ++ leBytes 4 100 ++ zeros 4
def witSp (l : Tab (Option SpEntry)) (r : DlRec) : State := { witTail { recs := [(2, r)], sps := l,
                                                                         confirms := [(2, [3, 0, 0, 0, 5, 0, 0, 0])] } with
  sec := { devKeys := [(3, zeros 16)] } }
theorem wit_setpoint : let s := witSp [] {}
    taken [.setpoint witCtx 2 witBody .equal, .setpoint witCtx 3 witBody .equal, .setpoint witCtx 2 (List.replicate 24 255) .equal,
      .setpoint witCtx 2 witBody .transient, .setpoint witCtx 2 witBody .lasting] s = true ∧
    taken [.setpoint witCtx 2 witBody .equal] { s with sec := {} } = true ∧
    taken [.setpoint witCtx 2 witBody .transient] (witSp [] { dseq := 0xFFFFEFFF }) = true ∧
    devKey s 3 ≠ [] ∧ spEnabled s = true ∧ (entry s (2 : Idx).toNat).state ≠ .free ∧
    (spForm witBody && spChecks s.tai.limA (2 : Idx).toNat witBody s) = true ∧
    (spForm witBody && spChecks s.tai.limB (2 : Idx).toNat witBody s) = true ∧ (dl s (2 : Idx).toNat).dseqEnd = false ∧
    spPlace (2 : Idx).toNat s = some 0 ∧ (entry s (3 : Idx).toNat).state = .free ∧ spForm (List.replicate 24 255) = false ∧ devKey State.reset 3 = [] ∧
    (dl (witSp [] { dseqEnd := true }) (2 : Idx).toNat).dseqEnd = true ∧ recurs 2 s = false ∧
    (dl s 2).dseq + 1 < 0xFFFFF000 ∧ 0xFFFFF000 ≤ (dl (witSp [] { dseq := 0xFFFFEFFF }) 2).dseq + 1 ∧
    recurs 2 { s with saf := { seen := [(2, 1)] } } = true := by decide +kernel
/-- A repeat that is due with the comparator in its way: the index is reached through a gateway and nothing holds sending. -/
theorem wit_setpoint_lasting : let s := { witSp [] { gwValid := true, gwId := 7 } with
      led := { entries := [(2, { state := .present, kind := 1, path := 3 })] }, brk := { role := .active, hold := true, groups := 0xF, level := 1 } }
    (∃ g, route s (2 : Idx).toNat = .gw g) ∧ taiHeld s = false ∧ noUnicast s (2 : Idx).toNat = false := ⟨⟨7, rfl⟩, rfl, rfl⟩
theorem wit_setpoint_ends : let e : SpEntry := { idx := 2, seq := 5, untilS := 0, body := witBody }
    let s := { witSp [(0, some e)] { spx := 0 } with elapsed := 1000000 * tickS }
    taken [.setpointWithdraw witCtx 2] s = true ∧ taken [.setpointWithdraw witCtx 2] (witSp [] {}) = true ∧ halted s .tai 9 = false ∧
    (dl s (2 : Idx).toNat).spx ≠ 0xFFFF ∧ tget none s.tai.sps (dl s (2 : Idx).toNat).spx = some e ∧ e.idx = (2 : Idx).toNat ∧
    secsTo s e.untilS ≤ 0 ∧ 0 < secsTo s 2000000 ∧ passed s e.sentAt (paramN s .tailrace 10 0 * tickS) = true ∧
    passed (witSp [] {}) 0 (paramN s .tailrace 10 0 * tickS) = false ∧ s.tai.confirms = (2, [3, 0, 0, 0, 5, 0, 0, 0]) :: [] ∧
    e.seq = ofLe (slice [3, 0, 0, 0, 5, 0, 0, 0] 4 4) ∧ (dl (witSp [] {}) (2 : Idx).toNat).spx = 0xFFFF := by
  decide +kernel

/-! flume_commands -/
def witFlume (f : FluState) : State := { State.reset with
  dev := { ready := true }, brk := { role := .active, hold := true, groups := 0xF, level := 1 }, flu := f
  led := { nodes := [(nodeKey 4 1, { active := true, defined := true })] } }
def witChans : FluState := { chans := [(0, { role := 1, scale := 5 }), (1, { role := 2, scale := 5 })], pts := [(2, { elems := [⟨1, 0, 1, false⟩] })] }
def witCal : List Byte := let b := leBytes 4 0x40000000 ++ zeros 8
  b ++ leBytes 4 (crc32 b)
theorem wit_channel_config : taken [.channelConfig witCtx 0 1 1 5, .channelConfig witCtx 11 2 0 5, .channelConfig witCtx 0 0 0 5,
      .channelConfig witCtx 12 1 0 5, .dcBlocker witCtx 0 2 1 5, .dcBlocker witCtx 0 2 0 5, .dcBlocker witCtx 0 2 1 0x00800000,
      .bankSwap witCtx 1, .bankSwap witCtx 4096, .bankSwap witCtx 0, .decimReset witCtx] (witFlume witChans) = true ∧
    taken [.channelConfig witCtx 3 1 0 5] (witFlume { chans := [(3, { calBad := true })] }) = true ∧
    taken [.bankSwap witCtx 32] (witFlume { fade := some (32, 0) }) = true ∧
    taken [.decimReset witCtx] (witFlume { resetDue := some 9 }) = true ∧
    taken [.channelConfig witCtx 0 1 1 5] { witFlume {} with brk := {} } = true ∧ modClk (witFlume witChans) = true ∧
    modClk { witFlume {} with brk := {} } = false ∧
    (fluCh (witFlume {}) (11 : Byte).toNat).fault = 0 ∧ (fluCh (witFlume { chans := [(3, { calBad := true })] }) (3 : Byte).toNat).calBad = true ∧
    usesCh (tget {} witChans.pts 2) 0 = true ∧ usesCh (tget {} witChans.pts 2) 7 = false ∧ -(2 ^ 23) ≤ sgn32 (5 : U32).toNat ∧
    sgn32 (5 : U32).toNat < 2 ^ 23 ∧ 2 ^ 23 ≤ sgn32 (0x00800000 : U32).toNat ∧ sgn32 (0x80000000 : U32).toNat < -(2 ^ 23) := by decide +kernel
theorem wit_reset_due : let s := witFlume { witChans with resetDue := some 1, fade := some (32, 0) }
    s.pending = [] ∧ s.flu.resetDue = some 1 ∧ 1 ≤ s.elapsed + 1 ∧ modClk s = true ∧ dark s .flu = false ∧ s.flu.fade.isSome = true ∧
    s.elapsed + 1 < 50 ∧ modClk { s with brk := {} } = false ∧ (witFlume {}).flu.resetDue = none := by decide
/-- The sum of 124 zero bytes and the word 0x00400000, in pieces of 16 bytes. -/
theorem wit_coef_crc : crc32 (zeros 124 ++ leBytes 4 4194304) = 0x32D1B598 := by
  let run := fun (c : BitVec 32) (l : List Byte) => l.foldl (fun c b => (List.range 8).foldl
    (fun (c : BitVec 32) _ => if c.getLsbD 0 then (c >>> 1) ^^^ 0xEDB88320#32 else c >>> 1) (c ^^^ b.zeroExtend 32)) c
  have cut : ∀ c a b, run c (a ++ b) = run (run c a) b := fun c a b => List.foldl_append
  have e : zeros 124 ++ leBytes 4 4194304 = zeros 16 ++ (zeros 16 ++ (zeros 16 ++ (zeros 16 ++ (zeros 16 ++ (zeros 16 ++ (zeros 16 ++
    (zeros 12 ++ leBytes 4 4194304))))))) := by decide +kernel
  show (~~~ run 0xFFFFFFFF#32 _).toNat = _
  rw [e, cut, cut, cut, cut, cut, cut, cut]
  rw [show run 0xFFFFFFFF#32 (zeros 16) = 0x1344B4AA#32 from by decide +kernel]
  rw [show run 0x1344B4AA#32 (zeros 16) = 0xE6F5AA52#32 from by decide +kernel]
  rw [show run 0xE6F5AA52#32 (zeros 16) = 0x0D774C6A#32 from by decide +kernel]
  rw [show run 0x0D774C6A#32 (zeros 16) = 0x8A729CC9#32 from by decide +kernel]
  rw [show run 0x8A729CC9#32 (zeros 16) = 0x71DCE719#32 from by decide +kernel]
  rw [show run 0x71DCE719#32 (zeros 16) = 0x450B9A51#32 from by decide +kernel]
  rw [show run 0x450B9A51#32 (zeros 16) = 0xE4415242#32 from by decide +kernel]
  rw [show run 0xE4415242#32 (zeros 12 ++ leBytes 4 4194304) = 0xCD2E4A67#32 from by decide +kernel]
  rfl
/-- A good table taken by the inactive bank, refused by the active one, busy while a fade runs, and bad tables. -/
theorem wit_coef_load : let b := (zeros 124) ++ leBytes 4 4194304
    let c : Ctx := { witCtx with xlen := 128, xin := b }
    let crc : U32 := 0x32D1B598
    let h := (List.range 32).map (fun k => sgn32 (ofLe (slice (c.xin.take 128) (4 * k) 4)))
    taken [.coefLoad c 1 crc, .coefLoad c 0 crc, .coefLoad c 2 crc, .coefLoad c 1 (crc + 1)] (witFlume witChans) = true ∧
    taken [.coefLoad c 0 crc, .coefLoad c 0 (crc + 1)] (witFlume { fade := some (32, 0) }) = true ∧
    c.xlen = 128 ∧ (witFlume witChans).flu.fade = none ∧ (witFlume witChans).flu.bank = false ∧ crc.toNat = 0x32D1B598 ∧ crc + 1 ≠ crc ∧ ((1 : Byte).toNat = 1) ≠ (witFlume witChans).flu.bank ∧
    ((0 : Byte).toNat = 1) = (witFlume witChans).flu.bank ∧ c.xin.take 128 = b ∧ (∀ v ∈ h, -(2 ^ 23) ≤ v ∧ v < 2 ^ 23) ∧
    (2 * (h.take 31).sum + h.getD 31 0 - 2 ^ 22).natAbs ≤ 2 ^ 14 := by decide +kernel
theorem wit_cal : taken [.factoryCal witCtx 0 witCal, .factoryCal witCtx 12 witCal, .factoryCal witCtx 0 (zeros 16), .userCal witCtx 0 witCal,
      .userCal witCtx 0 (zeros 16)] (witFlume witChans) = true ∧
    taken [.factoryCal witCtx 0 witCal] (witFlume { chans := [(0, { otp := some {} })] }) = true ∧
    taken [.factoryCal witCtx 0 witCal] { witFlume witChans with sec := { lc := 2 } } = true ∧
    taken [.userCal witCtx 0 witCal] (witFlume { chans := [(0, { staged := [(0, {}), (1, {})] })] }) = true ∧
    calForm witCal = true ∧ calForm (zeros 16) = false ∧ lcIn (witFlume witChans) [0, 1] = true ∧ (fluCh (witFlume witChans) (0 : Byte).toNat).otp = none ∧
    3 * 2 ^ 30 ≤ 4 * (calOf witCal).gain ∧ 4 * (calOf witCal).gain ≤ 5 * 2 ^ 30 ∧
    (((fluCh (witFlume witChans) (0 : Byte).toNat).otp.getD {}).tau + (calOf witCal).tau).natAbs ≤ 32767 ∧
    (((fluCh (witFlume { chans := [(0, { otp := some { tau := 32768 } })] }) 0).otp.getD {}).tau + (calOf witCal).tau).natAbs > 32767 ∧
    lcIn { State.reset with sec := { lc := 2 } } [0, 1] = false := by
  decide +kernel
/-- A point defined with and without an anchor, deleted, and refused for its elements, its level, its node and its neighbour's anchor. -/
theorem wit_point : let l : List U32 := [0x00010001, 0, 0]
    taken [.meteringPoint witCtx 7 1 0 4 1 l, .meteringPoint witCtx 7 1 1 0 0 l, .meteringPoint witCtx 7 0 0 0 0 [0, 0, 0],
      .meteringPoint witCtx 7 1 0 0 0 [0, 0, 0], .meteringPoint witCtx 7 1 0 4 2 l, .meteringPoint witCtx 7 1 0 3 1 l] (witFlume witChans) = true ∧
    taken [.meteringPoint witCtx 7 1 0 4 1 l] (witFlume { pts := [(3, { anchor := some (4, 1) })] }) = true ∧
    taken [.flumeIntervals (witOut 64) 2 0 1, .flumeIntervals (witOut 64) 7 15 1, .flumeIntervals (witOut 64) 7 16 1] (witFlume witChans) = true ∧
    (witOut 64).xlen = 64 * (1 : Byte).toNat ∧
    elemsOk (witFlume witChans) (1 : Byte).toNat (l.map (·.toNat)) = true ∧ elemsOk (witFlume witChans) 1 [0, 0, 0] = false ∧
    elemsOk (witFlume witChans) (0 : Byte).toNat (([0, 0, 0] : List U32).map (·.toNat)) = true ∧
    (1 : U32).toNat < levelCount (4 : Byte).toNat ∧ (node (witFlume witChans) (nodeKey (4 : Byte).toNat (1 : U32).toNat)).active = true ∧
    anchorTaken (witFlume witChans) (7 : Byte).toNat (4 : Byte).toNat (1 : U32).toNat = false ∧
    anchorTaken (witFlume { pts := [(3, { anchor := some (4, 1) })] }) 7 4 1 = true ∧
    (node (witFlume witChans) (nodeKey 4 2)).active = false := by decide +kernel

/-! flume_measurement -/
/-- The bits 1, 0, 1, 0 … of a modulator: no two in a row are equal. -/
def witBits : BitVec 4096 := BitVec.ofNat 4096 ((2 ^ 4096 - 1) / 3)
theorem wit_bits_at (n : Nat) (h : n < 4096) : witBits.getLsbD n = decide (n % 2 = 0) := by
  have k : ∀ a < 64, ∀ b < 64, witBits.getLsbD (64 * a + b) = decide ((64 * a + b) % 2 = 0) := by decide +kernel
  have e : 64 * (n / 64) + n % 64 = n := Nat.div_add_mod n 64
  have := k (n / 64) (by omega) (n % 64) (by omega)
  rwa [e] at this
theorem wit_runs_short : runsShort witBits = true := by
  have k : ∀ m ≤ 4096, (List.range m).foldl (fun (a : Nat × Bool × Bool) n =>
      let b := witBits.getLsbD n
      let run := if 0 < n ∧ b = a.2.1 then a.1 + 1 else 1
      (run, b, a.2.2 && decide (run < 256))) (0, false, true) = (if m = 0 then 0 else 1, decide (m % 2 = 1), true) := by
    intro m
    induction m with
    | zero => intro _; rfl
    | succ m ih =>
      intro h
      rw [List.range_succ, List.foldl_append, ih (by omega)]
      simp only [List.foldl_cons, List.foldl_nil, wit_bits_at m (by omega)]
      have : m % 2 = 0 ∨ m % 2 = 1 := by omega
      rcases this with p | p
      · simp [p, show (m + 1) % 2 = 1 by omega]
      · simp [p, show (m + 1) % 2 = 0 by omega]
  unfold runsShort
  rw [k 4096 (Nat.le_refl _)]
/-- A stuck channel at each cause, its end by bits without a long run, by the clock and by the calibration, and bits that end nothing. -/
theorem wit_stuck : let s := { witFlume { chans := [(0, { role := 1, fault := 1, stuck := true }), (1, { role := 1, fault := 2, stuck := true }),
        (2, { role := 1, fault := 2, calBad := true }), (3, { role := 1, fault := 3 }), (4, { role := 1 })] } with elapsed := 1000000 }
    dark s .flu = false ∧ modClk s = true ∧ (∀ k < 5, (fluCh s k).role ≠ 0) ∧ (fluCh s (4 : Fin 12).val).fault = 0 ∧
    passed s (fluCh s 0).faultAt tickMs = true ∧ passed (witFlume {}) 0 tickMs = false ∧
    (fluCh s 1).stuck = true ∧ (fluCh s 1).fault ≠ 1 ∧ (fluCh s 2).stuck = false ∧ (fluCh s 2).calBad = true ∧
    (fluCh s 3).fault = 3 ∧ (fluCh s 3).calBad = false ∧ (fluCh s 0).calBad = false ∧
    modClk { witFlume witChans with brk := {} } = false ∧ param (witFlume witChans) .flume 0 0 ≠ 0 ∧
    param { witFlume {} with cfg := [(8 * 2 ^ 32, 0)] } .flume 0 0 = 0 := by decide +kernel
theorem wit_fade : let s := { witFlume { fade := some (32, 0) } with elapsed := tickS }
    s.flu.fade = some (32, 0) ∧ passed s 0 (32 * tickP32) = true ∧ passed (witFlume {}) 0 (32 * tickP32) = false ∧ dark s .flu = false := by decide


/-- A second that has ended, one already counted, and one behind an interval still to close. -/
theorem wit_second : let s := { witFlume witChans with elapsed := 1000 * tickS, fan := { State.reset.fan with st := .sync } }
    let u := { s with elapsed := 3 * tickS }
    dark s .flu = false ∧ u.flu.secAt ≠ secDone u ∧ secDone u ≤ endOf u u.flu.interval ∧ s.fan.st ≠ .unset ∧
    endOf s s.flu.interval < secDone s ∧ (witFlume {}).flu.secAt = secDone (witFlume {}) ∧ State.reset.fan.st = .unset ∧
    (tget {} u.flu.pts 2).elems ≠ [] ∧ (tget {} u.flu.pts 3).elems = [] := by decide +kernel


def witRef (w : List (Nat × Nat × Option Int)) : FluState := { witChans with
  pts := [(2, { elems := [⟨1, 0, 1, false⟩], ref := true })], chans := [(0, { role := 1, scale := 5, staged := [(1, {}), (9, {})], w8 := w })] }


/-- A rising crossing of phase 1's reference channel, a falling one, and none. -/
theorem wit_crossing : let s := fun (a b : Int) => witFlume (witRef [(2, 2000, some b), (1, 1000, some a)])
    let x : Int := 4194304
    dark (s x x) .flu = false ∧ modClk (s x x) = true ∧
    (newCrossing (feed [] (s (-x) x)) ((0 : Fin 3).val + 1)).map (·.1) = some true ∧
    (newCrossing (feed [] (s x (-x))) ((0 : Fin 3).val + 1)).map (·.1) = some false ∧
    newCrossing (feed [] (s x (x + 1))) ((0 : Fin 3).val + 1) = none ∧ newCrossing (feed [] (s (-x) x)) ((2 : Fin 3).val + 1) = none := by decide +kernel


theorem wit_interval_close : let s := { witFlume (witRef []) with elapsed := 1000 * tickS, fan := { State.reset.fan with st := .sync } }
    s.fan.st ≠ .unset ∧ dark s .flu = false ∧ 0 < closable s ∧ closable (witFlume (witRef [])) = 0 ∧
    (fluCh s (0 : Fin 12).val).role ≠ 0 ∧ (fluCh s (0 : Fin 12).val).fault = 0 ∧ (tget {} s.flu.pts 2).elems ≠ [] ∧
    (fluCh s 0).staged = [(1, {}), (9, {})] ∧ 1 ≤ s.flu.interval + closable s ∧ s.flu.interval + closable s < 9 ∧
    (fluCh { s with flu := { s.flu with chans := [(3, { staged := [(1, {})] })] } } 3).staged = [(1, {})] := by decide +kernel

/-! fantail_time -/
def witFan (f : FanState) : State := { State.reset with dev := { ready := true }, fan := f }
theorem wit_time_set : taken [.timeSet witCtx 5 0, .timeSet witCtx 0 1000000000, .timeSet witCtx (2 ^ 48) 0] (witFan {}) = true ∧
    taken [.timeSet witCtx 0 0, .timeSet witCtx 5 0] (witFan { st := .sync }) = true ∧ (0 : U32).toNat ≤ 999999999 ∧ (5 : U64).toNat < 2 ^ 48 ∧
    (witFan {}).fan.st = .unset ∧ (witFan { st := .sync }).fan.st ≠ .unset ∧
    ((((0 : U64).toNat * 1000000000 + (0 : U32).toNat : Nat) - (nowNs (witFan { st := .sync }) : Int)).natAbs ≤
      paramN (witFan { st := .sync }) .fantail 1 0 * 1000) ∧
    (paramN (witFan { st := .sync }) .fantail 1 0 * 1000 <
      (((5 : U64).toNat * 1000000000 + (0 : U32).toNat : Nat) - (nowNs (witFan { st := .sync }) : Int)).natAbs) := by decide +kernel
theorem wit_time_force : taken [.timeForce witCtx 0 0 5 0, .timeForce witCtx 1 1 0 0, .timeForce witCtx 2 0 0 0, .timeForce witCtx 1 4 0 0,
      .timeForce witCtx 0 0 (2 ^ 48) 0, .utcOffset witCtx 38 1, .utcOffset witCtx 38 3] (witFan {}) = true ∧
    taken [.timeForce witCtx 1 1 0 0, .timeForce witCtx 1 1 5 0] (witFan { srcErr := [(1, some 7)] }) = true ∧
    taken [.utcOffset witCtx 38 1] (witFan { fromPtp := true }) = true ∧ tget none (witFan {}).fan.srcErr (1 : Byte).toNat = none ∧
    tget none (witFan { srcErr := [(1, some 7)] }).fan.srcErr (1 : Byte).toNat = some 7 ∧ 0 ≤ nowNs (witFan {}) + (7 : Int) ∧
    (witFan {}).fan.fromPtp = false ∧ (2 : Byte).toNat < 3 := by decide +kernel
theorem wit_fan_timers : let s := { witFan { st := .sync, sel := 1, ppsUsable := true, ppsLast := some 0, leap61 := true, leapAt := 900, freq := 5
                                             ptpUsable := true, upAt := [(0, 1)] } with elapsed := 1000 * tickS }
    dark s .fan = false ∧ s.fan.leapAt + 1 ≤ utcNow s ∧ s.pwr.rtcValid = false ∧ srcUsable s 0 = true ∧ tget 0 s.fan.upAt 0 ≠ 0 ∧
    passed s (tget 0 s.fan.upAt 0 - 1) (paramN s .fantail 6 0 * tickS) = true ∧ passed s (ppsGoodAt s) (3 * tickS + 40001) = true ∧
    passed (witFan { ppsUsable := true }) (ppsGoodAt (witFan { ppsUsable := true })) (3 * tickS + 40001) = false ∧ s.van.up ≠ .track := by
  decide +kernel

theorem wit_ptp_lost : let m : Master := { lastAt := 0, period := 5, before := some 0 }
    let s := { witFan { ptpUsable := true, masters := [m], exchAt := some 0, syncPeriod := 9 } with elapsed := 1000 }
    let u := witFan { ptpUsable := true, masters := [m], exchAt := some 0, syncPeriod := 9 }
    s.fan.masters.all (annGone s) = true ∧ s.fan.exchAt = some 0 ∧ passed s 0 (3 * s.fan.syncPeriod + 1) = true ∧ dark s .fan = false ∧
    u.fan.masters.any (fun m => !annGone u m && (masterFit m || u.fan.master == some m.port)) = true ∧ passed u 0 (3 * u.fan.syncPeriod + 1) = false ∧
    (witFan { sel := 2, st := .sync }).fan.sel = 2 ∧ (witFan { sel := 2 }).van.up ≠ .track ∧ (witFan {}).fan.leap59 = false := by decide

/-! fantail_messages -/
def witSync : List Byte := zeros 12 ++ [0x88, 0xF7] ++ zeros 46
def witPtp (two : Bool) : PtpOut := ⟨(1, 7), 0, two, 9, witSync⟩
theorem wit_ptp_frames : let c := witIn witSync
    taken [.ptpTransmit c 0 0 9 60, .ptpTransmit c 2 0 9 60, .ptpTransmit (witIn (zeros 60)) 0 0 9 60] (witFan {}) = true ∧
    taken [.ptpTransmit c 0 0 9 60] { witFan {} with dev := { ready := true, unclocked := [.eth] } } = true ∧
    c.xlen = ((60 : U16).toNat + 3) / 4 * 4 ∧ ptpEvent (c.xin.take (60 : U16).toNat) = some (14, 0) ∧
    ptpEvent (zeros 60) = none ∧ (witFan { ptpOut := [witPtp true] }).fan.ptpOut.find? (fun p => p.port == (0 : Fin 2).val) = some (witPtp true) ∧
    (witFan { ptpOut := [witPtp false] }).fan.ptpOut.find? (fun p => p.port == (0 : Fin 2).val) = some (witPtp false) ∧
    (queue (witFan {}) 3).length < qcap 3 ∧ dark (witFan {}) .fan = false ∧ (witPtp true).twoStep = true ∧ ethUp (witFan {}) = true ∧
    ethUp { witFan {} with dev := { unclocked := [.eth] } } = false ∧ (0 : Byte).toNat ≤ 1 ∧ (0 : Nat) ≠ 2 := by decide +kernel

/-- Whatever the port's own address, an event message not addressed to it, and for the rest a frame of none. -/
theorem wit_forward : (∃ l, ownPtp (0 : Fin 2).val l = false ∧ ptpEvent l = some (14, 0)) ∧ ownPtp (0 : Fin 2).val [] = false ∧ ptpEvent [] = none := by
  refine ⟨?_, rfl, rfl⟩
  have a : ptpAny witSync = some 14 ∧ ptpAny (List.replicate 12 0xFF ++ witSync.drop 12) = some 14 := by decide
  have b : [3, 9, 10].contains (byteAt witSync 14 % 16) = false ∧
    [3, 9, 10].contains (byteAt (List.replicate 12 0xFF ++ witSync.drop 12) 14 % 16) = false := by decide
  by_cases h : zeros 6 = Config.ethMac 0
  · refine ⟨List.replicate 12 0xFF ++ witSync.drop 12, ?_, by decide⟩
    have : slice (List.replicate 12 0xFF ++ witSync.drop 12) 0 6 ≠ zeros 6 := by decide
    rw [h] at this
    simp only [ownPtp, a.2, b.2, Bool.false_and, Bool.or_false, decide_eq_false_iff_not]
    exact this
  · refine ⟨witSync, ?_, by decide⟩
    have : slice witSync 0 6 = zeros 6 := by decide
    simp only [ownPtp, a.1, b.1, Bool.false_and, Bool.or_false, decide_eq_false_iff_not, this]
    exact h
/-- A full queue of stamps, and a Sync over UDP and IPv4 with a checksum. -/
theorem wit_ptp_more : let u : List Byte := zeros 12 ++ [8, 0, 0x45] ++ zeros 8 ++ [17] ++ zeros 10 ++ [1, 63, 1, 63, 0, 52, 9, 9] ++ zeros 44
    qcap 3 ≤ (queue { State.reset with que := { q := [(3, List.replicate (qcap 3) { body := .bytes [], born := 0 })] } } 3).length ∧
    ptpEvent u = some (42, 1) ∧ slice u (42 - 8 + 6) 2 ≠ [0, 0] := by decide +kernel
theorem wit_ptp_messages : let s := witFan { master := some 4, syncSeq := some 3, t1 := some 1, t2 := some 2, dreq := some (3, 5) }
    let m : Master := { port := 4 }
    ptpHeard s (0 : Fin 2).val (0 : Byte).toNat (0 : Fin 3).val = true ∧ ptpHeard s (1 : Fin 2).val (0 : Byte).toNat (0 : Fin 3).val = false ∧
    (witFan {}).fan.masters = [] ∧ (witFan { masters := [m] }).fan.master = none ∧
    (witFan { masters := [m] }).elapsed ≤ m.lastAt + 4 * logTicks 0 ∧ s.fan.master = some 4 ∧
    s.fan.master ≠ some 5 ∧ s.fan.syncSeq = some (3 : U16).toNat ∧ s.fan.dreq = some ((3 : U16).toNat, 5) ∧ srcEnabled s 0 = true ∧
    passed { s with elapsed := 100 * tickS } 0 (logTicks (param s .fantail 10 0)) = true ∧ passed s 0 (logTicks (param s .fantail 10 0)) = false := by
  decide
theorem wit_pps : let s := { witFan { st := .sync, ppsLast := some 0, ppsRun := 2 } with elapsed := tickS }
    let w := fun n => { witFan { ppsOut := true, ppsRose := some 0, ppsWidth := 10 } with elapsed := n }
    let r := fun n => { witFan { st := .sync } with elapsed := n, cfg := [(9 * 2 ^ 32 + 12 * 2 ^ 16, 1)] }
    dark s .fan = false ∧ srcEnabled s 1 = true ∧ s.fan.st ≠ .unset ∧ s.fan.ppsLast = some 0 ∧ tickS - 40000 ≤ s.elapsed - 0 ∧
    s.elapsed - 0 ≤ tickS + 40000 ∧ tickS + 40000 < 2 * tickS - 0 ∧ (witFan { st := .sync }).fan.ppsLast = none ∧
    (w 0).fan.ppsRose = some 0 ∧ passed (w 9) 0 (w 9).fan.ppsWidth = false ∧ passed (w 10) 0 (w 10).fan.ppsWidth = true ∧
    param (r 0) .fantail 12 0 = 1 ∧ (r 0).fan.ppsRose = none ∧
    (nowFix (r 0) + 2 * 2 ^ 41) % (1000000000 * 2 ^ 41) ≤ 4 * 2 ^ 41 ∧ 4 * 2 ^ 41 < (nowFix (r 4) + 2 * 2 ^ 41) % (1000000000 * 2 ^ 41) := by
  decide +kernel

/-! granary_commands -/
def witGeo : Geom := { targets := 1, luns := 1, blocks := 4096, pages := 256 }
/-- A channel with block 69 open at its page 6, one unit in its page 5, and an anchor in block 2. -/
def witChan (st : ChSt) : Chan := {
  st := st, geom := witGeo, free := [70, 71], open_ := some (69, 6), spare := 9, spare0 := 9, band := [2], sysOpen := some (3, 1), sys := [3]
  pages := [(512, some { wseq := 3, body := .anchor { cap := 4 } }), (17669, some { lunit := 1, dseq := 1, body := .unit [1] })] }
def witGra (g : GraState) : State := { State.reset with
  dev := { ready := true }, brk := { role := .active, hold := true, groups := 0xF, level := 1 }, gra := g }
theorem wit_hmr : taken [.hmrSet witCtx 5 4096, .hmrSet witCtx 0 0, .hmrSet witCtx 1025 0, .hmrSet witCtx 5 1] (witGra {}) = true ∧
    taken [.hmrSet witCtx 5 4096, .hmrSet witCtx 0 0] (witGra { hmrUse := true }) = true ∧ (witGra {}).gra.hmrUse = false ∧ (witGra {}).gra.hmrEnded = false ∧
    (5 : U16).toNat ≤ 1024 ∧ (4096 : U64).toNat % 4096 = 0 ∧ (witGra { hmrUse := true }).gra.hmrUse = true ∧ (1 : U64).toNat % 4096 ≠ 0 ∧
    (tget none (witGra { hmrUse := true, dir := [(0, some 9)] }).gra.dir 0).isSome = true := by decide +kernel
/-- Reads inside the window, below it, off a unit and beyond its end, while mounting and without an archive. -/
theorem wit_archive_read : let c := witOut 16384
    let s := witGra { arc := witChan .ready, cap := 2, wp := 4, map := [(1, some (17669, 1))] }
    taken [.archiveRead c 49152 [], .archiveRead c 0 [], .archiveRead c 65536 [], .archiveRead c 40000 []] s = true ∧
    taken [.archiveRead c 0 [], .archiveRead c 1 []] (witGra { arc := witChan .mounting }) = true ∧ taken [.archiveRead c 0 []] (witGra {}) = true ∧
    c.xlen % 16384 = 0 ∧ s.gra.arc.st = .ready ∧ (s.gra.wp - s.gra.cap) * 16384 ≤ (49152 : U64).toNat ∧
    (49152 : U64).toNat % 16384 = 0 ∧ (49152 : U64).toNat < s.gra.wp * 16384 ∧ (tget none s.gra.map 1).bind (unitAt s.gra.arc 1) = some [1] ∧
    (tget none s.gra.map 0).bind (unitAt s.gra.arc 0) = none ∧ (0 : U64).toNat < (s.gra.wp - s.gra.cap) * 16384 ∧
    s.gra.wp * 16384 ≤ (65536 : U64).toNat ∧ (witGra { arc := witChan .mounting }).gra.arc.st = .mounting ∧
    (witGra {}).gra.arc.st = .absent := by decide +kernel
theorem wit_format : let k : U32 := 0x464D5424
    taken [.mediaStatus (witOut 64) 0, .mediaStatus (witOut 64) 2, .format witCtx 0 k, .format witCtx 0 5, .format witCtx 2 k]
      (witGra { arc := witChan .ready }) = true ∧
    taken [.format witCtx 0 k] (witGra { arc := witChan .mounting }) = true ∧ taken [.format witCtx 0 k] (witGra {}) = true ∧
    taken [.format witCtx 1 k] (witGra { chk := witChan .ready }) = true ∧ (witOut 64).xlen = 64 ∧
    (chan (witGra { arc := witChan .ready }) ((0 : Byte).toNat == 1)).st ≠ .absent ∧ grp (witGra {}) 3 = true ∧
    (chan (witGra { arc := witChan .mounting }) false).st = .mounting ∧ (chan (witGra { chk := witChan .gated }) true).st = .gated ∧
    (chan (witGra { chk := { witChan .mounting with format := some (1, 7) } }) true).format = some (1, 7) ∧ (5 : U32).toNat ≠ 0x464D5424 := by decide +kernel
/-- A mount that finds an anchor, in ARC and by the media of CHK, and mounts that find none. -/
theorem wit_mount :
    let scan := fun (ch : Bool) (media : List (Nat × Option RawPage)) (c : Chan) =>
      anchorScan (if ch then { takeMedia media c with band := bandGuess (takeMedia media c) } else c)
    halted (witGra {}) .gra 10 = false ∧ (witChan .mounting).format = none ∧
    scan false [] (witChan .mounting) = some (3, { cap := 4 }) ∧ scan true [] (witChan .mounting) = some (3, { cap := 4 }) ∧
    scan false [] { witChan .mounting with band := [] } = none ∧ scan true [] { st := .mounting } = none := by decide +kernel

/-! granary_media -/
def witArc (st : ChSt) (l : List OpenUnit) (o : Tab (Option OpenUnit)) : State := { witGra {
  arc := witChan st, cap := 5, ring := l, opens := o, map := [(1, some (17669, 1))] } with
  elapsed := 1000 * tickS, cfg := [(10 * 2 ^ 32 + 8 * 2 ^ 16, 2)] }
theorem wit_program : let s := witArc .ready [{}] []
    let c1 : Chan := { witChan .ready with open_ := some (69, 7) }
    halted s .gra 10 = false ∧ s.gra.arc.st = .ready ∧ nextPage false s.gra.arc = some (69 * 256 + 6, c1) ∧ s.gra.cap ≠ 0 ∧
    s.gra.ring = {} :: [] ∧ paramN s .granary 8 0 ≤ c1.free.length ∧ s.gra.journal.length + s.gra.gc.length < 999 ∧ c1.opened < 48 ∧
    s.gra.cache.length < s.gra.cacheMiB * 64 ∧ s.gra.hmrUse = false ∧ validUnits s 70 = [] ∧ blockOf s.gra.arc (69 * 256 + 6) = 69 ∧ validUnits s 69 ≠ [] ∧
    s.gra.arc.retired.contains 69 = false ∧ copySource { s with gra := { s.gra with arc := { s.gra.arc with free := [70, 71, 72, 73] } } } = none ∧
    (chan (witArc .failed [] []) false).st ≠ .ready ∧ (chan (witArc .failed [] []) false).st ≠ .readOnly := by decide +kernel
theorem wit_exhausted : let c : Chan := { witChan .ready with free := [], open_ := none, spare := 0, pages := [] }
    let s := { witArc .ready [{}] [] with gra := { (witArc .ready [{}] []).gra with arc := c, map := [] } }
    nextPage false s.gra.arc = none ∧ s.gra.ring ≠ [] ∧ s.gra.cap ≠ 0 ∧ s.gra.arc.spare = 0 ∧ gcAble s = false ∧ (witArc .ready [] []).gra.arc.spare ≠ 0 := by
  decide +kernel
theorem wit_copy : let c : Chan := { witChan .ready with rewrite := [69], open_ := some (80, 0) }
    let s := { witArc .ready [] [] with gra := { (witArc .ready [] []).gra with arc := c } }
    copySource s = some (69, true) ∧ s.gra.arc.band.contains 69 = false ∧ s.gra.arc.sys.contains 69 = false ∧
    (validUnits s 69).filter (fun e => !s.gra.gc.any (fun g => g.lunit == e.1)) = (1, 17669, 1) :: [] ∧
    (nextPage true s.gra.arc).map (·.1) = some (70 * 256) ∧ (nextPage true s.gra.arc).all (fun x => decide (x.2.opened < 48)) = true := by decide +kernel
theorem wit_system_page : let s := witGra { chk := witChan .ready }
    (chan s true).st = .ready ∧ tget none (chan s true).pages 512 = some { wseq := 3, body := .anchor { cap := 4 } } ∧
    blockOf (chan s true) 512 = 2 ∧ kindOf (.anchor { cap := 4 }) ≠ 0 ∧ kindOf (.anchor { cap := 4 }) ≠ 4 ∧ (chan s true).retired.contains 2 = false ∧
    (chan s true).pages.all (fun e => blockOf (chan s true) e.1 != 9) = true := by decide
/-- A checkpoint with its page of block 9 open, one whose last extent is that block, and one a loss of the claim has caught. -/
theorem wit_ckpt_fails : let r : CkptRun := { gen := 1, at_ := 0, cmd := none, blocks := [9], open_ := some (9, 3), sp := 7 }
    let s := { witGra { chk := witChan .ready } with brk := { run := some r }, snap := some {} }
    let u := { witGra { chk := witChan .gated } with cut := some (r, {}) }
    halted s .gra 10 = false ∧ s.gra.chk.st = .ready ∧ s.brk.run = some r ∧ s.snap = some {} ∧ r.done = false ∧ r.open_ = some (9, 3) ∧
    3 < pagesPer s.gra.chk ∧ s.gra.chk.retired.contains 9 = false ∧ ({ r with extents := [9 * 256] } : CkptRun).extents.getLast? = some (9 * 256) ∧
    blockOf s.gra.chk (9 * 256) = 9 ∧ u.gra.chk.st = .gated ∧ u.cut = some (r, {}) ∧ (witGra {}).brk.run = none ∧ (witGra {}).cut = none := by decide +kernel
theorem wit_erase : let s := witArc .ready [] []
    let fin := { s with gra := { s.gra with arc := { s.gra.arc with free := [70, 71, 90] } } }
    halted s .gra 10 = false ∧ (chan s false).st = .ready ∧ mayErase false 90 s = true ∧ mayErase false 70 s = false ∧ (chan s false).format = none ∧
    justErased false 5 s = false ∧ mayErase false 90 fin = false ∧ justErased false 90 fin = true ∧
    paramN s .granary 6 0 ≤ 40 ∧ ¬ paramN s .granary 6 0 ≤ 0 ∧ (chan s false).retired.contains 90 = false ∧
    tget 0 (chan s false).notReady (0 : Fin 8).val < 2 ∧ 2 ≤ tget 0 ({ witChan .ready with notReady := [(0, 2)] } : Chan).notReady (0 : Fin 8).val ∧
    (tget none (chan s false).pages (17669 : U32).toNat).isSome = true := by decide +kernel
theorem wit_patrol : let s := witArc .ready [] []
    (patrolPages false s).filter (fun p => decide ((chan s false).patrol ≤ p)) = 512 :: [17669] ∧
    passed s 0 (paramN s .granary 7 0 * 86400 * tickS) = false ∧
    passed { s with elapsed := 100000000 * tickS } 0 (paramN s .granary 7 0 * 86400 * tickS) = true ∧
    (patrolPages false s).filter (fun p => decide (20000 ≤ p)) = [] := by decide
theorem wit_arc_flush : let s := witArc .ready [] [(0, some {})]
    passed s s.gra.journalAt (paramN s .granary 0 0 * tickMs) = true ∧ passed (witGra {}) 0 (paramN (witGra {}) .granary 0 0 * tickMs) = false ∧
    (sysPage s.gra.arc).map (·.1) = some (3 * 256 + 1) ∧ s.gra.journalPages + 2 < 4096 ∧ s.gra.gc = [] ∧ s.gra.hmrUse = false ∧
    sysPage { s.gra.arc with sysOpen := none, sysFree := [], free := [] } = none ∧
    s.gra.opens = [(0, some {})] ∧ s.gra.ring = [] ∧ passed s ({} : OpenUnit).since (paramN s .granary 1 0 * tickMs) = true ∧
    passed s ({ since := 1000 * tickS } : OpenUnit).since (paramN s .granary 1 0 * tickMs) = false ∧ (witArc .failed [] []).gra.arc.st ≠ .ready ∧
    (nextPage false s.gra.arc).isSome = true ∧ s.gra.arc.failing = [] ∧ s.gra.cap ≠ 0 := by
  decide

/-! backup_power_rise -/
theorem wit_bkp : State.reset.pwr.bkp = false ∧ dark (witGra {}) .gra = false ∧ ({ State.reset with pwr := { bkp := true } } : State).pwr.bkp = true := by
  decide

/-! groups_gated_always -/
theorem wit_gated : Gated State.reset ∧ step { State.reset with pending := [.journalTimer] } = .next State.reset := ⟨fun _ => by decide, by rfl⟩

/-! reset_state -/
theorem wit_reset : State.reset.pending = [] := by decide

/-! ### Ill-formed commands, one for each check of `Instr.wf` -/

theorem test_wf_good : (Instr.status witCtx).wf = true := by decide
theorem test_wf_xlen_too_long : (Instr.status { witCtx with xlen := 2 ^ 23 + 4 }).wf = false := by decide
theorem test_wf_xlen_odd : (Instr.status { witCtx with xlen := 6 }).wf = false := by decide
theorem test_wf_xin_short : (Instr.status { witCtx with xlen := 8, xin := [1, 2, 3, 4] }).wf = false := by decide
theorem test_wf_no_entry : (Instr.weirConfig witCtx 0 []).wf = false := by decide
theorem test_wf_two_gets : (Instr.weirConfig witCtx 1 [{ pid := 6, scope := 0, value := 0 }, { pid := 6, scope := 1, value := 0 }]).wf = false := by
  decide
theorem test_wf_five_sets : (Instr.weirConfig witCtx 0 (List.replicate 5 { pid := 6, scope := 0, value := 0 })).wf = false := by decide
theorem test_wf_setpoint_body : (Instr.setpoint witCtx 2 (zeros 23) .equal).wf = false := by decide
theorem test_wf_calibrations : (Instr.factoryCal witCtx 0 (zeros 15)).wf = false ∧ (Instr.userCal witCtx 0 (zeros 17)).wf = false := by decide
theorem test_wf_point_elements : (Instr.meteringPoint witCtx 0 1 0 0 0 [0x00010001]).wf = false := by decide
theorem test_wf_nop_params : (Instr.nop witCtx (zeros 41)).wf = false := by decide
theorem test_wf_lock_header : (Instr.lock 0 1 (zeros 255)).wf = false := by decide +kernel
theorem test_wf_data_long : (Instr.data 0 1 0 (zeros 4081)).wf = false := by decide +kernel
theorem test_wf_token_long : (Instr.debugToken 0 1 1 (zeros 4081)).wf = false := by decide +kernel
theorem test_wf_enables : (Instr.hqTailWrite 0 0 16).wf = false ∧ (Instr.bqHeadWrite 0 0 255).wf = false ∧
    (Instr.registerWrite (.bar0 0x10 0 16)).wf = false ∧ (Instr.registerWrite (.bar4 0 0 16)).wf = false := by decide
theorem test_wf_enable_bit : (Instr.qpEnable 0 2).wf = false ∧ (Instr.qpDisable 0 1).wf = false := by decide
theorem test_wf_addresses : (Instr.rcRegisterRead .bar0 0x40005).wf = false ∧ (Instr.rcRegisterRead .bar0 0x1000000).wf = false ∧
    (Instr.rcRegisterRead .bar4 0x10000).wf = false ∧ (Instr.rcRegisterRead .config 0x1000).wf = false ∧
    (Instr.registerWrite (.bar0 0x12 0 15)).wf = false ∧ (Instr.registerWrite (.bar4 0x10000 0 15)).wf = false ∧
    (Instr.bar2Write 2).wf = false ∧ (Instr.bar2Write 0x4000000).wf = false := by decide
theorem test_wf_token_code : (Instr.rateTokenRefill 1024).wf = false := by decide
theorem test_wf_spi : (Instr.spiTransactionDone 0 (zeros 9)).wf = false := by decide
theorem test_wf_second : (Instr.flumeSecondEnd []).wf = false ∧ (Instr.flumeIntervalClose [] false []).wf = false := by decide
theorem test_wf_packets : (Instr.hopperFetch 0 [{ bytes := zeros 63, segs := [] }]).wf = false := by decide
theorem test_wf_assessments : (Instr.csmaComplete 0 [] 0 0).wf = false ∧ (Instr.csmaComplete 0 (List.replicate 6 (0, 0)) 0 0).wf = false := by decide
theorem test_wf_crossing : (Instr.zeroCrossing 0 [[]]).wf = false := by decide

theorem test_wf_nand : (Instr.nandReadDone false 0 (some 41) false).wf = false ∧ (Instr.mountRebuildComplete false 0 [] [(0, none)]).wf = false ∧
    (Instr.mountRebuildComplete true 0 [] [(2 ^ 32, none)]).wf = false ∧ (Instr.mountRebuildComplete true 0 [] [(0, some ⟨2, 0, 0, 0, 0, 0, []⟩)]).wf = false ∧
    (Instr.mountRebuildComplete true 0 [] [(0, some ⟨1, 0, 0, 0, 0, 0, []⟩)]).wf = false := by decide
theorem test_no_word : decodeTableWord 64 1 = none ∧ State.reset.withFetchWord 64 1 = State.reset := ⟨rfl, rfl⟩

/-! ### The spec's worked examples -/

/-- Binding an inverter: word 0 as REGISTERED and attached, TAGS, the entry's offset, the places of its leg's and transformer's records. -/
theorem test_example_entry_words :
    let e : Entry := { state := .registered, kind := 1, key256 := true, bindGen := 7, resync := true, baseline := true, leg := 65536, euiTag := 0x4B13 }
    32 * 300517 = 0x0092BCA0 ∧ ctrlWord e = 0x00607029 ∧ attachWord e = 0x00010000 ∧ tagsWord e = 0x00004B13 ∧
    ctrlWord { e with state := .present, resync := false, baseline := false } = 0x0000702A ∧
    (regionAt (0x2200000 - 0x2000000)).map (fun r => (r.size, (0x200000 - r.base) / r.size)) = some (32, 65536) ∧
    (regionAt (0x267FFF8 - 0x2000000)).map (fun r => (r.size, (0x67FFF8 - r.base) / r.size)) = some (24, 21845) := by decide
/-- Binding an inverter: EUI_TAG, and the nodes its leg and transformer are. -/
theorem test_example_eui_tag : euiTag 0x02A41C005E310B86 = 0x4B13 ∧ 21845 * 3 + 1 = 65536 := by decide
/-- A balanced feeder: its own loss, its tolerance. -/
theorem test_example_balanced_feeder : lossOwn { k2 := 1172813 } 900000 900 = 13500 ∧
    tolOf { tolFix := 2000, tolPpm := 5000 } 932400 = 6662 := by decide
/-- A bypassed meter: the legs' losses and the transformer's tolerance. -/
theorem test_example_bypassed_meter : [(4100 : Int), 4030, 4050, 2880].map (fun n => lossOwn { k1 := 15000 } n 900) = [61, 60, 60, 43] ∧
    tolOf { tolFix := 150, tolPpm := 10000 } 12380 = 273 := by decide
/-- A phase sample: L3 rising, 17 µs away. -/
theorem test_example_phase_sample : phaseClass { State.reset with flu := {
      period := 20000000
      rises := [(1, [10000000000]), (2, [10006666667]), (3, [10013333333])]
      falls := [(1, [10010000000]), (2, [10016666667]), (3, [10003333333])] } } 1 10084000000 10650 = some 3 := by decide +kernel
/-- Both devices start together: U1 carries 0x03 at LEVEL 1 and 0x81 at LEVEL 64. -/
theorem test_example_claim_byte : claimByte { State.reset with brk := { level := 1, unitId := true } } = 3 ∧
    claimByte { State.reset with brk := { level := 64, unitId := true } } = 0x81 := by decide
/-- Both verdict thresholds in one command: 80 with the default 64 is refused, 100 and 80 together are taken. -/
theorem test_example_thresholds : (match configure .weir 0 [{ pid := 6, scope := 1, value := 80 }] (fun _ _ => none) (fun _ t => t) State.reset with
      | .fail .badParam _ => true | _ => false) = true ∧
    (match configure .weir 0 [{ pid := 6, scope := 0, value := 100 }, { pid := 6, scope := 1, value := 80 }] (fun _ _ => none) (fun _ t => t)
        State.reset with | .ok _ r _ => r == 2 | _ => false) = true := by decide
/-- Extending a transmit stamp: NS and SEC_LO of the queue entry. -/
theorem test_example_stamp : let l := stampEntry ⟨(0, 0), 0, true, 5, zeros 12 ++ [0x88, 0xF7] ++ zeros 46⟩ (1700000101600000000 * 2 ^ 41 + 5120 * 2 ^ 25)
    ofLe (slice l 8 4) = 0xDDFEF800 ∧ ofLe (slice l 4 2) = 0xF165 ∧ ofLe (slice l 6 2) = 5120 := by decide +kernel
/-- The same stamp extended to the whole scale by both rules of R317. -/
theorem test_example_extend : extendA 1700000103 16 61797 0xDDFEF800 = 1700000101600000000 ∧
    extendB 1700000103250000000 0xDDFEF800 = 1700000101600000000 := by decide +kernel
/-- CRC-32 of IEEE 802.3: the check value of "123456789". -/
theorem test_crc32 : crc32 [0x31, 0x32, 0x33, 0x34, 0x35, 0x36, 0x37, 0x38, 0x39] = 0xCBF43926 := by decide +kernel
/-- The day 2024-02-29 of the calendar word. -/
theorem test_civil : civil 19782 = (2024, 2, 29) ∧ civil 0 = (1970, 1, 1) := by decide

end Sys2Proof.Tests
end

section
/-! PROOF. What a host command answers by what its body answers, and the node commands (R73–R77, R299, R373). -/

namespace Sys2Proof.Machine

/-! ### What an accepted command answers -/

section Command
variable {i : Instr} {k : HostCmd} {form : Bool} {body : State → CmdRes} {s t : State} {st : Status} {r : Nat} {d : List Byte}

/-- An accepted command of good form whose body succeeds is finished with what the body answers (R365). -/
theorem command_of_ok (h : accepts i s = true) (hk : hostCmd i = some k) (hf : form = true) (hb : body s = .ok t r d) :
    command i form body s = finish k.c .ok r d t := by rw [command_accepted h hk hf, hb]

/-- An accepted command of good form whose body refuses is answered with the refusal (R365). -/
theorem command_of_fail (h : accepts i s = true) (hk : hostCmd i = some k) (hf : form = true) (hb : body s = .fail st t) :
    command i form body s = reply k.c st 0 k.c.xin.length t := by rw [command_accepted h hk hf, hb]

end Command

/-! ### Levels and identities (R72, R75, R168) -/

/-- Only the levels 2 to 5 have nodes, and a number within its level's count takes 18 bits. -/
theorem level_of_lt_count {l n : Nat} (h : n < levelCount l) : 2 ≤ l ∧ l ≤ 5 ∧ n < 2 ^ 18 := by
  unfold levelCount at h; split at h <;> omega

/-- A node of the level above has another identity. -/
theorem nodeKey_succ_ne {l n : Nat} (h : n < levelCount l) (m : Nat) : nodeKey (l + 1) m ≠ nodeKey l n := by
  obtain ⟨-, -, hn⟩ := level_of_lt_count h
  unfold nodeKey; omega

/-- A node's parent, where it has one, has another identity. -/
theorem parentKey_ne {s : State} {l n pk : Nat} (h : n < levelCount l) (hp : parentKey s (nodeKey l n) = some pk) :
    pk ≠ nodeKey l n := by
  obtain ⟨-, -, hn⟩ := level_of_lt_count h
  have hl : keyLvl (nodeKey l n) = l := by unfold keyLvl nodeKey; omega
  simp only [parentKey, hl, Option.ite_none_left_eq_some, Option.some.injEq] at hp
  exact hp.2 ▸ nodeKey_succ_ne h _

/-- The form of a node command that names a parent fails where either number is beyond its level's count (R75). -/
theorem node_form_eq_false {l n p : Nat} (hl : 2 ≤ l) (hl5 : l ≤ 5)
    (h : levelCount l ≤ n ∨ (l ≠ 5 ∧ levelCount (l + 1) ≤ p)) : (nodeForm l n && parentForm l p) = false := by
  rw [Bool.and_eq_false_iff]
  rcases h with h | ⟨h5, h⟩
  · left; simpa [nodeForm] using h
  · right; simp only [parentForm, decide_eq_false_iff_not]; omega

theorem nodeForm_of_lt {l n : Nat} (h : n < levelCount l) : nodeForm l n = true := by simpa [nodeForm] using h

/-! ### Changes of a header (R74) -/

@[simp] theorem node_topoUp (s : State) (j : Nat) : node (topoUp s) j = node s j := rfl
@[simp] theorem topoUp_topoGen (s : State) : (topoUp s).led.topoGen = s.led.topoGen + 1 := rfl
@[simp] theorem topoUp_entries (s : State) : (topoUp s).led.entries = s.led.entries := rfl
@[simp] theorem nodeChange_topoGen (k : Nat) (f : Node → Node) (s : State) : (nodeChange k f s).led.topoGen = s.led.topoGen := rfl
@[simp] theorem nodeChange_entries (k : Nat) (f : Node → Node) (s : State) : (nodeChange k f s).led.entries = s.led.entries := rfl
@[simp] theorem dropAnchor_led (l n : Nat) (s : State) : (dropAnchor l n s).led = s.led := rfl

/-- A changed header has the change, and its GEN raised. -/
@[simp] theorem node_nodeChange_same (k : Nat) (f : Node → Node) (s : State) :
    node (nodeChange k f s) k = { f (node s k) with gen := (f (node s k)).gen + 1 } := node_setNode_same ..

/-- A change of a header leaves every other as it is. -/
theorem node_nodeChange_other (k : Nat) (f : Node → Node) (s : State) {j : Nat} (h : j ≠ k) :
    node (nodeChange k f s) j = node s j := node_setNode_other _ _ _ h

/-! ### NODE_ACTIVATE -/

/-- The PARENT an activation writes: a leg's own transformer, none for a station (R74, R75). -/
def parentWritten (l n p : Nat) : Nat := if l = 2 then n / 3 else if l = 5 then 0 else p

/-- The state an activation under the parent `up` leaves. -/
def activated (l n up : Nat) (s : State) : State :=
  let s1 := nodeChange (nodeKey l n) (fun v => { v with defined := true, active := true, parent := up }) s
  topoUp (if l = 5 then s1 else childUp (nodeKey (l + 1) up) s1)

section Activate
variable {l n p : Nat} {s : State}

theorem nodeActivateCmd_of_active (h : (node s (nodeKey l n)).active = true) : nodeActivateCmd l n p s = .fail .existing s := by
  simp only [nodeActivateCmd, h, if_true, refuse]

theorem nodeActivateCmd_of_parent_inactive (hl : 2 ≤ l) (hl4 : l ≤ 4) (h : (node s (nodeKey l n)).active = false)
    (hp : (node s (nodeKey (l + 1) (parentWritten l n p))).active = false) :
    nodeActivateCmd l n p s = .fail (if l = 2 then .refusedState else .notFound) s := by
  by_cases h2 : l = 2
  · subst h2
    simp only [parentWritten, if_true] at hp
    simp [nodeActivateCmd, refuse, h, hp]
  · have h5 : l ≠ 5 := by omega
    have h34 : l = 3 ∨ l = 4 := by omega
    simp only [parentWritten, h2, h5, if_false] at hp
    simp [nodeActivateCmd, refuse, h, hp, h2, h34]

theorem nodeActivateCmd_of_parent_active (h : (node s (nodeKey l n)).active = false)
    (hp : l ≠ 5 → (node s (nodeKey (l + 1) (parentWritten l n p))).active = true)
    (h5 : l = 5 → p = 0) (h2 : l = 2 → p = 0 ∨ p = n / 3) :
    nodeActivateCmd l n p s = .ok (activated l n (parentWritten l n p) s) 0 [] := by
  by_cases hl : l = 5
  · subst hl
    simp [nodeActivateCmd, h, h5, activated, parentWritten]
  · have hbad : ¬ (l = 2 ∧ p ≠ 0 ∧ p ≠ n / 3) := fun ⟨e, h0, h3⟩ => (h2 e).elim h0 h3
    have hup : parentWritten l n p = if l = 2 then n / 3 else p := by simp [parentWritten, hl]
    have hpa := hp hl
    rw [hup] at hpa
    simp only [nodeActivateCmd, h, hpa, hl, hbad, hup, activated, Bool.not_true, Bool.false_eq_true, and_false, false_and,
      or_self, if_false]

theorem node_activated_same (hn : n < levelCount l) (up : Nat) : node (activated l n up s) (nodeKey l n) =
    { node s (nodeKey l n) with defined := true, active := true, parent := up, gen := (node s (nodeKey l n)).gen + 1 } := by
  have hne := (nodeKey_succ_ne hn up).symm
  unfold activated
  split
  · simp
  · simp [childUp, node_nodeChange_other _ _ _ hne]

theorem node_activated_parent (hn : n < levelCount l) (h5 : l ≠ 5) (up : Nat) :
    node (activated l n up s) (nodeKey (l + 1) up) = { node s (nodeKey (l + 1) up) with
      children := (node s (nodeKey (l + 1) up)).children + 1, gen := (node s (nodeKey (l + 1) up)).gen + 1 } := by
  simp [activated, h5, childUp, node_nodeChange_other _ _ _ (nodeKey_succ_ne hn up)]

@[simp] theorem activated_topoGen (l n up : Nat) (s : State) : (activated l n up s).led.topoGen = s.led.topoGen + 1 := by
  unfold activated; split <;> rfl

@[simp] theorem activated_entries (l n up : Nat) (s : State) : (activated l n up s).led.entries = s.led.entries := by
  unfold activated; split <;> rfl

end Activate

/-! ### NODE_DEACTIVATE -/

/-- The state the deactivation of a node without children leaves. -/
def deactivated (l n : Nat) (s : State) : State :=
  let s1 := nodeChange (nodeKey l n) (fun v => { v with active := false, anchor := false }) s
  let s2 := match parentKey s (nodeKey l n) with | some p => childDown p s1 | none => s1
  topoUp (dropAnchor l n { s2 with led := { s2.led with moves := s2.led.moves.filter (fun m => !(m.lvl == l && m.num == n)) } })

section Deactivate
variable {l n : Nat} {s : State}

theorem nodeDeactivateCmd_of_inactive (h : (node s (nodeKey l n)).active = false) : nodeDeactivateCmd l n s = .ok s 0 [] := by
  simp [nodeDeactivateCmd, h]

theorem nodeDeactivateCmd_of_children (h : (node s (nodeKey l n)).active = true) (hc : (node s (nodeKey l n)).children ≠ 0) :
    nodeDeactivateCmd l n s = .fail .refusedState s := by
  simp [nodeDeactivateCmd, h, hc, refuse]

theorem nodeDeactivateCmd_of_childless (h : (node s (nodeKey l n)).active = true) (hc : (node s (nodeKey l n)).children = 0) :
    nodeDeactivateCmd l n s = .ok (deactivated l n s) 0 [] := by
  simp only [nodeDeactivateCmd, h, hc, Bool.not_true, Bool.false_eq_true, ne_eq, not_true, if_false]
  rfl

/-- Beside the move list and the anchors, a deactivation changes the two headers alone. -/
theorem node_deactivated (l n : Nat) (s : State) (j : Nat) :
    node (deactivated l n s) j =
      node ((parentKey s (nodeKey l n)).elim id childDown
        (nodeChange (nodeKey l n) (fun v => { v with active := false, anchor := false }) s)) j := by
  unfold deactivated
  cases parentKey s (nodeKey l n) <;> rfl

theorem node_deactivated_same (hn : n < levelCount l) : node (deactivated l n s) (nodeKey l n) =
    { node s (nodeKey l n) with active := false, anchor := false, gen := (node s (nodeKey l n)).gen + 1 } := by
  rw [node_deactivated]
  cases hp : parentKey s (nodeKey l n) with
  | none => simp
  | some p => simp [childDown, node_nodeChange_other _ _ _ (parentKey_ne hn hp).symm]

theorem node_deactivated_parent (hn : n < levelCount l) {p : Nat} (hp : parentKey s (nodeKey l n) = some p) :
    node (deactivated l n s) p = { node s p with children := (node s p).children - 1, gen := (node s p).gen + 1 } := by
  rw [node_deactivated, hp]
  simp [childDown, node_nodeChange_other _ _ _ (parentKey_ne hn hp)]

theorem deactivated_moves (l n : Nat) (s : State) :
    (deactivated l n s).led.moves.any (fun m => m.lvl == l && m.num == n) = false := by
  simp only [deactivated, topoUp, dropAnchor_led, List.any_eq_false, List.mem_filter, Bool.not_eq_true, Bool.not_eq_true']
  exact fun m hm => hm.2

@[simp] theorem deactivated_topoGen (l n : Nat) (s : State) : (deactivated l n s).led.topoGen = s.led.topoGen + 1 := by
  unfold deactivated
  cases parentKey s (nodeKey l n) <;> rfl

end Deactivate

/-! ### NODE_SET -/

section Set
variable {l f v n : Nat} {s : State}

theorem nodeSetCmd_of_inactive (h : (node s (nodeKey l n)).active = false) : nodeSetCmd l f v n s = .fail .refusedState s := by
  simp [nodeSetCmd, h, refuse]

/-- PHASE_REF and INVERT are fields of a leg alone. -/
theorem nodeSetCmd_of_no_leg (h : (node s (nodeKey l n)).active = true) (hf : f < 2) (hl : l ≠ 2) :
    nodeSetCmd l f v n s = .fail .badParam s := by
  simp [nodeSetCmd, h, hf, hl, refuse]

theorem nodeSetCmd_of_active (h : (node s (nodeKey l n)).active = true)
    (hf : (f = 0 ∧ l = 2 ∧ v ≤ 3) ∨ (f = 1 ∧ l = 2 ∧ v ≤ 1) ∨ (f = 2 ∧ v ≤ 1)) :
    nodeSetCmd l f v n s = .ok (topoUp (setNode (nodeKey l n) { node s (nodeKey l n) with
      gen := (node s (nodeKey l n)).gen + 1
      phaseRef := if f = 0 then BitVec.ofNat 2 v else (node s (nodeKey l n)).phaseRef
      invert := if f = 1 then v == 1 else (node s (nodeKey l n)).invert
      frozen := if f = 2 then v == 1 else (node s (nodeKey l n)).frozen } s)) 0 [] := by
  rcases hf with ⟨rfl, rfl, hv⟩ | ⟨rfl, rfl, hv⟩ | ⟨rfl, hv⟩ <;>
    simp [nodeSetCmd, h, nodeChange, Nat.not_lt.2 hv]

end Set

/-! ### The statement -/

/-- NODE_ACTIVATE is the host command of its row, checked for both its numbers first (R75, R373). -/
theorem exec_nodeActivate (c : Ctx) (l : Byte) (n p : U32) (s : State) : exec (.nodeActivate c l n p) s =
    .next (command (.nodeActivate c l n p) (nodeForm l.toNat n.toNat && parentForm l.toNat p.toNat)
      (nodeActivateCmd l.toNat n.toNat p.toNat) s) := rfl

theorem exec_nodeDeactivate (c : Ctx) (l : Byte) (n : U32) (s : State) : exec (.nodeDeactivate c l n) s =
    .next (command (.nodeDeactivate c l n) (nodeForm l.toNat n.toNat) (nodeDeactivateCmd l.toNat n.toNat) s) := rfl

theorem exec_nodeSet (c : Ctx) (l f v : Byte) (n : U32) (s : State) : exec (.nodeSet c l f v n) s =
    .next (command (.nodeSet c l f v n) (nodeForm l.toNat n.toNat) (nodeSetCmd l.toNat f.toNat v.toNat n.toNat) s) := rfl

/-- Settles O32: each command's form first, then the cases of its body, read off the two headers that change. -/
theorem topologyOfNodes : Obligations.topology_of_nodes := by
  unfold Obligations.topology_of_nodes
  refine ⟨fun c l n p s h hl hl5 => ⟨fun hbad => ?_, fun hn hp => ?_⟩, fun c l n s h hn => ?_, fun c l f v n s h hn => ?_⟩
  · rw [exec_nodeActivate, node_form_eq_false hl hl5 hbad, command_malformed h rfl]
  · have hf : (nodeForm l.toNat n.toNat && parentForm l.toNat p.toNat) = true := by rw [nodeForm_of_lt hn, hp]; rfl
    refine ⟨fun ha => ?_, fun ha h5 hpa => ?_, fun ha h5 hpa h2 => ?_⟩
    · exact congrArg _ (command_of_fail h rfl hf (nodeActivateCmd_of_active ha))
    · exact congrArg _ (command_of_fail h rfl hf (nodeActivateCmd_of_parent_inactive hl (by omega) ha hpa))
    · exact ⟨_, congrArg _ (command_of_ok h rfl hf (nodeActivateCmd_of_parent_active ha hpa h5 h2)), node_activated_same hn _,
        fun h5 => node_activated_parent hn h5 _, activated_topoGen .., activated_entries ..⟩
  · have hf := nodeForm_of_lt hn
    refine ⟨fun ha => ?_, fun ha hc => ?_, fun ha hc => ?_⟩
    · exact congrArg _ (command_of_ok h rfl hf (nodeDeactivateCmd_of_inactive ha))
    · exact congrArg _ (command_of_fail h rfl hf (nodeDeactivateCmd_of_children ha hc))
    · exact ⟨_, congrArg _ (command_of_ok h rfl hf (nodeDeactivateCmd_of_childless ha hc)), node_deactivated_same hn,
        fun _ hp => node_deactivated_parent hn hp, deactivated_moves .., deactivated_topoGen ..⟩
  · have hf := nodeForm_of_lt hn
    refine ⟨fun ha => ?_, fun ha hfl hl => ?_, fun ha hfv => ?_⟩
    · exact congrArg _ (command_of_fail h rfl hf (nodeSetCmd_of_inactive ha))
    · exact congrArg _ (command_of_fail h rfl hf (nodeSetCmd_of_no_leg ha hfl hl))
    · have hb (x y : Byte) : x = y ↔ x.toNat = y.toNat := BitVec.toNat_eq
      have hv : (v == 1) = (v.toNat == 1) := by rw [Bool.eq_iff_iff, beq_iff_eq, beq_iff_eq]; exact hb v 1
      simp only [hb f] at hfv
      simp only [hb f, hv]
      exact congrArg _ (command_of_ok h rfl hf (nodeSetCmd_of_active ha hfv))

end Sys2Proof.Machine
end

section
/-! PROOF. What reads of the register space, of the configuration header and of BAR2 return, and what an access to a dark block does
(R14, R17, R32, R34, R49, R79–R82, R336, R342, R343, R449). -/

namespace Sys2Proof.Machine

/-! ### An access to a dark block (R32, R34) -/

/-- The capture of DEV_ACCESS_ERR after an access to a dark block: the first one stands (R34). -/
def accessCaptured (bus addr : Nat) (d : DevState) : DevState :=
  if d.accValid then d else { d with accStatus := 9, accBus := bus, accValid := true, accAddr := addr }

/-- The record of an event that no event table numbers draws two free values, and beyond that is an event's record. -/
theorem openRecord_eventOnly (k : Nat) (s : State) : EventOnly { s with free := s.free + 2 } (openRecord k s) :=
  recordOnly_eventOnly ..

theorem darkAccess_eq (bus addr : Nat) (s : State) :
    darkAccess bus addr s = openRecord 0 (bump 0x48 1 { s with dev := accessCaptured bus addr s.dev }) := by
  unfold darkAccess accessCaptured
  dsimp only
  split <;> rfl

/-- An access to a dark block counts and is captured; beyond that it is an event's record. -/
theorem darkAccess_eventOnly (bus addr : Nat) (s : State) :
    EventOnly { bump 0x48 1 { s with dev := accessCaptured bus addr s.dev } with free := s.free + 2 } (darkAccess bus addr s) := by
  rw [darkAccess_eq]; exact openRecord_eventOnly ..

theorem darkAccess_dev (bus addr : Nat) (s : State) : (darkAccess bus addr s).dev = accessCaptured bus addr s.dev :=
  (darkAccess_eventOnly bus addr s).dev

@[simp] theorem cnt_bump_same (a n : Nat) (s : State) : cnt a (bump a n s) = sat32 (cnt a s + n) :=
  tget_tmod_same 0 s.rc a (fun v => sat32 (v + n))

/-- DEV_ACCESS_CNT counts the access (R34). -/
theorem darkAccess_cnt (bus addr : Nat) (s : State) : cnt 0x48 (darkAccess bus addr s) = sat32 (cnt 0x48 s + 1) :=
  ((darkAccess_eventOnly bus addr s).counts 0x48 (by decide)).trans (cnt_bump_same ..)

theorem darkAccess_rest (bus addr : Nat) (s : State) (t : State) (ht : darkAccess bus addr s = t) :
    t = { s with dev := t.dev, rc := t.rc, evt := t.evt, hop := t.hop, out := t.out, log := t.log, gra := t.gra, que := t.que
                 free := t.free } := by
  have h := darkAccess_eventOnly bus addr s
  rw [ht] at h
  refine h.rest.trans ?_
  rw [h.dev, h.free]
  rfl

theorem darkAccess_gra (bus addr : Nat) (s : State) :
    (darkAccess bus addr s).gra.arc = s.gra.arc ∧ (darkAccess bus addr s).gra.chk = s.gra.chk := by
  rw [(darkAccess_eventOnly bus addr s).ring]
  exact ⟨rfl, rfl⟩

/-! ### BAR0 reads (R14, R342, R449) -/

section Bar0Read
variable {a : Nat} {s : State}

theorem bar0Read_of_dark (h : darkAt s a = true) : bar0Read a s = emit (.regRead a 0xFFFFFFFF) (darkAccess 0 a s) := by
  simp only [bar0Read, h, if_true]

theorem bar0Read_of_hidden (h : darkAt s a = false) (hh : hidden s = true) (h0 : a ≠ 0) (h4 : a ≠ 4) :
    bar0Read a s = emit (.regRead a 0) s := by
  simp [bar0Read, h, hh, h0, h4]

theorem bar0Read_of_readable (h : darkAt s a = false) (hh : hidden s = false ∨ a = 0 ∨ a = 4) :
    bar0Read a s = emit (.regRead a (regValue s a)) (if isRc a then regClear a s else s) := by
  have hr : ¬ (hidden s = true ∧ a ≠ 0 ∧ a ≠ 4) := by rcases hh with e | e | e <;> simp [e]
  simp only [bar0Read, h, Bool.false_eq_true, if_false, hr]

end Bar0Read

/-- What a read clears beyond its counter is no counter. -/
theorem regClear_rc (a : Nat) (s : State) : (regClear a s).rc = tset 0 s.rc a 0 := by
  simp only [regClear]
  (repeat' split) <;> rfl

@[simp] theorem regClear_out (a : Nat) (s : State) : (regClear a s).out = s.out := by
  simp only [regClear]
  (repeat' split) <;> rfl

@[simp] theorem cnt_regClear_same (a : Nat) (s : State) : cnt a (regClear a s) = 0 := by
  rw [cnt, regClear_rc, tget_tset_same]

theorem cnt_regClear_other (a : Nat) (s : State) {b : Nat} (h : b ≠ a) : cnt b (regClear a s) = cnt b s := by
  rw [cnt, regClear_rc, tget_tset_other _ _ _ _ _ h]; rfl

@[simp] theorem emit_out (o : Out) (s : State) : (emit o s).out = o :: s.out := rfl

/-! ### BAR2 reads (R49, R79–R82) -/

/-- A request that begins a record and is as long is that record, of one instant. -/
theorem bar2Units_of_record {o n : Nat} (h : recordAt o = some n) (hn : 0 < n) : bar2Units o n = [(o, n)] := by
  obtain ⟨m, rfl⟩ := Nat.exists_eq_add_of_lt hn
  simp [bar2Units, wholeRecords, h]

/-- A request of a byte where no record begins is the aligned 8-byte word it touches. -/
theorem bar2Units_of_no_record {o : Nat} (h : recordAt o = none) : bar2Units o 1 = [(o / 8 * 8, 8)] := by
  have h1 : (o + 1 + 7) / 8 - o / 8 = 1 := by omega
  simp [bar2Units, wholeRecords, h, wordsOf, h1]

theorem bar2Read_of_record {o n : Nat} (h : recordAt o = some n) (hn : 0 < n) (s : State) :
    bar2Read o s = emit (.bar2 o (bar2Bytes s o (n / 4))) { s with free := s.free + 8 } := by
  simp only [bar2Read, h, Option.getD_some, bar2Units_of_record h hn, List.headD_cons]

theorem bar2Read_of_no_record {o : Nat} (h : recordAt o = none) (s : State) :
    bar2Read o s = emit (.bar2 (o / 8 * 8) (bar2Bytes s (o / 8 * 8) 2)) { s with free := s.free + 8 } := by
  simp only [bar2Read, h, Option.getD_none, bar2Units_of_no_record h, List.headD_cons]

theorem recordAt_entry {i : Nat} (hi : i < 2 ^ 20) : recordAt (32 * i) = some 32 := by
  have h : 32 * i < 0x2000000 := by omega
  simp [recordAt, h]

theorem recordAt_beyond_table {o : Nat} (h : 0x2800000 ≤ o) : recordAt o = none := by
  have h1 : ¬ o < 0x2000000 := by omega
  have h2 : ¬ o < 0x2800000 := by omega
  simp only [recordAt, h1, h2, if_false]

/-- The dwords of an entry whose stored words are good (R49). -/
theorem bar2Dword_entry {i w : Nat} (hi : i < 2 ^ 20) (hw : w < 8) {s : State} (hp : s.led.poisoned.contains i = false) :
    bar2Dword s (32 * i + 4 * w) = entryWord (entry s i) w := by
  have h1 : 32 * i + 4 * w < 0x2000000 := by omega
  have h2 : (32 * i + 4 * w) / 32 = i := by omega
  have h3 : (32 * i + 4 * w) % 32 / 4 = w := by omega
  simp only [bar2Dword, h1, h2, h3, hp, if_true, Bool.false_eq_true, if_false]

theorem bar2Bytes_entry {i : Nat} (hi : i < 2 ^ 20) {s : State} (hp : s.led.poisoned.contains i = false) :
    bar2Bytes s (32 * i) 8 = entryBytes (entry s i) := by
  refine congrArg List.flatten (List.map_congr_left fun w hw => ?_)
  rw [bar2Dword_entry hi (List.mem_range.1 hw) hp]

/-- Between the node table and the status page every dword is zero (R79). -/
theorem bar2Dword_unused {o : Nat} (h1 : 0x2800000 ≤ o) (h2 : o < 0x3FFF000) (s : State) : bar2Dword s o = 0 := by
  have h3 : ¬ o < 0x2000000 := by omega
  have h4 : ¬ o < 0x2800000 := by omega
  simp only [bar2Dword, h3, h4, h2, if_false, if_true]

theorem bar2Bytes_unused {o : Nat} (h1 : 0x2800000 ≤ o) (h2 : o < 0x3FFF000) (s : State) :
    bar2Bytes s (o / 8 * 8) 2 = zeros 8 := by
  have e0 := bar2Dword_unused (o := o / 8 * 8) (by omega) (by omega) s
  have e1 := bar2Dword_unused (o := o / 8 * 8 + 4) (by omega) (by omega) s
  simp only [bar2Bytes, List.range_succ, List.range_zero, List.nil_append, List.cons_append, List.map_cons, List.map_nil,
    Nat.mul_zero, Nat.add_zero, Nat.mul_one, e0, e1]
  decide

/-- TOPO_GEN and the sweep count share an aligned 8-byte word of the status page (R82). -/
theorem bar2Bytes_page_topology (s : State) :
    bar2Bytes s 0x3FFF010 2 = leBytes 4 s.led.topoGen.toNat ++ leBytes 4 s.led.sweep.toNat := rfl

section Bar2Read
variable {a : Nat} {s : State}

theorem bar2Read_entry_out {i : Nat} (hi : i < 2 ^ 20) (hp : s.led.poisoned.contains i = false) :
    (bar2Read (32 * i) s).out = .bar2 (32 * i) (entryBytes (entry s i)) :: s.out := by
  rw [bar2Read_of_record (recordAt_entry hi) (by decide), emit_out, ← bar2Bytes_entry hi hp]

theorem bar2Read_unused_out (h1 : 0x2800000 ≤ a) (h2 : a < 0x3FFF000) :
    (bar2Read a s).out = .bar2 (a / 8 * 8) (zeros 8) :: s.out := by
  rw [bar2Read_of_no_record (recordAt_beyond_table h1), emit_out, bar2Bytes_unused h1 h2]

theorem bar2Read_page_topology_out (s : State) : (bar2Read 0x3FFF010 s).out =
    .bar2 0x3FFF010 (leBytes 4 s.led.topoGen.toNat ++ leBytes 4 s.led.sweep.toNat) :: s.out := by
  rw [bar2Read_of_no_record (recordAt_beyond_table (by decide)), emit_out, ← bar2Bytes_page_topology]

end Bar2Read

/-! ### An access on one of the buses (R32, R34, R80) -/

section DarkBlock
variable {bus : Nat} {b : Blk} {w : Bool} {a : Nat} {s : State}

/-- The access meets darkness: of its block, or, from a control core to DRAM, of the memory controller. -/
theorem darkBlock_of_dark (h : dark s b = true ∨ (bus = 4 ∧ memDark a s = true)) :
    darkBlock bus b w a s =
      (if 3 ≤ bus then emit (.darkReply bus 9 (if w then [] else zeros 4)) (darkAccess bus a s)
       else if w then darkAccess bus a s
       else emit (if bus = 2 then .mgmt [9, 0xFF] else .regRead a 0xFFFFFFFF) (darkAccess bus a s)) := by
  have hd : (!dark s b && !(bus == 4 && memDark a s)) = false := by
    rcases h with h | ⟨rfl, h⟩ <;> simp [h]
  simp only [darkBlock, hd, Bool.false_eq_true, if_false]
  match bus with
  | 0 | 1 | 2 => rfl
  | _ + 3 => exact (if_pos (Nat.le_add_left ..)).symm

theorem darkBlock_of_light (h : dark s b = false) (hm : bus ≠ 4 ∨ memDark a s = false) :
    darkBlock bus b w a s = (if w then s else if bus = 0 then bar0Read a s
      else if bus = 1 ∧ b = .ldg ∧ !hidden s then bar2Read a s else s) := by
  have hd : (!dark s b && !(bus == 4 && memDark a s)) = true := by
    rcases hm with hm | hm <;> simp [h, hm]
  simp only [darkBlock, hd, if_true]

end DarkBlock

/-- What a host's read through BAR2 leaves, its block not dark: the entry's bytes go out, or, of another block or in RETIRED, nothing
happens. -/
theorem darkBlock_bar2 {b : Blk} {a : Nat} {s : State} (h : dark s b = false) :
    darkBlock 1 b false a s = if b = .ldg ∧ hidden s = false then bar2Read a s else s := by
  rw [darkBlock_of_light h (.inl (by decide))]
  simp

/-! ### The statement -/

theorem exec_rcRegisterRead_bar0 (a : U32) (s : State) : exec (.rcRegisterRead .bar0 a) s = .next (bar0Read a.toNat s) := rfl

theorem exec_rcRegisterRead_bar4 {s : State} (h : dark s .hop = false) (a : U32) :
    exec (.rcRegisterRead .bar4 a) s = .next (emit (.regRead a.toNat 0) s) := by
  change Host.Outcome.next (if dark s .hop then _ else _) = _
  rw [h]; rfl

theorem exec_darkBlockAccess (bus : Fin 5) (b : Blk) (w : Bool) (a : U32) (s : State) :
    exec (.darkBlockAccess bus b w a) s = .next (darkBlock bus.val b w a.toNat s) := rfl

/-- A readable register's value, and what is left of the counters (R14, R342). -/
theorem exec_bar0_read_readable (a : U32) (s : State) (h : darkAt s a.toNat = false) (hh : hidden s = false ∨ a = 0 ∨ a = 4) :
    ∃ t, exec (.rcRegisterRead .bar0 a) s = .next t ∧ t.out = .regRead a.toNat (regValue s a.toNat) :: s.out ∧
      (isRc a.toNat = true → cnt a.toNat t = 0) ∧ (∀ b, b ≠ a.toNat → cnt b t = cnt b s) ∧
      (isRc a.toNat = false → t = { s with out := t.out }) := by
  have hh' : hidden s = false ∨ a.toNat = 0 ∨ a.toNat = 4 := hh.imp id (Or.imp (congrArg BitVec.toNat) (congrArg BitVec.toNat))
  refine ⟨_, by rw [exec_rcRegisterRead_bar0, bar0Read_of_readable h hh'], ?_⟩
  cases isRc a.toNat
  · exact ⟨rfl, fun e => absurd e (by decide), fun _ _ => rfl, fun _ => rfl⟩
  · exact ⟨congrArg _ (regClear_out ..), fun _ => cnt_regClear_same .., fun _ hb => cnt_regClear_other _ _ hb,
      fun e => absurd e (by decide)⟩

/-- A host's read through BAR2 of a block not dark (R79–R82). -/
theorem exec_bar2_read (b : Blk) (a : U32) (s : State) (h : dark s b = false) :
    ∃ t, exec (.darkBlockAccess 1 b false a) s = .next t ∧
    t = { s with out := t.out, free := t.free } ∧ (b ≠ .ldg ∨ hidden s = true → t = s) ∧ (b = .ldg → hidden s = false →
      (∀ i : Idx, a.toNat = 32 * i.toNat → s.led.poisoned.contains i.toNat = false →
        t.out = .bar2 a.toNat (entryBytes (entry s i.toNat)) :: s.out) ∧
      (0x2800000 ≤ a.toNat → a.toNat < 0x3FFF000 → t.out = .bar2 (a.toNat / 8 * 8) (zeros 8) :: s.out) ∧
      (a.toNat = 0x3FFF010 → t.out = .bar2 0x3FFF010 (leBytes 4 s.led.topoGen.toNat ++ leBytes 4 s.led.sweep.toNat) :: s.out)) := by
  refine ⟨_, congrArg Host.Outcome.next (darkBlock_bar2 h), ?_⟩
  by_cases hb : b = .ldg ∧ hidden s = false
  · rw [if_pos hb]
    obtain ⟨hl, hh⟩ := hb
    refine ⟨rfl, fun e => ?_, fun _ _ => ⟨fun i e hp => ?_, bar2Read_unused_out, fun e => ?_⟩⟩
    · exact e.elim (absurd hl) fun e => absurd (hh.symm.trans e) (by decide)
    · rw [e]; exact bar2Read_entry_out i.isLt hp
    · rw [e]; exact bar2Read_page_topology_out s
  · rw [if_neg hb]
    exact ⟨rfl, fun _ => rfl, fun e1 e2 => absurd ⟨e1, e2⟩ hb⟩

/-- Settles O6: one law for each kind of read, and one for the access to a dark block. -/
theorem registerReads : Obligations.register_reads := by
  unfold Obligations.register_reads
  refine ⟨exec_bar0_read_readable, fun a s h hl h0 h4 => ?_, fun a s h => ?_, fun a s => ⟨fun h => ?_, rfl⟩,
    fun bus b w a s h => ?_, fun bus b w a s h hm => ⟨fun hw => ?_, fun hw hb => ?_⟩, exec_bar2_read, fun bus a s => ?_⟩
  · have hh : hidden s = true := by simp [hidden, hl]
    exact congrArg _ (bar0Read_of_hidden h hh (BitVec.toNat_ne_iff_ne.2 h0) (BitVec.toNat_ne_iff_ne.2 h4))
  · exact congrArg _ (bar0Read_of_dark h)
  · exact exec_rcRegisterRead_bar4 h a
  · have hb : dark s b = true ∨ (bus.val = 4 ∧ memDark a.toNat s = true) := h.imp id (And.imp (congrArg Fin.val) id)
    rw [exec_darkBlockAccess, darkBlock_of_dark hb]
  · have hb : bus.val ≠ 4 ∨ memDark a.toNat s = false := hm.imp Fin.val_ne_of_ne id
    rw [exec_darkBlockAccess, darkBlock_of_light h hb]
    rcases hw with rfl | hw
    · rfl
    · have h0 : bus.val ≠ 0 := by omega
      have h1 : bus.val ≠ 1 := by omega
      simp only [h0, h1, false_and, if_false, ite_self]
  · subst hw hb
    rw [exec_darkBlockAccess, exec_rcRegisterRead_bar0, darkBlock_of_light h (.inl (by decide))]
    rfl
  · exact ⟨_, rfl, darkAccess_cnt .., darkAccess_dev .., darkAccess_rest bus a s _ rfl, darkAccess_gra bus a s⟩

end Sys2Proof.Machine
end

section
/-! PROOF. What writes to the register space, to configuration space, to the doorbell pages and to BAR2 change, and the captures,
PACE_CTRL and the release of the DMA engine (R14, R25, R32, R79, R317, R336, R337, R342, R343, R346, R357, R358, R465). -/

namespace Sys2Proof.Machine

/-! ### A register write of its own row (R32) -/

section RegWrite
variable {b : Blk} {s : State}

theorem regWrite_of_light (h : dark s b = false) (a : Nat) (f : State → State) : regWrite b a f s = f s := by
  simp only [regWrite, h, Bool.false_eq_true, if_false]

end RegWrite

/-! ### BAR0 writes (R14, R32, R342) -/

section Bar0Write
variable {a v : Nat} {be : Byte} {b : Blk} {s : State}

theorem darkAt_of_blkAt (hb : blkAt a = some b) : darkAt s a = dark s b := by simp [darkAt, hb]

theorem bar0Write_of_partial (hbe : be ≠ 0xF) (h : darkAt s a = false) : bar0Write a v be s = badAccess s := by
  unfold bar0Write
  rw [if_pos hbe]
  cases hb : blkAt a with
  | none => rfl
  | some b =>
    rw [darkAt_of_blkAt hb] at h
    simp only [h, Bool.false_eq_true, if_false, hbe, ne_eq, not_false_eq_true, if_true]

theorem bar0Write_of_dark (h : darkAt s a = true) : bar0Write a v 0xF s = darkAccess 0 a s := by
  unfold bar0Write
  cases hb : blkAt a with
  | none => simp [darkAt, hb] at h
  | some b => rw [darkAt_of_blkAt hb] at h; simp [h]

theorem bar0Write_of_light (hb : blkAt a = some b) (h : dark s b = false) :
    bar0Write a v 0xF s = blkWrite b (a % 0x10000) v s := by
  simp [bar0Write, hb, h]

end Bar0Write

theorem exec_registerWrite_bar0 (a v : U32) (be : Byte) (s : State) :
    exec (.registerWrite (.bar0 a v be)) s = .next (bar0Write a.toNat v.toNat be s) := rfl

/-- The whole-dword write of a register at the offset `o` of a block not dark is the block's write. -/
theorem exec_registerWrite_light {k o : Nat} (hk : k < 16) (ho : o < 0x10000) {b : Blk} (hb : blkAt (k * 0x10000) = some b)
    {s : State} (h : dark s b = false) (v : U32) :
    exec (.registerWrite (.bar0 (BitVec.ofNat 32 (k * 0x10000 + o)) v 0xF)) s = .next (blkWrite b o v.toNat s) := by
  have ha : (BitVec.ofNat 32 (k * 0x10000 + o)).toNat = k * 0x10000 + o := by rw [BitVec.toNat_ofNat]; omega
  have hd : (k * 0x10000 + o) / 0x10000 = k * 0x10000 / 0x10000 := by omega
  have hm : (k * 0x10000 + o) % 0x10000 = o := by omega
  have hb' : blkAt (k * 0x10000 + o) = some b := by rw [blkAt, hd]; exact hb
  rw [exec_registerWrite_bar0, ha, bar0Write_of_light hb' h, hm]

/-- A place of a run of registers is found. -/
theorem nth_of_lt {step m n : Nat} (hs : 0 < step) (h : n < m) (base : Nat) : nth base step m (base + step * n) = some n := by
  have h1 : base + step * n - base = step * n := by omega
  simp [nth, h1, Nat.mul_div_cancel_left n hs, h]

/-- The write of an EVT_ROUTE word (R357). -/
theorem evtWrite_route {n : Nat} (h : n < 128) (v : Nat) (s : State) : evtWrite (4 * n) v s =
    { s with evt := { s.evt with route := tset 0 s.evt.route n (v % 32 + 256 * b2n (bit v 8)) } } := by
  have hn : nth 0 4 128 (4 * n) = some n := by simpa using nth_of_lt (by decide : 0 < 4) h 0
  simp only [evtWrite, hn]

/-- The registers of a pair lie 0x40 apart from the block's start (R346). -/
theorem blkWrite_hop {p r : Nat} (hp : p < 16) (hr : r < 0x40) (v : Nat) (s : State) :
    blkWrite .hop (0x40 * p + r) v s = hopWrite p r v s := by
  have h1 : 0x40 * p + r < 0x400 := by omega
  have h2 : (0x40 * p + r) / 0x40 = p := by omega
  have h3 : (0x40 * p + r) % 0x40 = r := by omega
  simp only [blkWrite, h1, h2, h3, if_true]

section HopWrite
variable {p : Nat} {s : State}

theorem hopWrite_size (h : (pair s p).st = .disabled) (v : Nat) :
    hopWrite p 0x18 v s = setPair p { pair s p with size := v % 256 } s := by
  simp [hopWrite, h]

theorem hopWrite_agg (h : (pair s p).st = .disabled) (v : Nat) :
    hopWrite p 0x1C v s = setPair p { pair s p with agg := v % 2 ^ 24 } s := by
  simp [hopWrite, h]

theorem hopWrite_of_not_disabled {r : Nat} (hr : r ≠ 0) (h : (pair s p).st ≠ .disabled) (v : Nat) : hopWrite p r v s = s := by
  simp [hopWrite, hr, h]

end HopWrite

/-- The whole-dword write of a pair's register, the host interface alight. -/
theorem exec_registerWrite_hop {p r : Nat} (hp : p < 16) (hr : r < 0x40) {s : State} (h : dark s .hop = false) (v : U32) :
    exec (.registerWrite (.bar0 (BitVec.ofNat 32 (0x10000 + r + 0x40 * p)) v 0xF)) s = .next (hopWrite p r v.toNat s) := by
  rw [← blkWrite_hop hp hr, ← exec_registerWrite_light (k := 1) (by decide) (by omega) (by decide) h]
  congr 4
  omega

/-! ### BAR4 writes (R343) -/

/-- What a write to a doorbell page does, the host interface alight: it is one of the two doorbells, or it is ignored. -/
def bar4Write (a v : Nat) (be : Byte) (s : State) : State :=
  if a % 4096 = 0 ∧ a < 65536 then hqTail (a / 4096) v be s
  else if a % 4096 = 4 ∧ a < 65536 then bqHead (a / 4096) v be s
  else s

section Bar4Write
variable {a v : U32} {be : Byte} {s : State}

theorem exec_registerWrite_bar4 (h : dark s .hop = false) :
    exec (.registerWrite (.bar4 a v be)) s = .next (bar4Write a.toNat v.toNat be s) := by
  change Host.Outcome.next (regWrite .hop a.toNat (bar4Write a.toNat v.toNat be) s) = _
  rw [regWrite_of_light h]

theorem exec_bar4_hqTail (h : dark s .hop = false) (p : Fin 16) (ha : a.toNat = 4096 * p.val) :
    exec (.registerWrite (.bar4 a v be)) s = exec (.hqTailWrite p v be) s := by
  have hc : a.toNat % 4096 = 0 ∧ a.toNat < 65536 := by omega
  have hp : a.toNat / 4096 = p.val := by omega
  rw [exec_registerWrite_bar4 h, bar4Write, if_pos hc, hp]
  exact congrArg Host.Outcome.next (regWrite_of_light h ..).symm

theorem exec_bar4_bqHead (h : dark s .hop = false) (p : Fin 16) (ha : a.toNat = 4096 * p.val + 4) :
    exec (.registerWrite (.bar4 a v be)) s = exec (.bqHeadWrite p v be) s := by
  have hc : ¬ (a.toNat % 4096 = 0 ∧ a.toNat < 65536) := by omega
  have hc' : a.toNat % 4096 = 4 ∧ a.toNat < 65536 := by omega
  have hp : a.toNat / 4096 = p.val := by omega
  rw [exec_registerWrite_bar4 h, bar4Write, if_neg hc, if_pos hc', hp]
  exact congrArg Host.Outcome.next (regWrite_of_light h ..).symm

theorem exec_bar4_elsewhere (h : dark s .hop = false) (h0 : a.toNat % 4096 ≠ 0) (h4 : a.toNat % 4096 ≠ 4) :
    exec (.registerWrite (.bar4 a v be)) s = .next s := by
  rw [exec_registerWrite_bar4 h, bar4Write, if_neg (h0 ·.1), if_neg (h4 ·.1)]

end Bar4Write

/-! ### MSI-X Message Control (R337, R359) -/

/-- `t` follows `s` by messages alone: of the host interface only the pairs, of which each message restarts some counts. -/
def MessagesOnly (s t : State) : Prop := t = { s with hop := { s.hop with pairs := t.hop.pairs }, evt := t.evt, out := t.out }

theorem MessagesOnly.trans {s t u : State} (h : MessagesOnly s t) (k : MessagesOnly t u) : MessagesOnly s u := by
  unfold MessagesOnly at *
  rw [k, h]

theorem MessagesOnly.rest {s t : State} (h : MessagesOnly s t) : t = { s with hop := t.hop, evt := t.evt, out := t.out } :=
  Eq.trans h (congrArg (fun x => { s with hop := x, evt := t.evt, out := t.out }) (congrArg State.hop h).symm)

theorem sendOwed_messagesOnly (v : Nat) (s : State) : MessagesOnly s (sendOwed v s) := by
  unfold sendOwed; split <;> rfl

theorem sendAllOwed_messagesOnly (s : State) : MessagesOnly s (sendAllOwed s) := by
  unfold sendAllOwed
  induction List.range 32 generalizing s with
  | nil => rfl
  | cons v l ih => exact (sendOwed_messagesOnly v s).trans (ih _)

/-- While the function mask stands or MSI-X is not enabled, nothing that is owed goes. -/
theorem sendOwed_of_withheld {s : State} (h : s.hop.pcie.msixEn = false ∨ s.hop.pcie.funcMask = true) (v : Nat) : sendOwed v s = s := by
  rcases h with h | h
  · simp [sendOwed, msgHeld, h]
  · simp [sendOwed, vecMasked, h]

theorem sendAllOwed_of_withheld {s : State} (h : s.hop.pcie.msixEn = false ∨ s.hop.pcie.funcMask = true) : sendAllOwed s = s := by
  unfold sendAllOwed
  induction List.range 32 with
  | nil => rfl
  | cons v l ih => rw [List.foldl_cons, sendOwed_of_withheld h, ih]

/-- MSI-X Message Control as a write leaves it, before what is owed goes. -/
def controlWritten (e m : Bool) (s : State) : State :=
  { s with hop := { s.hop with pcie := { s.hop.pcie with msixEn := e, funcMask := m } } }

theorem exec_msixControl_eq (e m : Bool) (s : State) :
    exec (.registerWrite (.msixControl e m)) s = .next (sendAllOwed (controlWritten e m s)) := rfl

theorem exec_msixControl (e m : Bool) (s : State) :
    ∃ t, exec (.registerWrite (.msixControl e m)) s = .next t ∧ t.hop.pcie.msixEn = e ∧ t.hop.pcie.funcMask = m ∧
      t = { s with hop := t.hop, evt := t.evt, out := t.out } ∧ (e = false ∨ m = true → t.evt = s.evt ∧ t.out = s.out) := by
  have h := sendAllOwed_messagesOnly (controlWritten e m s)
  have hp := congrArg (fun t => t.hop.pcie) h
  refine ⟨_, exec_msixControl_eq e m s, congrArg PcieRegs.msixEn hp, congrArg PcieRegs.funcMask hp, h.rest, fun hw => ?_⟩
  rw [sendAllOwed_of_withheld (s := controlWritten e m s) hw]
  exact ⟨rfl, rfl⟩

/-! ### Captures and the snapshot (R34, R317, R465) -/

section Captures
variable {v : U32} {s : State}

theorem exec_devAccessErrClear (h : dark s .dev = false) :
    exec (.devAccessErrClear v) s = .next (accErrClear v.toNat s) := congrArg Host.Outcome.next (regWrite_of_light h ..)

theorem exec_secFwViolInfoClear (h : dark s .sec = false) : exec (.secFwViolInfoClear v) s =
    .next (if bit v.toNat 31 then { s with sec := { s.sec with violValid := false } } else s) :=
  congrArg Host.Outcome.next (regWrite_of_light (s := s) h ..)

theorem exec_fanSnapTake (h : dark s .fan = false) : exec (.fanSnapTake v) s = .next (snapTake v.toNat s) :=
  congrArg Host.Outcome.next (regWrite_of_light h ..)

theorem exec_paceCtrlWrite (h : dark s .ing = false) : exec (.paceCtrlWrite v) s = .next (paceCtrl v.toNat s) :=
  congrArg Host.Outcome.next (regWrite_of_light h ..)

theorem exec_secFwReleaseWrite (h : dark s .sec = false) :
    exec (.secFwReleaseWrite v) s = .next (fwReleaseWrite v.toNat s) := congrArg Host.Outcome.next (regWrite_of_light h ..)

end Captures

/-- TAKE holds the time value, its stamp and the counter of one instant (R317). -/
theorem snapTake_of_take {v : Nat} (h : bit v 0 = true) (s : State) : snapTake v s = { s with fan := { s.fan with
    snapSec := nowS s % 2 ^ 48, snapNsec := nowNs s % 1000000000, snapStamp := nowStamp s, snapRaw := rawCount s } } := by
  simp only [snapTake, h, Bool.not_true, Bool.false_eq_true, if_false]
  rfl

theorem paceCtrl_of_change {v : Nat} {s : State} (h : bits v 0 2 ≠ s.dev.paceWindow) : paceCtrl v s = { s with dev := { s.dev with
    paceWindow := bits v 0 2, paceEn := bit v 2, verd := [], doneW := [], verdRun := [], doneRun := [], paceAt := s.elapsed } } := by
  simp only [paceCtrl, h.symm, if_false]

theorem paceCtrl_of_same {v : Nat} {s : State} (h : bits v 0 2 = s.dev.paceWindow) :
    paceCtrl v s = { s with dev := { s.dev with paceEn := bit v 2 } } := by
  simp only [paceCtrl, h, if_true]

/-! ### The release of the DMA engine (R465) -/

theorem getLsbD_clrBit {w : Nat} (x : BitVec w) (k c : Nat) : (clrBit x k).getLsbD c = (x.getLsbD c && decide (c ≠ k)) := by
  by_cases hc : c < w
  · have h := getLsbD_setBit (0#w) k c
    simp only [setBit, BitVec.zero_or, BitVec.getLsbD_zero, Bool.false_or] at h
    simp only [clrBit, BitVec.getLsbD_and, BitVec.getLsbD_not, h, hc, decide_true, Bool.true_and, decide_not, ne_eq]
  · simp [BitVec.getLsbD_of_ge _ _ (Nat.le_of_not_lt hc)]

/-- `t` follows `s` with the firewall's rules and frozen masters as they were, and no pending bit lost. -/
structure KeepsSec (s t : State) : Prop where
  sec : t.sec = s.sec
  raised : ∀ c, raised c s = true → raised c t = true

theorem KeepsSec.refl (s : State) : KeepsSec s s := ⟨rfl, fun _ h => h⟩

theorem KeepsSec.trans {s t u : State} (h : KeepsSec s t) (k : KeepsSec t u) : KeepsSec s u :=
  ⟨k.sec.trans h.sec, fun c hc => k.raised c (h.raised c hc)⟩

theorem EventOnly.keepsSec {s t : State} (h : EventOnly s t) : KeepsSec s t := ⟨h.sec, fun _ hc => raised_mono h hc⟩

/-- The firewall's answer rests on its rules alone (R464). -/
theorem KeepsSec.granted {s t : State} (h : KeepsSec s t) (m a n : Nat) (w : Bool) : granted t m a n w = granted s m a n w := by
  simp only [Machine.granted, h.sec]

theorem setPair_keepsSec (p : Nat) (q : QPair) (s : State) : KeepsSec s (setPair p q s) := ⟨rfl, fun _ h => h⟩

theorem binSignal_keepsSec (p : Nat) (s : State) : KeepsSec s (binSignal p s) :=
  (setPair_keepsSec ..).trans (signal_eventOnly ..).keepsSec

theorem KeepsSec.ite_binSignal {s t : State} (h : KeepsSec s t) (c : Prop) [Decidable c] (p : Nat) :
    KeepsSec s (if c then binSignal p t else t) := by
  split
  · exact h.trans (binSignal_keepsSec p t)
  · exact h

theorem binOverrun_keepsSec (p : Nat) (s : State) : KeepsSec s (binOverrun p s) := by
  have h : KeepsSec s (bump (0x10028 + 0x40 * p) 1 s) := ⟨rfl, fun _ h => h⟩
  simp only [binOverrun]
  split
  · exact h.trans (raise_eventOnly ..).keepsSec
  · exact h

/-- A reply put into its slot, the overrun of a full ring told of first. -/
theorem slotFilled_keepsSec (full : Prop) [Decidable full] (p : Nat) (q : QPair) (o : Out) (s : State) :
    KeepsSec s (setPair p q (emit o (if full then binOverrun p s else s))) := by
  refine KeepsSec.trans ?_ (setPair_keepsSec ..)
  split
  · exact (binOverrun_keepsSec p s).trans ⟨rfl, fun _ h => h⟩
  · exact ⟨rfl, fun _ h => h⟩

theorem writeReply_keepsSec (p k : Nat) (bad : Bool) (s : State) : KeepsSec s (writeReply p k bad s) := by
  unfold writeReply
  dsimp only
  split
  · exact (slotFilled_keepsSec ..).ite_binSignal ..
  · exact .refl s

/-- A reply whose write is granted freezes nothing. -/
theorem judgedReply_keepsSec {s : State} (hg : ∀ a, granted s 4 a 16 true = true) (p k : Nat) (bad : Bool) :
    KeepsSec s (judgedReply p k bad s) := by
  simp only [judgedReply, hg, Bool.not_true, Bool.false_eq_true, if_false]
  split
  · exact .refl s
  · exact writeReply_keepsSec ..

theorem flushReplies_keepsSec (p n : Nat) {s : State} (hg : ∀ a, granted s 4 a 16 true = true) :
    KeepsSec s (flushReplies p n s) := by
  induction n generalizing s with
  | zero => exact .refl s
  | succ n ih =>
    unfold flushReplies
    split
    · next k _ =>
      have h := judgedReply_keepsSec hg p k false
      exact h.trans (ih fun a => (h.granted ..).trans (hg a))
    · exact .refl s

theorem sendAllOwed_keepsSec (s : State) : KeepsSec s (sendAllOwed s) := by
  refine (foldl_eventOnly _ (fun t v => ?_) _ s).keepsSec
  unfold sendOwed; split
  · exact sendMsg_eventOnly ..
  · exact .refl t

/-- The replies held and the messages owed go without a violation where the engine's writes are granted (R338, R465). -/
theorem hopResume_keepsSec {s : State} (hg : ∀ a, granted s 4 a 16 true = true) : KeepsSec s (hopResume s) := by
  refine KeepsSec.trans ?_ (sendAllOwed_keepsSec _)
  induction List.range 16 generalizing s with
  | nil => exact .refl s
  | cons p l ih =>
    have h : KeepsSec s (if binOpen p s then flushReplies p (pair s p).inflight.length s else s) := by
      split
      · exact flushReplies_keepsSec _ _ hg
      · exact .refl s
    exact h.trans (ih fun a => (h.granted ..).trans (hg a))

theorem frozen_releaseMaster (m means : Nat) (s : State) (j : Nat) :
    frozen (releaseMaster m means s) j = (frozen s j && decide (j ≠ m)) := by
  simp only [frozen, releaseMaster, raise_sec, getLsbD_clrBit]

theorem granted_releaseMaster (m means : Nat) (s : State) (j a n : Nat) (w : Bool) :
    granted (releaseMaster m means s) j a n w = granted s j a n w := by
  simp only [granted, releaseMaster, raise_sec]

/-- The release of a frozen master 4 whose writes are granted: it is told of, and no other master thaws or freezes (R465). -/
theorem exec_secFwRelease {s : State} (h : dark s .sec = false) (hf : frozen s 4 = true) (hg : ∀ a, granted s 4 a 16 true = true) :
    ∃ t, exec (.secFwReleaseWrite 0xF1EE0004) s = .next t ∧
      frozen t 4 = false ∧ (∀ m, m ≠ 4 → frozen t m = frozen s m) ∧ raised 97 t = true := by
  have hk := hopResume_keepsSec (s := releaseMaster 4 1 s) fun a => (granted_releaseMaster ..).trans (hg a)
  have hm (j : Nat) : frozen (hopResume (releaseMaster 4 1 s)) j = (frozen s j && decide (j ≠ 4)) := by
    rw [← frozen_releaseMaster, frozen, hk.sec, frozen]
  refine ⟨hopResume (releaseMaster 4 1 s), ?_, by simp [hm], fun m h4 => by simp [hm, h4], hk.raised 97 (raised_raise _ _ _ _ (by decide))⟩
  rw [exec_secFwReleaseWrite h]
  exact congrArg _ ((if_pos rfl).trans (if_pos hf))

theorem exec_secFwRelease_wrong {v : U32} {s : State} (h : dark s .sec = false) (hv : v ≠ 0xF1EE0004) :
    exec (.secFwReleaseWrite v) s = .next (bump 0xC002C 1 s) := by
  rw [exec_secFwReleaseWrite h]
  exact congrArg _ (if_neg (BitVec.toNat_ne_iff_ne.2 hv))

/-! ### The statement -/

/-- Settles O7: the block's own write behind each register, and the captures each by its own law. -/
theorem registerWritesAndCaptures : Obligations.register_writes_and_captures := by
  unfold Obligations.register_writes_and_captures
  refine ⟨⟨fun v s h => ?_, fun n v s h => ?_, fun p v s h hd => ⟨?_, ?_⟩, fun p v s h hd => ?_, fun a v be s hbe h => ?_,
      fun a v s h => ?_, fun a v be s h => ⟨exec_bar4_hqTail h, exec_bar4_bqHead h, exec_bar4_elsewhere h⟩,
      fun v n base mps mrrs c s => ⟨rfl, rfl, rfl, rfl⟩, exec_msixControl, fun a s h => ?_, fun a s h => ?_⟩,
    fun v s h hb => ?_, fun v s hd hs hb => ⟨?_, ?_⟩, fun v s h hb => ?_, fun v s h hb => ?_, fun v s h hb => ?_,
    fun v s h => ⟨fun hw => ?_, fun hw => ?_⟩, fun s => exec_secFwRelease, fun v s => exec_secFwRelease_wrong⟩
  · exact exec_registerWrite_light (k := 0) (o := 0x20) (by decide) (by decide) (by decide) h v
  · rw [exec_registerWrite_light (k := 2) (by decide) (by omega) (by decide) h]
    exact congrArg _ (evtWrite_route n.isLt ..)
  · rw [← hopWrite_size hd, ← exec_registerWrite_hop p.isLt (by decide) h]
  · rw [← hopWrite_agg hd, ← exec_registerWrite_hop p.isLt (by decide) h]
  · have hw := exec_registerWrite_hop p.isLt (r := 0x18) (by decide) h v
    rwa [hopWrite_of_not_disabled (by decide) hd] at hw
  · exact congrArg _ (bar0Write_of_partial hbe h)
  · exact congrArg _ (bar0Write_of_dark h)
  · exact congrArg _ (if_pos h)
  · exact congrArg _ (if_neg (by simp [h]))
  · rw [exec_devAccessErrClear h, accErrClear, if_pos hb]
  · rw [exec_devAccessErrClear hd, accErrClear, hb]; rfl
  · rw [exec_secFwViolInfoClear hs, hb]; rfl
  · rw [exec_fanSnapTake h, snapTake, hb]; rfl
  · rw [exec_secFwViolInfoClear h, if_pos hb]
  · rw [exec_fanSnapTake h, snapTake_of_take hb]
  · rw [exec_paceCtrlWrite h, paceCtrl_of_change hw]
  · rw [exec_paceCtrlWrite h, paceCtrl_of_same hw]

end Sys2Proof.Machine
end

section
/-! PROOF. Which lanes run: LANE_STOP, LANE_RESTART and the disagreement of a Sluice's copies (R101–R103, R107, R118, R386). -/

namespace Sys2Proof.Machine

/-! ### Frames that move between lanes (R101, R102) -/

/-- `t` follows `s` by frames put into lanes or taken out of them. -/
def LanesOnly (s t : State) : Prop := t = { s with ing := { s.ing with lanes := t.ing.lanes } }

theorem LanesOnly.trans {s t u : State} (h : LanesOnly s t) (k : LanesOnly t u) : LanesOnly s u := by
  unfold LanesOnly at *
  rw [k, h]

theorem setLane_lanesOnly (l : Nat) (v : Lane) (s : State) : LanesOnly s (setLane l v s) := rfl

theorem foldl_lanesOnly {α : Type} (f : State → α → State) (hf : ∀ t e, LanesOnly t (f t e)) (l : List α) (s : State) :
    LanesOnly s (l.foldl f s) :=
  List.foldlRecOn l f (motive := LanesOnly s) rfl fun t ht e _ => ht.trans (hf t e)

theorem moveHeld_lanesOnly (s : State) : LanesOnly s (moveHeld s) := by
  refine foldl_lanesOnly _ (fun t l => ?_) _ s
  split
  · rfl
  · exact (setLane_lanesOnly l _ t).trans (foldl_lanesOnly _ (fun _ _ => setLane_lanesOnly ..) _ _)

theorem moveHeld_ing (s : State) : (moveHeld s).ing = { s.ing with lanes := (moveHeld s).ing.lanes } :=
  congrArg (·.ing) (moveHeld_lanesOnly s)

@[simp] theorem moveHeld_run (s : State) : (moveHeld s).ing.run = s.ing.run := congrArg (·.ing.run) (moveHeld_lanesOnly s)
@[simp] theorem moveHeld_mapRun (s : State) : (moveHeld s).ing.mapRun = s.ing.mapRun :=
  congrArg (·.ing.mapRun) (moveHeld_lanesOnly s)
@[simp] theorem moveHeld_cmp (s : State) : (moveHeld s).ing.cmp = s.ing.cmp := congrArg (·.ing.cmp) (moveHeld_lanesOnly s)
@[simp] theorem moveHeld_wdog (s : State) : (moveHeld s).ing.wdog = s.ing.wdog := congrArg (·.ing.wdog) (moveHeld_lanesOnly s)
@[simp] theorem moveHeld_cmd (s : State) : (moveHeld s).ing.cmd = s.ing.cmd := congrArg (·.ing.cmd) (moveHeld_lanesOnly s)
@[simp] theorem moveHeld_led (s : State) : (moveHeld s).led = s.led := congrArg (·.led) (moveHeld_lanesOnly s)
@[simp] theorem moveHeld_saf (s : State) : (moveHeld s).saf = s.saf := congrArg (·.saf) (moveHeld_lanesOnly s)

/-! ### What the withdrawal of setpoints leaves alone (R278) -/

/-- `t` follows `s` with Millrace, the safety block and the poisoned entries as they were, and no pending bit lost. -/
structure KeepsIngest (s t : State) : Prop where
  ing : t.ing = s.ing
  saf : t.saf = s.saf
  poisoned : t.led.poisoned = s.led.poisoned
  raised : ∀ c, raised c s = true → raised c t = true

theorem KeepsIngest.refl (s : State) : KeepsIngest s s := ⟨rfl, rfl, rfl, fun _ h => h⟩

theorem KeepsIngest.trans {s t u : State} (h : KeepsIngest s t) (k : KeepsIngest t u) : KeepsIngest s u :=
  ⟨k.ing.trans h.ing, k.saf.trans h.saf, k.poisoned.trans h.poisoned, fun c hc => k.raised c (h.raised c hc)⟩

theorem EventOnly.keepsIngest {s t : State} (h : EventOnly s t) : KeepsIngest s t :=
  ⟨h.ing, h.saf, congrArg LedgerState.poisoned h.led, fun _ hc => raised_mono h hc⟩

theorem queueDepthSeen_eventOnly (q : Nat) (s : State) : EventOnly s (queueDepthSeen q s) :=
  (depthMark_eventOnly q s).trans (raiseAll_eventOnly ..)

theorem bump_keepsIngest (a n : Nat) (s : State) : KeepsIngest s (bump a n s) := ⟨rfl, rfl, rfl, fun _ h => h⟩

theorem KeepsIngest.ite {s t u : State} {c : Prop} [Decidable c] (ht : KeepsIngest s t) (hu : KeepsIngest s u) :
    KeepsIngest s (if c then t else u) := by
  split
  · exact ht
  · exact hu

theorem queueLoss_keepsIngest (q : Nat) (s : State) : KeepsIngest s (queueLoss q s) :=
  .ite ((bump_keepsIngest ..).trans (raise_eventOnly ..).keepsIngest) (bump_keepsIngest ..)

theorem pushOver_keepsIngest (q : Nat) (b : QBody) (s : State) : KeepsIngest s (pushOver q b s).2 := by
  have hset (l : List QItem) : KeepsIngest s (setQueue q l s) := ⟨rfl, rfl, rfl, fun _ h => h⟩
  simp only [pushOver]
  split
  · exact ((hset _).trans (queueLoss_keepsIngest ..)).trans (queueDepthSeen_eventOnly ..).keepsIngest
  · exact (hset _).trans (queueDepthSeen_eventOnly ..).keepsIngest

theorem syncPend_keepsIngest (i : Nat) (s : State) : KeepsIngest s (syncPend i s) :=
  .ite (.refl s) ⟨rfl, rfl, rfl, fun _ h => h⟩

theorem tai_keepsIngest (v : TailState) (s : State) : KeepsIngest s { s with tai := v } := ⟨rfl, rfl, rfl, fun _ h => h⟩

theorem endSetpoint_keepsIngest (n code : Nat) (s : State) : KeepsIngest s (endSetpoint n code s) := by
  unfold endSetpoint
  split
  · exact .refl s
  · have hfreed := tai_keepsIngest { s.tai with sps := tset none s.tai.sps n none } s
    refine KeepsIngest.trans ?_ (raise_eventOnly ..).keepsIngest
    refine KeepsIngest.trans ?_ (.ite (bump_keepsIngest ..) (.ite (bump_keepsIngest ..) (.refl _)))
    refine KeepsIngest.trans ?_ (pushOver_keepsIngest ..)
    exact .ite ((hfreed.trans (tai_keepsIngest ..)).trans (syncPend_keepsIngest ..)) hfreed

theorem recallItems_keepsIngest (p : TxFrame → Bool) (w : TdfItem → Bool) (s : State) : KeepsIngest s (recallItems p w s).2 :=
  ⟨rfl, rfl, rfl, fun _ h => h⟩

theorem faultWithdraw_keepsIngest (s : State) : KeepsIngest s (faultWithdraw s) := by
  have hends (l : List Nat) : KeepsIngest s (l.foldl (fun t n => endSetpoint n 4 t) s) :=
    List.foldlRecOn l _ (motive := KeepsIngest s) (.refl s) fun _ ht n _ => ht.trans (endSetpoint_keepsIngest n 4 _)
  exact (((hends _).trans (recallItems_keepsIngest ..)).trans (bump_keepsIngest ..)).trans (raise_eventOnly ..).keepsIngest

/-! ### Entry to the safe state (R480) -/

/-- The cause is latched beside those that stood. -/
theorem enterSafe_latched (cause : Nat) (s : State) : (enterSafe cause s).saf.latched = setBit s.saf.latched cause := by
  unfold enterSafe
  split
  · rfl
  · exact congrArg SafState.latched (faultWithdraw_keepsIngest _).saf

theorem enterSafe_safe (cause : Nat) (s : State) : (enterSafe cause s).saf.safe = true := by
  unfold enterSafe
  split
  · assumption
  · exact congrArg SafState.safe (faultWithdraw_keepsIngest _).saf

@[simp] theorem enterSafe_ing (cause : Nat) (s : State) : (enterSafe cause s).ing = s.ing := by
  unfold enterSafe
  split
  · rfl
  · exact (faultWithdraw_keepsIngest _).ing

@[simp] theorem enterSafe_poisoned (cause : Nat) (s : State) : (enterSafe cause s).led.poisoned = s.led.poisoned := by
  unfold enterSafe
  split
  · rfl
  · exact (faultWithdraw_keepsIngest _).poisoned

theorem raised_enterSafe {c : Nat} {s : State} (h : raised c s = true) (cause : Nat) : raised c (enterSafe cause s) = true := by
  unfold enterSafe
  split
  · exact h
  · exact (faultWithdraw_keepsIngest _).raised c h

/-! ### A lane stops (R101, R103) -/

/-- Millrace with a lane out of the map's run bits and the cause of its stop kept. -/
def ingStopped (l cause : Nat) (g : IngState) : IngState :=
  { g with run := clrBit g.run l, cmp := if cause = 0 then setBit g.cmp l else g.cmp
           wdog := if cause = 1 then setBit g.wdog l else g.wdog, cmd := if cause = 2 then setBit g.cmd l else g.cmd }

section LaneStop
variable {l : Nat} {s : State} (cause : Nat)

theorem laneStop_of_last (h : clrBit s.ing.run l = 0) :
    laneStop l cause s = enterSafe 9 (raise 0 l cause { s with ing := ingStopped l cause s.ing }) := if_pos h

/-- Where another lane runs the map is made anew, and what the stopped lanes held moves. -/
theorem laneStop_of_others (h : clrBit s.ing.run l ≠ 0) : laneStop l cause s =
    raise 0 l cause (moveHeld { s with ing := { ingStopped l cause s.ing with mapRun := clrBit s.ing.run l } }) := if_neg h

/-- Beyond the lane's bits, a stop changes the frames of the lanes and the map. -/
theorem laneStop_ing : (laneStop l cause s).ing = { ingStopped l cause s.ing with
    lanes := (laneStop l cause s).ing.lanes, mapRun := (laneStop l cause s).ing.mapRun } := by
  by_cases h : clrBit s.ing.run l = 0
  · rw [laneStop_of_last cause h, enterSafe_ing, raise_ing]
  · rw [laneStop_of_others cause h, raise_ing, moveHeld_ing]

theorem laneStop_run : (laneStop l cause s).ing.run = clrBit s.ing.run l :=
  (congrArg IngState.run (laneStop_ing cause)).trans rfl

theorem laneStop_cmp : (laneStop l cause s).ing.cmp = if cause = 0 then setBit s.ing.cmp l else s.ing.cmp :=
  (congrArg IngState.cmp (laneStop_ing cause)).trans rfl

theorem laneStop_seen : (laneStop l cause s).ing.seen = s.ing.seen := (congrArg IngState.seen (laneStop_ing cause)).trans rfl

theorem laneStop_poisoned : (laneStop l cause s).led.poisoned = s.led.poisoned := by
  by_cases h : clrBit s.ing.run l = 0
  · simp [laneStop_of_last cause h]
  · simp [laneStop_of_others cause h]

theorem raised_laneStop : raised 0 (laneStop l cause s) = true := by
  by_cases h : clrBit s.ing.run l = 0
  · rw [laneStop_of_last cause h]
    exact raised_enterSafe (raised_raise _ _ _ _ (by decide)) _
  · rw [laneStop_of_others cause h]
    exact raised_raise _ _ _ _ (by decide)

end LaneStop

/-! ### The bodies of the two commands (R386) -/

theorem laneStopCmd_of_stopped {l : Nat} {s : State} (hl : l < 4) (h : s.ing.run.getLsbD l = false) :
    laneStopCmd l s = .ok s 0 [] := by simp [laneStopCmd, Nat.not_le.2 hl, h]

theorem laneStopCmd_of_last {l : Nat} {s : State} (hl : l < 4) (h : s.ing.run.getLsbD l = true) (h0 : clrBit s.ing.run l = 0) :
    laneStopCmd l s = .fail .refusedState s := by simp [laneStopCmd, Nat.not_le.2 hl, h, h0, refuse]

theorem laneStopCmd_of_others {l : Nat} {s : State} (hl : l < 4) (h : s.ing.run.getLsbD l = true) (h0 : clrBit s.ing.run l ≠ 0) :
    laneStopCmd l s = .ok (laneStop l 2 s) 0 [] := by
  simp only [laneStopCmd, Nat.not_le.2 hl, h, h0, Bool.not_true, Bool.false_eq_true, if_false]

theorem laneRestartCmd_of_running {l : Nat} {s : State} (hl : l < 4) (h : s.ing.run.getLsbD l = true) (p : Bool) :
    laneRestartCmd l p s = .ok s 0 [] := by simp [laneRestartCmd, Nat.not_le.2 hl, h]

theorem laneRestartCmd_of_stopped {l : Nat} {s : State} (hl : l < 4) (h : s.ing.run.getLsbD l = false) (p : Bool) :
    laneRestartCmd l p s = if p then .ok (laneReturn l s) 0 [] else .fail .refusedState s := by
  simp [laneRestartCmd, Nat.not_le.2 hl, h, refuse]

theorem exec_laneStop (c : Ctx) (l : Byte) (s : State) : exec (.laneStop c l) s =
    .next (command (.laneStop c l) true (laneStopCmd l.toNat) s) := rfl

theorem exec_laneRestart (c : Ctx) (l : Byte) (p : Bool) (s : State) : exec (.laneRestart c l p) s =
    .next (command (.laneRestart c l p) true (laneRestartCmd l.toNat p) s) := rfl

/-! ### A verdict of the Sluice (R104, R107, R118) -/

theorem exec_sluiceVerdict {s : State} (h : dark s .ing = false) (l : Fin 4) (a x : Bool) :
    exec (.sluiceVerdict l a x) s = .next (sluice l.val a x s) := congrArg Host.Outcome.next (if_neg (by simp [h]))

theorem sluice_of_idle {l : Nat} {s : State}
    (h : s.ing.run.getLsbD l = false ∨ (lane s l).input = [] ∨ (lane s l).park.length ≥ 64) (a x : Bool) : sluice l a x s = s := by
  cases hin : (lane s l).input with
  | nil => simp [sluice, hin]
  | cons f rest =>
    have hidle : (!s.ing.run.getLsbD l) = true ∨ parkFull (lane s l) = true := by
      rcases h with h | h | h
      · simp [h]
      · simp [h] at hin
      · simp [parkFull, h]
    simp only [sluice, hin]
    exact if_pos hidle

theorem sluice_of_disagreement {l : Nat} {s : State} (hr : s.ing.run.getLsbD l = true) (hin : (lane s l).input ≠ [])
    (hp : (lane s l).park.length < 64) (x : Bool) : sluice l false x s = laneStop l 0 s := by
  obtain ⟨f, rest, hin⟩ := List.exists_cons_of_ne_nil hin
  simp [sluice, hin, hr, parkFull, Nat.not_le.2 hp]

/-! ### The statement -/

/-- Settles O22: what each command's body answers and what a stop keeps of its cause; held frames move between lanes alone. -/
theorem lanesStopAndReturn : Obligations.lanes_stop_and_return := by
  unfold Obligations.lanes_stop_and_return
  refine ⟨fun c l s ha hl => ⟨fun h => ?_, fun h h0 => ?_, fun h h0 => ?_⟩,
    fun c l p s ha hl => ⟨fun h => ?_, fun h hp => ?_, fun h hp => ?_⟩, fun l a x s hd h => ?_, fun l x s hd hr hin hp => ?_⟩
  · exact congrArg _ (command_of_ok ha rfl rfl (laneStopCmd_of_stopped hl h))
  · exact congrArg _ (command_of_fail ha rfl rfl (laneStopCmd_of_last hl h h0))
  · refine ⟨_, congrArg _ (command_of_ok ha rfl rfl (laneStopCmd_of_others hl h h0)), laneStop_run 2, ?_⟩
    rw [laneStop_of_others 2 h0]
    simp [ingStopped]
  · exact congrArg _ (command_of_ok ha rfl rfl (laneRestartCmd_of_running hl h p))
  · exact congrArg _ (command_of_fail ha rfl rfl (by rw [laneRestartCmd_of_stopped hl h, hp]; rfl))
  · refine ⟨_, congrArg _ (command_of_ok ha rfl rfl (by rw [laneRestartCmd_of_stopped hl h, hp]; rfl)), ?_⟩
    simp [laneReturn]
  · rw [exec_sluiceVerdict hd, sluice_of_idle h]
  · refine ⟨laneStop l.val 0 s, by rw [exec_sluiceVerdict hd, sluice_of_disagreement hr hin hp], laneStop_run 0, laneStop_cmp 0,
      raised_laneStop 0, laneStop_poisoned 0, laneStop_seen 0, fun h0 => ?_⟩
    rw [laneStop_of_last 0 h0]
    exact ⟨enterSafe_safe .., by simp [enterSafe_latched, getLsbD_setBit]⟩

end Sys2Proof.Machine
end

section
/-! PROOF. Datagrams from gateways and by RELAY, the staging ring and the draws from it (R94–R98, R103, R258). -/

namespace Sys2Proof.Machine

/-! ### Dropped datagrams and the full ring (R94, R96, R138) -/

theorem hrDrop_eq (gw : Nat) (s : State) :
    hrDrop gw s = raise 11 gw (Config.freeNat s.free % 2 ^ 32) (bump 0x4004C 1 { s with free := s.free + 1 }) := rfl

/-- A dropped datagram is counted and told of, and changes nothing of Millrace (R94). -/
theorem hrDrop_tells (gw : Nat) (s : State) :
    (hrDrop gw s).ing = s.ing ∧ raised 11 (hrDrop gw s) = true ∧ cnt 0x4004C (hrDrop gw s) = sat32 (cnt 0x4004C s + 1) := by
  rw [hrDrop_eq]
  exact ⟨raise_ing .., raised_raise _ _ _ _ (by decide), ((raise_eventOnly ..).counts _ (by decide)).trans (cnt_bump_same ..)⟩

/-- A datagram that finds the ring full is counted and told of with those of the last second (R96). -/
theorem stagingOverflow_tells (s : State) : (stagingOverflow s).ing = { s.ing with
      ovf := s.elapsed :: s.ing.ovf.filter (fun u => !passed s u tickS) } ∧
    raised 12 (stagingOverflow s) = true ∧ cnt 0x40050 (stagingOverflow s) = sat32 (cnt 0x40050 s + 1) :=
  ⟨raise_ing .., raised_raise _ _ _ _ (by decide), ((raise_eventOnly ..).counts _ (by decide)).trans (cnt_bump_same ..)⟩

/-- A datagram that fits joins the ring's end (R96). -/
theorem stage_of_room {d : Staged} {s : State} (h : stagedBytes s + d.payload.length ≤ 2 ^ 26) :
    stage d s = { s with ing := { s.ing with staging := s.ing.staging ++ [d] } } := if_neg (Nat.not_lt.2 h)

theorem stage_of_full {d : Staged} {s : State} (h : 2 ^ 26 < stagedBytes s + d.payload.length) :
    stage d s = stagingOverflow s := if_pos h

/-! ### A datagram on an Ethernet port (R94, R96, R258) -/

/-- The gateway table after a datagram of a gateway it lists: it keeps where the gateway answered from (R258). -/
def gwHeard (g : Nat) (f : UdpIn) (x : Datagram) (s : State) : State :=
  setGw g { gwAt s g with seen := true, eth := f.eth.val, udp := x.sport } s

section Headrace
variable {f : UdpIn} {s : State} {x : Datagram}

theorem headrace_of_closed (h : hrClosed s = true) : headrace f s = s := if_pos h

theorem headrace_of_no_datagram (h : hrClosed s = false) (hx : udpParse f.frame = none) : headrace f s = hrDrop 0xFFFF s := by
  simp [headrace, h, hx]

/-- A datagram for another port, or not of KIND 0x01's form, is dropped under the GW_ID it has where one would stand. -/
theorem headrace_of_malformed (h : hrClosed s = false) (hx : udpParse f.frame = some x)
    (hbad : x.dport ≠ paramN s .device 7 0 ∨ hrParse x.payload = none) : headrace f s = hrDrop (gwOf x.payload) s := by
  simp only [headrace, h, hx, Bool.false_eq_true, if_false]
  rcases hbad with hp | hp
  · exact if_pos hp
  · simp [hp]

/-- Where the sender of a well-formed datagram is known, the gateway table keeps where it answered from. -/
theorem headrace_of_wellFormed {g : Nat} {b : List (Byte × List Byte)} (h : hrClosed s = false)
    (hx : udpParse f.frame = some x) (hp : x.dport = paramN s .device 7 0) (hb : hrParse x.payload = some (g, b)) :
    headrace f s = if !(gwAt s g).set ∨ (gwAt s g).af ≠ x.af ∨ (gwAt s g).addr ≠ x.src then hrDrop g s
      else stage ⟨g, false, f.eth.val, x.src, x.sport, nowNs s, x.payload⟩ (gwHeard g f x s) := by
  simp only [headrace, gwHeard, h, hx, hb, hp, Bool.false_eq_true, if_false, ne_eq, not_true]

end Headrace

/-! ### RELAY (R98) -/

/-- A datagram of a RELAY as it stands in the staging ring: it came over PCIe, and no gateway is to be answered. -/
def relayed (s : State) (d : List Byte) : Staged :=
  { gwId := ((hrParse d).map (·.1)).getD 0, pcie := true, eth := 0, addr := 0, udp := 0, rxNs := nowNs s, payload := d }

/-- What RELAY does with one datagram. -/
def relayOne (s t : State) (d : List Byte) : State :=
  match hrParse d with
  | none => hrDrop (gwOf d) t
  | some (g, _) => stage { gwId := g, pcie := true, eth := 0, addr := 0, udp := 0, rxNs := nowNs s, payload := d } t

theorem relayOne_of_wellFormed {d : List Byte} (h : (hrParse d).isSome = true) (s t : State) :
    relayOne s t d = stage (relayed s d) t := by
  obtain ⟨⟨g, b⟩, hd⟩ := Option.isSome_iff_exists.1 h
  simp [relayOne, relayed, hd]

theorem stagedBytes_append (d : Staged) (t : State) :
    stagedBytes { t with ing := { t.ing with staging := t.ing.staging ++ [d] } } = stagedBytes t + d.payload.length := by
  simp [stagedBytes]

/-- Well-formed datagrams that all fit join the ring in their order, and nothing else changes. -/
theorem foldl_relayOne {l : List (List Byte)} (hw : ∀ d ∈ l, (hrParse d).isSome = true) (s t : State)
    (hfit : stagedBytes t + (l.map (·.length)).sum ≤ 2 ^ 26) :
    l.foldl (relayOne s) t = { t with ing := { t.ing with staging := t.ing.staging ++ l.map (relayed s) } } := by
  induction l generalizing t with
  | nil => simp
  | cons d l ih =>
    simp only [List.map_cons, List.sum_cons] at hfit
    have hd : relayOne s t d = { t with ing := { t.ing with staging := t.ing.staging ++ [relayed s d] } } := by
      rw [relayOne_of_wellFormed (hw d List.mem_cons_self), stage_of_room (by simp only [relayed]; omega)]
    rw [List.foldl_cons, hd, ih (fun e he => hw e (List.mem_cons_of_mem _ he))]
    · simp
    · rw [stagedBytes_append]; simp only [relayed]; omega

section Relay
variable {c : Ctx} {n : Nat} {l : List (List Byte)} {s : State}

/-- RELAY of well-formed datagrams places all of them or none (R98). -/
theorem relayCmd_of_wellFormed (h0 : 0 < n) (hn : n ≤ 256) (hl : relayParse n c.xin = some l)
    (hw : ∀ d ∈ l, (hrParse d).isSome = true) :
    relayCmd c n s = if 2 ^ 26 < stagedBytes s + (l.map (·.length)).sum then .fail .busy s
      else .ok (l.foldl (relayOne s) s) l.length [] := by
  have hgood : l.filter (fun d => (hrParse d).isSome) = l := List.filter_eq_self.2 hw
  have hform : ¬ (n = 0 ∨ 256 < n) := by omega
  simp only [relayCmd, hl, hgood, hform, if_false, refuse]
  rfl

end Relay

/-! ### Draws (R96, R103, R492, R504) -/

/-- `t` follows `s` by frames put behind those in the lanes' inputs. -/
structure InputsGrow (s t : State) : Prop where
  lanes : LanesOnly s t
  input : ∀ k, ∃ fs, (lane t k).input = (lane s k).input ++ fs

theorem InputsGrow.trans {s t u : State} (h : InputsGrow s t) (k : InputsGrow t u) : InputsGrow s u where
  lanes := h.lanes.trans k.lanes
  input n := by
    obtain ⟨fs, hfs⟩ := h.input n
    obtain ⟨gs, hgs⟩ := k.input n
    exact ⟨fs ++ gs, by rw [hgs, hfs, List.append_assoc]⟩

theorem present_inputsGrow (f : Frame) (s : State) : InputsGrow s (present f s) where
  lanes := setLane_lanesOnly ..
  input k := by
    by_cases hk : k = laneOf s.ing.mapRun (resolve s f)
    · subst hk; exact ⟨[resolve s f], by simp [present]⟩
    · exact ⟨[], by simp [present, lane_setLane_other _ _ _ hk]⟩

theorem foldl_present_inputsGrow (fs : List Frame) (s : State) : InputsGrow s (fs.foldl (fun t f => present f t) s) :=
  List.foldlRecOn fs _ (motive := InputsGrow s) ⟨rfl, fun _ => ⟨[], (List.append_nil _).symm⟩⟩
    fun t ht f _ => ht.trans (present_inputsGrow f t)

/-- Nothing may be drawn: the conditions of R103, R492 and R504, and a full lane. -/
theorem laneDraw_of_cons {d : Staged} {rest : List Staged} {s : State} (h : s.ing.staging = d :: rest) :
    laneDraw s = if halted s .ing 6 ∨ !memUp s ∨ s.dev.quiet ∨ s.ing.run = 0 ∨ entryPast s 3 ∨ !roomFor s (stagedFrames d) then s
      else (stagedFrames d).foldl (fun t f => present f t) { s with ing := { s.ing with staging := rest } } := by
  simp only [laneDraw, h]

/-! ### The statement -/

theorem exec_relay (c : Ctx) (n : U16) (s : State) : exec (.relay c n) s =
    .next (command (.relay c n) true (relayCmd c n.toNat) s) := rfl

/-- A datagram at fault, or of a gateway that the table does not list, is dropped (R94). -/
theorem exec_headraceDatagram_dropped {d : UdpIn} {s : State} {gw : Nat} (h : headrace d s = hrDrop gw s) :
    ∃ t, exec (.headraceDatagram d) s = .next t ∧ t.ing = s.ing ∧ raised 11 t = true ∧ cnt 0x4004C t = sat32 (cnt 0x4004C s + 1) :=
  ⟨_, congrArg Host.Outcome.next h, hrDrop_tells gw s⟩

/-- Settles O35: Headrace case by case, RELAY by induction on its datagrams, and a draw by the frames it presents. -/
theorem ingestAndStaging : Obligations.ingest_and_staging := by
  unfold Obligations.ingest_and_staging
  refine ⟨fun d s => ⟨fun hc => congrArg _ (headrace_of_closed hc), fun hc => ⟨fun hx => ?_, fun x hx => ⟨fun hbad => ?_,
      fun g b hb hp => ⟨fun hgw => ?_, fun hset haf haddr => ?_⟩⟩⟩⟩,
    fun c n l s ha h0 hn hl hw => ⟨fun hfull => ?_, fun hfit => ?_⟩, fun d rest s hs => ⟨fun hno => ?_, fun hr hh hm hq he hroom => ?_⟩⟩
  · exact exec_headraceDatagram_dropped (headrace_of_no_datagram hc hx)
  · exact exec_headraceDatagram_dropped (headrace_of_malformed hc hx hbad)
  · exact exec_headraceDatagram_dropped ((headrace_of_wellFormed hc hx hp hb).trans (if_pos (by simpa using hgw)))
  · have hknown := (headrace_of_wellFormed hc hx hp hb).trans (if_neg (by simp [hset, haf, haddr]))
    refine ⟨fun hfit => ?_, fun hfull => ?_⟩
    · refine ⟨_, congrArg Host.Outcome.next (hknown.trans (stage_of_room hfit)), rfl, gwAt_setGw_same ..⟩
    · obtain ⟨hing, hraised, hcnt⟩ := stagingOverflow_tells (gwHeard g d x s)
      refine ⟨_, congrArg Host.Outcome.next (hknown.trans (stage_of_full hfull)), ?_, ?_, hraised, hcnt⟩
      · exact (congrArg IngState.staging hing).trans rfl
      · exact (congrArg IngState.ovf hing).trans rfl
  · exact congrArg _ (command_of_fail ha rfl rfl ((relayCmd_of_wellFormed h0 hn hl hw).trans (if_pos hfull)))
  · have hput := foldl_relayOne hw s s hfit
    refine ⟨_, congrArg _ (command_of_ok ha rfl rfl ((relayCmd_of_wellFormed h0 hn hl hw).trans (if_neg (Nat.not_lt.2 hfit)))), ?_⟩
    rw [hput]
    simp [relayed, Function.comp_def]
  · refine congrArg Host.Outcome.next ((laneDraw_of_cons hs).trans (if_pos ?_))
    rcases hno with h | h | h | h | h | h <;> simp [h]
  · have hgrow := foldl_present_inputsGrow (stagedFrames d) { s with ing := { s.ing with staging := rest } }
    refine ⟨_, congrArg Host.Outcome.next ((laneDraw_of_cons hs).trans (if_neg ?_)), ?_, hgrow.input⟩
    · simpa [hh, hm, hq, he, hroom] using hr
    · exact congrArg (·.ing.staging) hgrow.lanes

end Sys2Proof.Machine
end

section
/-! PROOF. A command runs as the packet that spells it: GATEWAY_SET of another OP than the waiting packet's does not start
(R348, R355, R370). -/

namespace Sys2Proof.Machine

/-- A command that is not the packet whose turn it is changes nothing (R355). -/
theorem command_of_not_startable {i : Instr} {k : HostCmd} {form : Bool} {body : State → CmdRes} {s : State}
    (hk : hostCmd i = some k) (h : startable k s = false) : command i form body s = s := by
  simp [command, hk, runCmd, h]

theorem exec_gatewaySet (c : Ctx) (g : U16) (op af : Byte) (a : BitVec 128) (s : State) : exec (.gatewaySet c g op af a) s =
    .next (command (.gatewaySet c g op af a) true (gatewaySetCmd g.toNat op.toNat af.toNat a.toNat) s) := rfl

/-- A command on pair 0 with TAG 0 and no transfer. -/
def gatewayCtx : Ctx := { pair := 0, tag := 0, xlen := 0, xin := [] }

/-- The packet of GATEWAY_SET with OP 0: row 7 is to be the IPv4 address 9. -/
def gatewayWritePacket : Inflight := { opcode := 0x0103, par := le (7 : U16) ++ le (0 : Byte) ++ le (4 : Byte) ++ le (9 : BitVec 128) }

/-- After reset, that packet alone waits on pair 0. -/
def gatewayWriteWaits : State := setPair 0 { inflight := [gatewayWritePacket] } {}

/-- The packet that waits is accepted as the command it spells. -/
theorem gatewayWrite_accepted : accepts (.gatewaySet gatewayCtx 7 0 4 9) gatewayWriteWaits = true := by decide

/-- The command of OP 1 is not that packet, and does not start. -/
theorem gatewayClear_unchanged : exec (.gatewaySet gatewayCtx 7 1 4 9) gatewayWriteWaits = .next gatewayWriteWaits :=
  (exec_gatewaySet ..).trans (congrArg Host.Outcome.next (command_of_not_startable rfl (by decide)))

/-- The replies that the packets in flight on pair 0 have. -/
def repliesOfPair0 (s : State) : List (Option Reply) := (pair s 0).inflight.map (·.reply)

/-- Refutes O36: its clause on OP 1 holds the command to be carried out wherever the same command with any other OP is accepted. Where
the packet that waits on pair 0 spells GATEWAY_SET with OP 0, that one is accepted, and the command with OP 1 changes nothing, so it
gives the packet no reply. -/
theorem not_gatewaysExportAndResend : ¬ Obligations.gateways_export_and_resend := by
  unfold Obligations.gateways_export_and_resend
  intro ⟨hgateway, _⟩
  obtain ⟨-, hclear, -⟩ := hgateway gatewayCtx 7 0 4 9 gatewayWriteWaits gatewayWrite_accepted
  have hsame := Host.Outcome.next.inj (gatewayClear_unchanged.symm.trans (hclear (by decide)))
  exact absurd (congrArg repliesOfPair0 hsame) (by decide)

end Sys2Proof.Machine
end

section
/-! PROOF. Beacons due and dropped, relays, the upstream's deadline and the ramp's end (R131, R183, R199–R209, R390). -/

namespace Sys2Proof.Machine

/-! ### A radio port's queue (R183, R196) -/

/-- A port with one more frame in its queue. -/
def withFrame (f : TxFrame) (v : VPort) : VPort := { v with queue := v.queue ++ [f] }

/-- With the radio group enabled a frame joins its port's queue. -/
theorem radioQueue_of_group {s : State} (hd : dark s .van = false) (hg : grp s 0 = true) (p : Nat) (f : TxFrame) :
    radioQueue p f s = setVport p (withFrame f (vport s p)) s := by
  have hodd : ¬ s.brk.groups % 2 = 0 := by
    simp only [grp, bit, Nat.testBit_zero, decide_eq_true_eq] at hg
    omega
  simp only [radioQueue, hd, hodd, Bool.false_eq_true, if_false]
  rfl

theorem queue_radioQueue (p : Nat) (f : TxFrame) (s : State) : queue (radioQueue p f s) 5 = queue s 5 := by
  unfold radioQueue
  split
  · rfl
  split
  · exact (raise_eventOnly ..).queues 5 (by decide)
  · rfl

/-- A frame put on the queues of several ports stands once on each of them. -/
theorem vport_foldl_radioQueue {l : List Nat} (hl : l.Nodup) (f : TxFrame) {s : State} (hd : dark s .van = false)
    (hg : grp s 0 = true) (p : Nat) : vport (l.foldl (fun t p => radioQueue p f t) s) p =
      if p ∈ l then withFrame f (vport s p) else vport s p := by
  induction l generalizing s with
  | nil => rfl
  | cons q l ih =>
    obtain ⟨hq, hl⟩ := List.nodup_cons.1 hl
    rw [List.foldl_cons, radioQueue_of_group hd hg, ih hl (s := setVport q (withFrame f (vport s q)) s) hd hg]
    by_cases hpq : p = q
    · subst hpq; simp [hq]
    · simp [hpq, vport_setVport_other _ _ _ hpq]

/-- Frames that came too late leave a port's queue, each told of. -/
def lateDropped (p : Nat) (late : TxFrame → Bool) (tell : State → TxFrame → State) (s : State) : State :=
  ((vport s p).queue.filter late).foldl tell
    (if (vport s p).queue.any late then setVport p { vport s p with queue := (vport s p).queue.filter (fun f => !late f) } s else s)

theorem queue_lateDropped {tell : State → TxFrame → State} (ht : ∀ t f, (tell t f).van = t.van) (p : Nat)
    (late : TxFrame → Bool) (s : State) :
    (vport (lateDropped p late tell s) p).queue = (vport s p).queue.filter (fun f => !late f) := by
  have hvan (l : List TxFrame) (t : State) : (l.foldl tell t).van = t.van :=
    List.foldlRecOn l tell (motive := fun u => u.van = t.van) rfl fun u hu f _ => (ht u f).trans hu
  rw [lateDropped, vport, hvan]
  by_cases h : (vport s p).queue.any late = true
  · rw [if_pos h]
    exact congrArg VPort.queue (vport_setVport_same ..)
  · rw [if_neg h]
    exact (List.filter_eq_self.2 fun f hf => by simpa using fun hl => h (List.any_eq_true.2 ⟨f, hf, hl⟩)).symm

/-- What every element of a list makes pending is pending after a fold over one that is not empty. -/
theorem raised_foldl {α : Type} {c : Nat} {f : State → α → State} (hf : ∀ t x, raised c (f t x) = true) {l : List α}
    (hl : l ≠ []) (s : State) : raised c (l.foldl f s) = true := by
  obtain ⟨x, l, rfl⟩ := List.exists_cons_of_ne_nil hl
  exact List.foldlRecOn l f (motive := fun t => raised c t = true) (hf s x) fun t _ y _ => hf t y

theorem raised_lateDropped {c p : Nat} {late : TxFrame → Bool} {tell : State → TxFrame → State} {s : State}
    (ht : ∀ t f, raised c (tell t f) = true) (h : (vport s p).queue.any late = true) :
    raised c (lateDropped p late tell s) = true := by
  obtain ⟨f, hf, hl⟩ := List.any_eq_true.1 h
  exact raised_foldl ht (List.ne_nil_of_mem (List.mem_filter.2 ⟨hf, hl⟩)) _

/-! ### Beacons and relays not on air in time (R202, R204) -/

/-- A beacon not on air within half a period (R204). -/
def beaconLate (s : State) (f : TxFrame) : Bool := f.prio == 3 && passed s f.due (beaconMs s * tickMs / 2)

/-- A relay not on air within 50 ms (R202). -/
def relayFrameLate (s : State) (f : TxFrame) : Bool := f.prio == 4 && passed s f.due (50 * tickMs)

/-- A dropped beacon is counted and told of. -/
def beaconLost (p : Nat) (t : State) (f : TxFrame) : State := raise 33 p f.bseq (bump (vanCtr p 7) 1 t)

/-- A dropped relay is counted and told of. -/
def relayLost (t : State) (f : TxFrame) : State := raise 37 f.item 0 (bump 0x60018 1 t)

theorem beaconLost_van (p : Nat) (t : State) (f : TxFrame) : (beaconLost p t f).van = t.van := raise_van ..

theorem relayLost_van (t : State) (f : TxFrame) : (relayLost t f).van = t.van := raise_van ..

theorem raised_beaconLost (p : Nat) (t : State) (f : TxFrame) : raised 33 (beaconLost p t f) = true := raised_raise _ _ _ _ (by decide)

theorem raised_relayLost (t : State) (f : TxFrame) : raised 37 (relayLost t f) = true := raised_raise _ _ _ _ (by decide)

/-! ### Beacons due (R131, R204–R207) -/

/-- The number of the port's beacon that fell due last. -/
def beaconCount (p : Nat) (s : State) : Nat :=
  (s.elapsed + beaconMs s * tickMs - p * (beaconMs s * tickMs) / 8) / (beaconMs s * tickMs)

/-- The tick at which it fell due. -/
def beaconInstant (p : Nat) (s : State) : Nat :=
  beaconCount p s * (beaconMs s * tickMs) + p * (beaconMs s * tickMs) / 8 - beaconMs s * tickMs

/-- A beacon falls due on a beacon port (R204): it is not the one the port dealt with last. -/
structure BeaconFalls (p : Nat) (s : State) : Prop where
  port : bit (paramN s .vane 13 0) p = true
  light : dark s .van = false
  count : beaconCount p s ≠ 0
  fresh : (vport s p).beaconAt = 0 ∨ (vport s p).beaconAt ≤ beaconInstant p s

/-- The port keeps which beacon it has dealt with. -/
def beaconMarked (p : Nat) (s : State) : State := setVport p { vport s p with beaconAt := beaconInstant p s + 1 } s

/-- The beacon of a BSEQ joins its port's queue, with the HINT of that moment (R205, R206). -/
def beaconQueued (p due n : Nat) (s : State) : State :=
  radioQueue p { prio := 3, bytes := beaconBody n s, due := due, bseq := n } { s with van := { s.van with lastHint := hintOf s } }

theorem beaconDue_of_other_port {p : Nat} {s : State} (h : bit (paramN s .vane 13 0) p = false) : beaconDue p s = s :=
  if_pos (.inl (by simp [h]))

/-- BSEQ's reserve with one value taken. -/
def bseqTaken (s : State) : State := setReserve 1 { reserve s 1 with val := (reserve s 1).val + 1 } s

section TakeBseq
variable {s : State}

theorem takeReserve_of_value {k : Nat} (hc : (reserve s k).val < (reserve s k).ceil) :
    takeReserve k s = (some (reserve s k).val, setReserve k { reserve s k with val := (reserve s k).val + 1 } s) := if_pos hc

/-- At a reserve's ceiling nothing is taken; the record of it touches no port (R131). -/
theorem takeReserve_of_ceiling {k : Nat} (hc : (reserve s k).ceil ≤ (reserve s k).val) :
    (takeReserve k s).1 = none ∧ (takeReserve k s).2.van = s.van := by
  simp only [takeReserve, Nat.not_lt.2 hc, if_false]
  split
  · exact ⟨trivial, rfl⟩
  · exact ⟨trivial, (recordOnly_eventOnly ..).van⟩

/-- The last BSEQ is told of on every beacon port. -/
def bseqEnded (s : State) : State :=
  ((List.range 8).filter (fun p => bit (paramN s .vane 13 0) p)).foldl (fun t p => raise 33 p 0xFFFF0000 t) (bseqTaken s)

/-- A BSEQ is taken below the ceiling and up to the last one (R131, R205). -/
theorem takeBseq_of_value (hc : (reserve s 1).val < (reserve s 1).ceil) (hv : (reserve s 1).val ≤ 0xFFFF0000) :
    takeBseq s = (some (reserve s 1).val, if (reserve s 1).val = 0xFFFF0000 then bseqEnded s else bseqTaken s) := by
  simp only [takeBseq, Nat.not_lt.2 hv, if_false, takeReserve_of_value hc]
  split
  · next h => rw [if_pos (Option.some.inj h)]; rfl
  · next h => rw [if_neg fun e => h (congrArg some e)]; rfl

theorem bseqEnded_eventOnly (s : State) : EventOnly (bseqTaken s) (bseqEnded s) :=
  foldl_eventOnly _ (fun _ _ => raise_eventOnly ..) _ _

theorem raised_bseqEnded {p : Nat} (hp8 : p < 8) (hp : bit (paramN s .vane 13 0) p = true) : raised 33 (bseqEnded s) = true :=
  raised_foldl (fun _ _ => raised_raise _ _ _ _ (by decide))
    (List.ne_nil_of_mem (List.mem_filter.2 ⟨List.mem_range.2 hp8, hp⟩)) _

theorem takeBseq_of_spent (h : (reserve s 1).ceil ≤ (reserve s 1).val ∨ 0xFFFF0000 < (reserve s 1).val) :
    (takeBseq s).1 = none ∧ (takeBseq s).2.van = s.van := by
  by_cases hv : 0xFFFF0000 < (reserve s 1).val
  · simp [takeBseq, hv]
  · obtain ⟨hnone, hvan⟩ := takeReserve_of_ceiling (h.resolve_right hv)
    simp [takeBseq, hv, hnone, hvan]

end TakeBseq

/-- What a taken BSEQ leaves: the last one is told of besides. -/
def bseqLeft (s : State) : State := if (reserve s 1).val = 0xFFFF0000 then bseqEnded s else bseqTaken s

theorem bseqLeft_eventOnly (s : State) : EventOnly (bseqTaken s) (bseqLeft s) := by
  unfold bseqLeft
  split
  · exact bseqEnded_eventOnly s
  · exact .refl _

/-- A transmission due without the claim is counted and told of (R183). -/
theorem gatedDrop_tells (p : Nat) (s : State) :
    (gatedDrop p s).van = s.van ∧ (gatedDrop p s).ing = s.ing ∧ raised 42 (gatedDrop p s) = true :=
  ⟨raise_van .., raise_ing .., raised_raise _ _ _ _ (by decide)⟩

theorem reserve_gatedDrop (p k : Nat) (s : State) : reserve (gatedDrop p s) k = reserve s k := by
  simp only [reserve, (gatedDrop_tells p s).2.1]

/-- HINT rests on what no raise touches (R206, R207). -/
theorem EventOnly.hintOf {s t : State} (h : EventOnly s t) : hintOf t = hintOf s := by
  simp only [Machine.hintOf, paramN, param, h.dev, h.van, h.ing, h.elapsed, h.cfg]

theorem EventOnly.grp {s t : State} (h : EventOnly s t) (k : Nat) : grp t k = grp s k := by simp only [Machine.grp, h.brk]

theorem EventOnly.vport {s t : State} (h : EventOnly s t) (p : Nat) : vport t p = vport s p := by simp only [Machine.vport, h.van]

theorem EventOnly.reserve {s t : State} (h : EventOnly s t) (k : Nat) : reserve t k = reserve s k := by
  simp only [Machine.reserve, h.ing]

theorem beaconQueued_of_group {s : State} (hd : dark s .van = false) (hg : grp s 0 = true) (p due n : Nat) :
    beaconQueued p due n s = setVport p (withFrame { prio := 3, bytes := beaconBody n s, due := due, bseq := n } (vport s p))
      { s with van := { s.van with lastHint := hintOf s } } :=
  radioQueue_of_group (s := { s with van := { s.van with lastHint := hintOf s } }) hd hg _ _

section BeaconFate
variable {p : Nat} {s : State}

theorem vport_beaconMarked (p : Nat) (s : State) :
    vport (beaconMarked p s) p = { vport s p with beaconAt := beaconInstant p s + 1 } := vport_setVport_same ..

/-- The fate of a beacon rests on the radio group and on its BSEQ. -/
theorem beaconDue_of_falls (h : BeaconFalls p s) : beaconDue p s =
    if !grp s 0 then gatedDrop p (beaconMarked p s)
    else (takeBseq (beaconMarked p s)).1.elim (takeBseq (beaconMarked p s)).2
      (fun n => beaconQueued p (beaconInstant p s) n (takeBseq (beaconMarked p s)).2) := by
  obtain ⟨hport, hlight, hcount, hfresh⟩ := h
  have hdue : ¬ ((!bit (paramN s .vane 13 0) p) = true ∨ dark s .van = true ∨ beaconCount p s = 0 ∨
      ((vport s p).beaconAt ≠ 0 ∧ beaconInstant p s ≤ (vport s p).beaconAt - 1)) := by
    simp only [hport, hlight, hcount, Bool.not_true, Bool.false_eq_true, false_or]
    omega
  refine (if_neg hdue).trans ?_
  change (if (!grp s 0) = true then gatedDrop p (beaconMarked p s) else _) = _
  congr 1
  change (match takeBseq (beaconMarked p s) with | (none, t) => t | (some n, t) => beaconQueued p (beaconInstant p s) n t) = _
  rcases takeBseq (beaconMarked p s) with ⟨_ | n, t⟩ <;> rfl

/-- Without the radio group a beacon takes no BSEQ: it is counted and told of. -/
theorem beaconDue_of_gated (h : BeaconFalls p s) (hg : grp s 0 = false) : beaconDue p s = gatedDrop p (beaconMarked p s) :=
  (beaconDue_of_falls h).trans (if_pos (by simp [hg]))

theorem vport_beaconDue_of_gated (h : BeaconFalls p s) (hg : grp s 0 = false) :
    vport (beaconDue p s) p = vport (beaconMarked p s) p := by
  rw [beaconDue_of_gated h hg]
  simp only [vport, (gatedDrop_tells p (beaconMarked p s)).1]

/-- Without a BSEQ nothing is sent. -/
theorem vport_beaconDue_of_spent (h : BeaconFalls p s) (hg : grp s 0 = true)
    (hs : (reserve s 1).ceil ≤ (reserve s 1).val ∨ 0xFFFF0000 < (reserve s 1).val) :
    vport (beaconDue p s) p = vport (beaconMarked p s) p := by
  obtain ⟨hnone, hvan⟩ := takeBseq_of_spent (s := beaconMarked p s) hs
  rw [beaconDue_of_falls h, if_neg (by simp [hg]), hnone]
  simp only [Option.elim_none, vport, hvan]

/-- A beacon that finds a BSEQ takes it to its port's queue. -/
theorem beaconDue_of_taken (h : BeaconFalls p s) (hg : grp s 0 = true) (hc : (reserve s 1).val < (reserve s 1).ceil)
    (hv : (reserve s 1).val ≤ 0xFFFF0000) :
    beaconDue p s = beaconQueued p (beaconInstant p s) (reserve s 1).val (bseqLeft (beaconMarked p s)) := by
  have htake : takeBseq (beaconMarked p s) = (some (reserve s 1).val, bseqLeft (beaconMarked p s)) := takeBseq_of_value hc hv
  rw [beaconDue_of_falls h, if_neg (by simp [hg]), htake]
  rfl

theorem beaconQueued_bseqLeft (h : BeaconFalls p s) (hg : grp s 0 = true) (due n : Nat) :
    ∃ f, f.prio = 3 ∧ f.bseq = n ∧ f.due = due ∧ beaconQueued p due n (bseqLeft (beaconMarked p s)) =
      setVport p (withFrame f (vport (beaconMarked p s) p))
        { bseqLeft (beaconMarked p s) with van := { (beaconMarked p s).van with lastHint := hintOf s } } := by
  have hleft := bseqLeft_eventOnly (beaconMarked p s)
  have hport : vport (bseqLeft (beaconMarked p s)) p = vport (beaconMarked p s) p := hleft.vport p
  have hvan : (bseqLeft (beaconMarked p s)).van = (beaconMarked p s).van := hleft.van
  have hhint : hintOf (bseqLeft (beaconMarked p s)) = hintOf s := hleft.hintOf
  refine ⟨{ prio := 3, bytes := beaconBody n (bseqLeft (beaconMarked p s)), due := due, bseq := n }, rfl, rfl, rfl,
    (beaconQueued_of_group ((hleft.dark .van).trans h.light) ((hleft.grp 0).trans hg) p due n).trans ?_⟩
  rw [hport, hvan, hhint]

theorem beaconDue_takes (h : BeaconFalls p s) (hp8 : p < 8) (hg : grp s 0 = true) (hc : (reserve s 1).val < (reserve s 1).ceil)
    (hv : (reserve s 1).val ≤ 0xFFFF0000) :
    ((reserve s 1).val = 0xFFFF0000 → raised 33 (beaconDue p s) = true) ∧
    (reserve (beaconDue p s) 1).val = (reserve s 1).val + 1 ∧ (beaconDue p s).van.lastHint = hintOf s ∧
    ∃ f, vport (beaconDue p s) p = withFrame f (vport (beaconMarked p s) p) ∧ f.prio = 3 ∧ f.bseq = (reserve s 1).val ∧
      f.due = beaconInstant p s := by
  obtain ⟨f, hprio, hbseq, hdue, hsend⟩ := beaconQueued_bseqLeft h hg (beaconInstant p s) (reserve s 1).val
  rw [beaconDue_of_taken h hg hc hv, hsend]
  refine ⟨fun hlast => ?_, ?_, rfl, f, vport_setVport_same .., hprio, hbseq, hdue⟩
  · have hended : bseqLeft (beaconMarked p s) = bseqEnded (beaconMarked p s) := if_pos hlast
    rw [hended]
    exact raised_bseqEnded (s := beaconMarked p s) hp8 h.port
  · have hres : reserve (bseqLeft (beaconMarked p s)) 1 = { reserve s 1 with val := (reserve s 1).val + 1 } :=
      ((bseqLeft_eventOnly (beaconMarked p s)).reserve 1).trans (reserve_setReserve_same ..)
    exact congrArg Reserve.val hres

/-- Whatever becomes of the beacon, the port has dealt with it. -/
theorem beaconAt_beaconDue (h : BeaconFalls p s) (hp8 : p < 8) : (vport (beaconDue p s) p).beaconAt = beaconInstant p s + 1 := by
  cases hg : grp s 0 with
  | false => rw [vport_beaconDue_of_gated h hg, vport_beaconMarked]
  | true =>
    by_cases hs : (reserve s 1).ceil ≤ (reserve s 1).val ∨ 0xFFFF0000 < (reserve s 1).val
    · rw [vport_beaconDue_of_spent h hg hs, vport_beaconMarked]
    · obtain ⟨-, -, -, f, hf, -⟩ := beaconDue_takes h hp8 hg (by omega) (by omega)
      rw [hf, vport_beaconMarked]
      rfl

end BeaconFate

/-! ### Relays that are due (R201, R202, R390) -/

/-- The item is a relay job whose time has come. -/
def jobDue (s : State) (x : QItem) : Bool :=
  match x.body with
  | .job j => decide (j.due ≤ s.elapsed)
  | _ => false

/-- The first item of a list that a predicate picks, changed in a way the predicate does not see. -/
theorem find?_lmod_findIdx {α : Type} {p : α → Bool} {g : α → α} (hg : ∀ x, p (g x) = p x) (l : List α) :
    (lmod l (l.findIdx p) g).find? p = (l.find? p).map g := by
  induction l with
  | nil => rfl
  | cons a l ih => cases ha : p a <;> simp [List.findIdx_cons, lmod, ha, hg, ih]

theorem erase_lmod_findIdx {α : Type} [DecidableEq α] {p : α → Bool} {g : α → α} (hg : ∀ x, p (g x) = p x) {l : List α} {x : α}
    (hx : l.find? p = some x) : (lmod l (l.findIdx p) g).erase (g x) = l.erase x := by
  induction l with
  | nil => simp at hx
  | cons a l ih =>
    cases ha : p a with
    | true =>
      obtain rfl : a = x := by simpa [ha] using hx
      simp [List.findIdx_cons, lmod, ha]
    | false =>
      rw [List.find?_cons_of_neg (by simp [ha])] at hx
      have hpx := List.find?_some hx
      have hgx : a ≠ g x := fun e => by rw [e, hg, hpx] at ha; exact Bool.noConfusion ha
      have hax : a ≠ x := fun e => by rw [e, hpx] at ha; exact Bool.noConfusion ha
      simp [List.findIdx_cons, lmod, ha, hgx, hax, ih hx]

/-- The item leaves the relay queue. -/
def relayTaken (x : QItem) (s : State) : State := queueDepthSeen 5 (setQueue 5 ((queue s 5).erase x) s)

/-- The seen-cache entry of a job's frame. -/
def jobSeen (j : RelayJob) (e : Seen) : Bool := e.idx == j.idx && e.seq == j.seq && e.tagh == j.tagh

/-- The job's entry waits for no relay any more (R199). -/
def relayMarked (j : RelayJob) (s : State) : State :=
  { s with ing := { s.ing with seen := s.ing.seen.map (fun e =>
    if jobSeen j e then { e with vane := vaneWord (bits e.vane 0 4) (bits e.vane 4 2) false true } else e) } }

/-- The frame of a job, with the TTL its entry gives it (R199, R201). -/
def relayFrame (j : RelayJob) (e : Seen) : TxFrame :=
  { prio := 4, bytes := j.frame.take 1 ++ leBytes 1 (byteAt j.frame 1 % 16 + 16 * bits e.vane 0 4) ++ j.frame.drop 2
    due := j.due, item := j.idx, relay := some (relayKey j.idx j.seq j.tagh, false) }

/-- What becomes of a job whose entry stands (R201). -/
def relayOut (j : RelayJob) (e : Seen) (s t : State) : State :=
  if paramN s .vane 11 0 ≤ bits e.vane 4 2 then bump 0x60014 1 t
  else ((List.range 8).filter (fun p => bit (paramN s .vane 12 0) p)).foldl (fun t p => radioQueue p (relayFrame j e) t) t

/-- What becomes of a job that is due (R201, R202, R390). -/
def relayServed (j : RelayJob) (x : QItem) (s : State) : State :=
  if x.poison then bump 0x60018 1 (relayMarked j (relayTaken x s))
  else match (relayTaken x s).ing.seen.find? (jobSeen j) with
    | none => raise 37 j.idx 1 (bump 0x60018 1 (relayTaken x s))
    | some e => relayOut j e s (relayMarked j (relayTaken x s))

/-- The queue after the job that is due was read with a word at fault. -/
def relayDamaged (s : State) : State := fabricBad 5 [(queue s 5).findIdx (jobDue s)] s

/-- The state after the job that is due was read. -/
def relayRead (bad : Bool) (s : State) : State := if bad then relayDamaged s else s

section RelayTime
variable {s : State} {x : QItem} {j : RelayJob}

/-- RELAY_TIME reads the first job that is due by the time of the command, and serves what it read. -/
theorem relayTime_eq (bad : Bool) (s : State) : relayTime bad s = (match (queue (relayRead bad s) 5).find? (jobDue s) with
    | none => relayRead bad s
    | some x => match x.body with
      | .job j => relayServed j x (relayRead bad s)
      | _ => relayTaken x (relayRead bad s)) := rfl

/-- Beyond the item taken, the queue's new depth is noted and no more. -/
theorem relayTaken_eventOnly (x : QItem) (s : State) : EventOnly (setQueue 5 ((queue s 5).erase x) s) (relayTaken x s) :=
  queueDepthSeen_eventOnly ..

theorem queue_relayTaken (x : QItem) (s : State) : queue (relayTaken x s) 5 = (queue s 5).erase x :=
  ((relayTaken_eventOnly x s).queues 5 (by decide)).trans (queue_setQueue_same ..)

theorem relayTaken_van (x : QItem) (s : State) : (relayTaken x s).van = s.van := (relayTaken_eventOnly x s).van

theorem relayTaken_ing (x : QItem) (s : State) : (relayTaken x s).ing = s.ing := (relayTaken_eventOnly x s).ing

theorem cnt_relayTaken {a : Nat} (ha : a ∉ [0xA0014, 0xE0018, 0xE001C, 0xF0188]) (x : QItem) (s : State) :
    cnt a (relayTaken x s) = cnt a s := (relayTaken_eventOnly x s).counts a ha

theorem cnt_bump_other {a b : Nat} (h : b ≠ a) (n : Nat) (s : State) : cnt b (bump a n s) = cnt b s := tget_tset_other _ _ _ _ _ h

/-- Whatever becomes of the job, its item alone has left the queue. -/
theorem queue_relayServed (j : RelayJob) (x : QItem) (s : State) : queue (relayServed j x s) 5 = (queue s 5).erase x := by
  have hsends (f : TxFrame) (l : List Nat) (t : State) : queue (l.foldl (fun u p => radioQueue p f u) t) 5 = queue t 5 :=
    List.foldlRecOn l _ (motive := fun u => queue u 5 = queue t 5) rfl fun u hu p _ => (queue_radioQueue p f u).trans hu
  unfold relayServed
  split
  · exact queue_relayTaken x s
  · cases (relayTaken x s).ing.seen.find? (jobSeen j) with
    | none => exact ((raise_eventOnly ..).queues 5 (by decide)).trans (queue_relayTaken x s)
    | some e =>
      refine Eq.trans ?_ (queue_relayTaken x s)
      simp only [relayOut]
      split
      · rfl
      · exact hsends ..

/-- A poisoned job is dropped and counted (R390). -/
theorem relayServed_of_poison (h : x.poison = true) (j : RelayJob) (s : State) :
    relayServed j x s = bump 0x60018 1 (relayMarked j (relayTaken x s)) := if_pos h

theorem relayServed_of_poison_counts (h : x.poison = true) (j : RelayJob) (s : State) :
    cnt 0x60018 (relayServed j x s) = sat32 (cnt 0x60018 s + 1) ∧ cnt (quePoison 5) (relayServed j x s) = cnt (quePoison 5) s ∧
      (relayServed j x s).van = s.van := by
  rw [relayServed_of_poison h]
  refine ⟨(cnt_bump_same ..).trans ?_, (cnt_bump_other (by decide) ..).trans ?_, relayTaken_van x s⟩
  · exact congrArg (fun n => sat32 (n + 1)) (cnt_relayTaken (by decide) x s)
  · exact cnt_relayTaken (by decide) x s

theorem raised_relayServed_of_poison (h : x.poison = true) (j : RelayJob) {c : Nat} (hc : raised c s = true) :
    raised c (relayServed j x s) = true := by
  rw [relayServed_of_poison h]
  exact (relayTaken_eventOnly x s).pend c hc

/-- A job whose entry has gone is dropped and told of (R202). -/
theorem relayServed_of_no_entry (h : x.poison = false) (he : s.ing.seen.find? (jobSeen j) = none) :
    relayServed j x s = raise 37 j.idx 1 (bump 0x60018 1 (relayTaken x s)) := by
  rw [relayServed, if_neg (by simp [h]), relayTaken_ing, he]

theorem relayServed_of_entry {e : Seen} (h : x.poison = false) (he : s.ing.seen.find? (jobSeen j) = some e) :
    relayServed j x s = relayOut j e s (relayMarked j (relayTaken x s)) := by
  rw [relayServed, if_neg (by simp [h]), relayTaken_ing, he]

/-- A relay whose entry has heard enough copies is cancelled and counted (R201). -/
theorem relayOut_of_suppressed {e : Seen} (h : paramN s .vane 11 0 ≤ bits e.vane 4 2) (j : RelayJob) (t : State) :
    relayOut j e s t = bump 0x60014 1 t := if_pos h

theorem relayOut_queues {e : Seen} {t : State} (h : bits e.vane 4 2 < paramN s .vane 11 0) (hd : dark t .van = false)
    (hg : grp t 0 = true) (p : Fin 8) (hp : bit (paramN s .vane 12 0) p.val = true) (j : RelayJob) :
    vport (relayOut j e s t) p.val = withFrame (relayFrame j e) (vport t p.val) := by
  rw [relayOut, if_neg (Nat.not_le.2 h), vport_foldl_radioQueue (List.nodup_range.filter _) _ hd hg, if_pos]
  exact List.mem_filter.2 ⟨List.mem_range.2 p.isLt, hp⟩

/-! ### A job found damaged (R390) -/

/-- An item marked as it is found damaged. -/
def poisoned (x : QItem) : QItem := { x with poison := true }

/-- An item marked at its first detection, counted and told of. -/
def firstDetected (q k : Nat) (s : State) : State :=
  raise 115 (q * 65536 + k) 0 (bump (quePoison q) 1 (setQueue q (lmod (queue s q) k poisoned) s))

theorem fabricBad_of_none {q k : Nat} (hx : (queue s q)[k]? = none) : fabricBad q [k] s = s := by
  simp only [fabricBad, List.foldl_cons, List.foldl_nil, hx]

theorem fabricBad_of_some {q k : Nat} (hx : (queue s q)[k]? = some x) :
    fabricBad q [k] s = if x.poison then s else firstDetected q k s := by
  simp only [fabricBad, List.foldl_cons, List.foldl_nil, hx, readBad]
  split <;> rfl

theorem relayDamaged_of_none (hx : (queue s 5).find? (jobDue s) = none) : relayDamaged s = s :=
  fabricBad_of_none (List.find?_eq_getElem?_findIdx.symm.trans hx)

theorem relayDamaged_of_some (hx : (queue s 5).find? (jobDue s) = some x) :
    relayDamaged s = if x.poison then s else firstDetected 5 ((queue s 5).findIdx (jobDue s)) s :=
  fabricBad_of_some (List.find?_eq_getElem?_findIdx.symm.trans hx)

/-- The first detection marks the job, counts it and tells of it. -/
theorem relayDamaged_eventOnly (hx : (queue s 5).find? (jobDue s) = some x) (h : x.poison = false) :
    EventOnly (bump (quePoison 5) 1 (setQueue 5 (lmod (queue s 5) ((queue s 5).findIdx (jobDue s)) poisoned) s)) (relayDamaged s) := by
  rw [relayDamaged_of_some hx, if_neg (by simp [h])]
  exact raise_eventOnly ..

theorem queue_relayDamaged (hx : (queue s 5).find? (jobDue s) = some x) (h : x.poison = false) :
    queue (relayDamaged s) 5 = lmod (queue s 5) ((queue s 5).findIdx (jobDue s)) poisoned :=
  ((relayDamaged_eventOnly hx h).queues 5 (by decide)).trans (queue_setQueue_same ..)

theorem raised_relayDamaged (hx : (queue s 5).find? (jobDue s) = some x) (h : x.poison = false) : raised 115 (relayDamaged s) = true := by
  rw [relayDamaged_of_some hx, if_neg (by simp [h])]
  exact raised_raise _ _ _ _ (by decide)

theorem relayTime_of_none (hx : (queue s 5).find? (jobDue s) = none) (bad : Bool) : relayTime bad s = s := by
  have hread : relayRead bad s = s := by cases bad <;> simp [relayRead, relayDamaged_of_none hx]
  rw [relayTime_eq, hread, hx]

/-- A job that is read whole, or was found damaged before, is served as it stands. -/
theorem relayTime_of_known {bad : Bool} (hx : (queue s 5).find? (jobDue s) = some x) (hj : x.body = .job j)
    (h : x.poison = true ∨ bad = false) : relayTime bad s = relayServed j x s := by
  have hread : relayRead bad s = s := by
    rcases h with h | rfl
    · simp [relayRead, relayDamaged_of_some hx, h]
    · rfl
  rw [relayTime_eq, hread, hx]
  simp only [hj]

/-- A job first found damaged is served as a poisoned one. -/
theorem relayTime_of_damaged (hx : (queue s 5).find? (jobDue s) = some x) (hj : x.body = .job j) (h : x.poison = false) :
    relayTime true s = relayServed j (poisoned x) (relayDamaged s) := by
  have hfind := (find?_lmod_findIdx (p := jobDue s) (g := poisoned) (fun _ => rfl) (queue s 5)).trans (congrArg _ hx)
  rw [relayTime_eq, relayRead, if_pos rfl, queue_relayDamaged hx h, hfind]
  simp only [Option.map_some, poisoned, hj]

theorem queue_relayTime (hx : (queue s 5).find? (jobDue s) = some x) (hj : x.body = .job j) (bad : Bool) :
    queue (relayTime bad s) 5 = (queue s 5).erase x := by
  by_cases h : x.poison = true ∨ bad = false
  · rw [relayTime_of_known hx hj h, queue_relayServed]
  · obtain ⟨hp, rfl⟩ : x.poison = false ∧ bad = true := by simpa using h
    rw [relayTime_of_damaged hx hj hp, queue_relayServed, queue_relayDamaged hx hp]
    exact erase_lmod_findIdx (g := poisoned) (fun _ => rfl) hx

/-- The first detection of a job's damage drops it: it is counted in both counters and told of. -/
theorem relayTime_damaged_tells (hx : (queue s 5).find? (jobDue s) = some x) (hj : x.body = .job j) (h : x.poison = false) :
    cnt 0x60018 (relayTime true s) = sat32 (cnt 0x60018 s + 1) ∧
    cnt (quePoison 5) (relayTime true s) = sat32 (cnt (quePoison 5) s + 1) ∧ raised 115 (relayTime true s) = true ∧
    (relayTime true s).van = s.van := by
  have hfirst := relayDamaged_eventOnly hx h
  obtain ⟨hdrop, hpoison, hvan⟩ := relayServed_of_poison_counts (x := poisoned x) rfl j (relayDamaged s)
  rw [relayTime_of_damaged hx hj h]
  refine ⟨hdrop.trans ?_, hpoison.trans ?_, raised_relayServed_of_poison rfl j (raised_relayDamaged hx h), hvan.trans hfirst.van⟩
  · exact congrArg (fun n => sat32 (n + 1)) ((hfirst.counts 0x60018 (by decide)).trans (cnt_bump_other (by decide) ..))
  · exact (hfirst.counts (quePoison 5) (by decide)).trans (cnt_bump_same ..)

end RelayTime

/-! ### The upstream's deadline (R208, R209) and the ramp's end (R207) -/

@[simp] theorem noteFlu_van (s : State) : (noteFlu s).van = s.van := by
  unfold noteFlu; split <;> rfl

@[simp] theorem selectSrc_van (k : Nat) (s : State) : (selectSrc k s).van = s.van := by
  simp only [selectSrc, setRate, reanchor, noteFlu_van]

/-- A source that goes changes nothing of Vane. -/
theorem sourceDown_van (k : Nat) (s : State) : (sourceDown k s).van = s.van := by
  have hlose : (loseSelected s).van = s.van := by
    simp only [loseSelected]
    split
    · rfl
    split
    · simp
    · simp
  unfold sourceDown
  split
  · exact hlose
  · rfl

section Upstream
variable {s : State}

theorem upstreamDeadline_of_early (h : s.van.up ≠ .track ∨ s.elapsed < s.van.deadline) : upstreamDeadline s = s := if_pos h

theorem upstreamDeadline_of_late (hu : s.van.up = .track) (hd : s.van.deadline ≤ s.elapsed) :
    upstreamDeadline s = if s.van.misses < 2 then
      { s with van := { s.van with misses := s.van.misses + 1, deadline := s.van.deadline + s.van.period * tickMs } }
    else raise 34 (paramN s .vane 17 2) s.van.upBseq (sourceDown 2 { s with van := { s.van with up := .lost, regain := 0 } }) :=
  if_neg (by simp [hu, hd])

theorem rampEnd_of_some {n : Nat} (h : s.van.ramp = some n) : rampEnd s = if passed s n (7 * paramN s .vane 16 0 * tickMs) then
    raise 41 ((s.elapsed - n) / tickMs) 0 { s with van := { s.van with ramp := none } } else s := by
  simp only [rampEnd, h]

end Upstream

/-! ### The statement -/

/-- What happens only while Vane has its clock and power. -/
theorem next_of_light {s t : State} (h : dark s .van = false) :
    (Host.Outcome.next (if dark s .van then s else t) : Res) = .next t := by rw [h]; rfl

theorem exec_beaconDrop {p : Fin 8} {s : State} (h : dark s .van = false) :
    exec (.beaconDrop p) s = .next (lateDropped p.val (beaconLate s) (beaconLost p.val) s) := next_of_light h

theorem exec_relayLateDrop {p : Fin 8} {s : State} (h : dark s .van = false) :
    exec (.relayLateDrop p) s = .next (lateDropped p.val (relayFrameLate s) relayLost s) := next_of_light h

theorem exec_relayTime {bad : Bool} {s : State} (h : dark s .van = false) : exec (.relayTime bad) s = .next (relayTime bad s) :=
  next_of_light h

theorem exec_upstreamDeadline {s : State} (h : dark s .van = false) : exec .upstreamDeadline s = .next (upstreamDeadline s) :=
  next_of_light h

theorem exec_rampEnd {s : State} (h : dark s .van = false) : exec .rampEnd s = .next (rampEnd s) := next_of_light h

/-- Settles O45: a beacon's fate by its BSEQ, late frames by one law, a relay's fate by its entry, then the deadline and the ramp. -/
theorem beaconsRelaysAndRamp : Obligations.beacons_relays_and_ramp := by
  unfold Obligations.beacons_relays_and_ramp
  refine ⟨fun p s => ⟨fun h => congrArg Host.Outcome.next (beaconDue_of_other_port h), fun hport hlight hcount hfresh => ?_⟩,
    fun p s hd => ⟨⟨_, exec_beaconDrop hd, ?_, fun h => ?_⟩, ⟨_, exec_relayLateDrop hd, ?_, fun h => ?_⟩⟩,
    fun bad s hd => ⟨fun h => ?_, fun x j hx hj => ⟨_, exec_relayTime hd, queue_relayTime hx hj bad, fun hp => ?_, fun hp hb => ?_,
      fun hp hb => ⟨fun he => ?_, fun y he => ⟨fun hs => ?_, fun hs hg p hport => ?_⟩⟩⟩⟩,
    fun s hd => ⟨fun h => ?_, fun hu hn hm => ?_, fun hu hn hm => ?_⟩, fun n s hd hn => ⟨fun h => ?_, fun h => ?_⟩⟩
  · have hfalls : BeaconFalls p.val s := ⟨hport, hlight, hcount, hfresh⟩
    refine ⟨beaconDue p.val s, rfl, beaconAt_beaconDue hfalls p.isLt, fun hg => ?_, fun hg hc hv => ?_, fun hg hs => ?_⟩
    · rw [vport_beaconDue_of_gated hfalls hg, vport_beaconMarked, beaconDue_of_gated hfalls hg]
      exact ⟨(gatedDrop_tells ..).2.2, reserve_gatedDrop .., rfl⟩
    · obtain ⟨hlast, hval, hhint, f, hq, hf⟩ := beaconDue_takes hfalls p.isLt hg hc hv
      refine ⟨hlast, hval, hhint, f, ?_, hf⟩
      rw [hq, vport_beaconMarked]
      rfl
    · rw [vport_beaconDue_of_spent hfalls hg hs, vport_beaconMarked]
  · exact queue_lateDropped (beaconLost_van p.val) p.val (beaconLate s) s
  · exact raised_lateDropped (late := beaconLate s) (raised_beaconLost p.val) h
  · exact queue_lateDropped relayLost_van p.val (relayFrameLate s) s
  · exact raised_lateDropped (late := relayFrameLate s) raised_relayLost h
  · rw [exec_relayTime hd, relayTime_of_none h]
  · rw [relayTime_of_known hx hj (.inl hp)]
    exact relayServed_of_poison_counts hp j s
  · subst hb
    exact relayTime_damaged_tells hx hj hp
  · rw [relayTime_of_known hx hj (.inr hb), relayServed_of_no_entry hp he]
    exact ⟨raised_raise _ _ _ _ (by decide), (raise_van ..).trans (relayTaken_van x s)⟩
  · rw [relayTime_of_known hx hj (.inr hb), relayServed_of_entry hp he, relayOut_of_suppressed hs]
    exact ⟨(cnt_bump_same ..).trans (congrArg (fun n => sat32 (n + 1)) (cnt_relayTaken (by decide) x s)), relayTaken_van x s⟩
  · have htaken := relayTaken_eventOnly x s
    refine ⟨relayFrame j y, ?_, rfl, rfl⟩
    rw [relayTime_of_known hx hj (.inr hb), relayServed_of_entry hp he,
      relayOut_queues (t := relayMarked j (relayTaken x s)) hs ((htaken.dark .van).trans hd) ((htaken.grp 0).trans hg) p hport]
    exact congrArg (fun v => v.queue ++ [relayFrame j y]) (htaken.vport p.val)
  · rw [exec_upstreamDeadline hd, upstreamDeadline_of_early h]
  · rw [exec_upstreamDeadline hd, upstreamDeadline_of_late hu hn, if_pos hm]
  · refine ⟨_, (exec_upstreamDeadline hd).trans (congrArg _ ((upstreamDeadline_of_late hu hn).trans (if_neg (Nat.not_lt.2 hm)))), ?_,
      raised_raise _ _ _ _ (by decide)⟩
    rw [raise_van, sourceDown_van]
  · rw [exec_rampEnd hd, rampEnd_of_some hn, h]; rfl
  · refine ⟨_, (exec_rampEnd hd).trans (congrArg _ ((rampEnd_of_some hn).trans (if_pos h))), ?_, raised_raise _ _ _ _ (by decide)⟩
    rw [raise_van]

end Sys2Proof.Machine
end

section
/-! PROOF. The close of an interval: the records of an issue, and what a completed close leaves (R152, R159, R164, R171, R391). -/

namespace Sys2Proof.Machine

/-! ### The records of an issue (R159, R164) -/

/-- A record's RESID is the one R164 gives it. -/
def Balanced (r : SRec) : Prop := r.resid = if r.measured then r.meas - r.net - r.loss else 0

theorem residual_balanced (s : State) (cls : Tab LossClass) (sl : Slot) (done : Tab SRec) (k : Nat) (r : SRec) :
    Balanced (residual s cls sl done k r) := rfl

/-- After a write a table lists what it listed before, and the value written. -/
theorem mem_tset {α : Type} [DecidableEq α] {d v : α} {k : Nat} {e : Nat × α} :
    ∀ {t : Tab α}, e ∈ tset d t k v → e ∈ t ∨ e = (k, v)
  | [], h => by
    unfold tset at h
    split at h
    · exact .inl h
    · exact .inr (List.mem_singleton.1 h)
  | f :: t, h => by
    unfold tset at h
    split at h
    · split at h
      · exact .inl h
      · exact (List.mem_cons.1 h).symm
    split at h
    · split at h
      · exact .inl (List.mem_cons_of_mem _ ((List.dropWhile_sublist _).mem h))
      · exact (List.mem_cons.1 h).symm.imp_left (List.mem_cons_of_mem _)
    · rcases List.mem_cons.1 h with h | h
      · exact .inl (h ▸ List.mem_cons_self)
      · exact (mem_tset h).imp_left (List.mem_cons_of_mem _)

/-- A table whose values have a property keeps it when one more such value is written. -/
theorem forall_mem_tset {α : Type} [DecidableEq α] {P : α → Prop} {d v : α} {t : Tab α} (ht : ∀ e ∈ t, P e.2) (hv : P v)
    (k : Nat) : ∀ e ∈ tset d t k v, P e.2 := fun _ he => (mem_tset he).elim (ht _) (· ▸ hv)

/-- Every record that the residuals write is balanced: each is written once its level is reached. -/
theorem residuals_balanced (s : State) (cls : Tab LossClass) (sl : Slot) : ∀ e ∈ residuals s cls sl, Balanced e.2 :=
  List.foldlRecOn (motive := fun t : Tab SRec => ∀ e ∈ t, Balanced e.2) _ _ (by simp) fun t ht _ _ =>
    List.foldlRecOn (motive := fun t : Tab SRec => ∀ e ∈ t, Balanced e.2) _ _ ht fun _ hu e _ =>
      forall_mem_tset hu (residual_balanced ..) e.1

/-- An issue's pairs, scores and verdicts leave the residuals of its records as they are. -/
theorem issue_recs_balanced (cls : Tab LossClass) (sl : Slot) (newest : Bool) (us : Nat) (s : State) :
    ∀ e ∈ (issue cls sl newest us s).1.recs, Balanced e.2 := by
  intro e he
  simp only [issue, List.map_map, List.mem_map] at he
  obtain ⟨r, hr, rfl⟩ := he
  have hb : Balanced r.2 := residuals_balanced s cls sl r hr
  simp only [Function.comp_apply]
  split <;> exact hb

@[simp] theorem issue_interval (cls : Tab LossClass) (sl : Slot) (newest : Bool) (us : Nat) (s : State) :
    (issue cls sl newest us s).1.interval = sl.interval := rfl

@[simp] theorem issue_closed (cls : Tab LossClass) (sl : Slot) (newest : Bool) (us : Nat) (s : State) :
    (issue cls sl newest us s).1.closed = true := rfl

/-! ### The slots (R156) -/

theorem interval_of_slotOfIv {s : State} {n : Nat} {x : Slot} (h : slotOfIv s n = some x) : x.interval = n := by
  simpa using List.find?_some h

/-- A slot put in the place of its interval is the one kept there. -/
theorem slotOfIv_putSlotIv_same {s : State} {sl x : Slot} {n : Nat} (hn : sl.interval = n) (h : slotOfIv s n = some x) :
    slotOfIv (putSlotIv sl s) n = some sl := by
  subst hn
  have hp : (fun y : Slot => y.interval == sl.interval) ∘ (fun y => if y.interval = sl.interval then sl else y) =
      fun y => y.interval == sl.interval := by
    funext y; by_cases hy : y.interval = sl.interval <;> simp [hy]
  unfold slotOfIv at h ⊢
  rw [putSlotIv, List.find?_map, hp, h]
  simp [show x.interval = sl.interval by simpa using List.find?_some h]

/-- A slot put in its place leaves the slots of other intervals as they are. -/
theorem slotOfIv_putSlotIv_other {s : State} {sl : Slot} {n : Nat} (h : sl.interval ≠ n) :
    slotOfIv (putSlotIv sl s) n = slotOfIv s n := by
  have hp : (fun y : Slot => y.interval == n) ∘ (fun y => if y.interval = sl.interval then sl else y) =
      fun y => y.interval == n := by
    funext y; by_cases hy : y.interval = sl.interval <;> simp [hy]
  unfold slotOfIv
  rw [putSlotIv, List.find?_map, hp]
  refine (Option.map_congr fun y hy => ?_).trans Option.map_id'
  have hy : y.interval = n := by simpa using List.find?_some hy
  exact if_neg fun e => h (e.symm.trans hy)

/-- Late parts leave a slot its interval and its closed mark (R153). -/
theorem applyLate_fold_header (ps : List Part) (checks : List CheckM) (sl : Slot) :
    (ps.foldl (fun x p => applyLate p x checks) sl).interval = sl.interval ∧
      (ps.foldl (fun x p => applyLate p x checks) sl).closed = sl.closed :=
  List.foldlRecOn (motive := fun x : Slot => x.interval = sl.interval ∧ x.closed = sl.closed) _ _ ⟨rfl, rfl⟩ fun _ h _ _ => h

/-! ### What the parts of a close leave alone -/

/-- `t` follows `s` with the slot of interval `n`, the interval machine's marks of closing and closed intervals and the close FIFO
as they were, and no pending bit lost. -/
structure KeepsClose (n : Nat) (s t : State) : Prop where
  slot : slotOfIv t n = slotOfIv s n
  closing : t.wei.closing = s.wei.closing
  lastClosed : t.wei.lastClosed = s.wei.lastClosed
  fifo : queue t 6 = queue s 6
  raised : ∀ c, raised c s = true → raised c t = true

section Keeps
variable {n : Nat} {s t u : State}

theorem KeepsClose.refl (n : Nat) (s : State) : KeepsClose n s s := ⟨rfl, rfl, rfl, rfl, fun _ h => h⟩

theorem KeepsClose.trans (h : KeepsClose n s t) (k : KeepsClose n t u) : KeepsClose n s u :=
  ⟨k.slot.trans h.slot, k.closing.trans h.closing, k.lastClosed.trans h.lastClosed, k.fifo.trans h.fifo,
    fun c hc => k.raised c (h.raised c hc)⟩

theorem KeepsClose.ite {c : Prop} [Decidable c] (ht : KeepsClose n s t) (hu : KeepsClose n s u) :
    KeepsClose n s (if c then t else u) := by
  split
  · exact ht
  · exact hu

theorem EventOnly.keepsClose (h : EventOnly s t) : KeepsClose n s t :=
  ⟨by rw [slotOfIv, slotOfIv, h.wei], by rw [h.wei], by rw [h.wei], h.queues 6 (by decide), fun _ hc => raised_mono h hc⟩

theorem raise_keepsClose (c a b : Nat) (s : State) : KeepsClose n s (raise c a b s) := (raise_eventOnly ..).keepsClose

theorem bump_keepsClose (a k : Nat) (s : State) : KeepsClose n s (bump a k s) := ⟨rfl, rfl, rfl, rfl, fun _ h => h⟩

/-- A change of the node areas leaves the slots alone. -/
theorem nodes_keepsClose (l : Tab WNode) (s : State) : KeepsClose n s { s with wei := { s.wei with nodes := l } } :=
  ⟨rfl, rfl, rfl, rfl, fun _ h => h⟩

theorem setWnode_keepsClose (k : Nat) (w : WNode) (s : State) : KeepsClose n s (setWnode k w s) := nodes_keepsClose _ s

theorem foldl_keepsClose {α : Type} {f : State → α → State} {l : List α} (hf : ∀ t, ∀ e ∈ l, KeepsClose n t (f t e)) (s : State) :
    KeepsClose n s (l.foldl f s) :=
  List.foldlRecOn l f (motive := KeepsClose n s) (.refl n s) fun t ht e he => ht.trans (hf t e he)

theorem scoreNode_keepsClose (sl : Slot) (k : Nat) (dp dn : Int) (s : State) : KeepsClose n s (scoreNode sl k dp dn s) :=
  .ite (setWnode_keepsClose ..) ((setWnode_keepsClose ..).trans (raise_keepsClose ..))

/-- An issue tells of pairs and verdicts and changes node areas; the slot it gives stands nowhere yet. -/
theorem issue_keepsClose (cls : Tab LossClass) (sl : Slot) (newest : Bool) (us : Nat) (s : State) :
    KeepsClose n s (issue cls sl newest us s).2 := by
  refine (foldl_keepsClose (fun t p _ => raise_keepsClose ..) s).trans (foldl_keepsClose (fun t e _ => ?_) _)
  have harea : KeepsClose n t (if newest = true then setWnode e.1 (nodeArea e.1 e.2 (wnode t e.1)) t else t) :=
    .ite (setWnode_keepsClose ..) (.refl n t)
  exact .ite (harea.trans (scoreNode_keepsClose ..)) harea

/-- The first records of a close come with events alone (R171). -/
theorem gather_keepsClose (sl : Slot) (s : State) : KeepsClose n s (gather sl s).2 := by
  refine List.foldlRecOn (motive := fun acc : Tab SRec × State => KeepsClose n s acc.2) _ _ (.refl n s) fun acc h lvl _ => ?_
  refine List.foldlRecOn (motive := fun acc : Tab SRec × State => KeepsClose n s acc.2) _ _ h fun acc h k _ => h.trans ?_
  have hbad : KeepsClose n acc.2 (match (firstRec s sl k).2.1 with | some c => raise 23 k c acc.2 | none => acc.2) := by
    cases (firstRec s sl k).2.1 with
    | none => exact .refl n acc.2
    | some c => exact raise_keepsClose ..
  exact .ite (hbad.trans (raise_keepsClose ..)) hbad

theorem stalePart_keepsClose (p : Part) (s : State) : KeepsClose n s (stalePart p s) := by
  have hcount : KeepsClose n s (bump 0x50028 p.net.natAbs (bump 0x50024 1 s)) := (bump_keepsClose ..).trans (bump_keepsClose ..)
  refine hcount.trans (KeepsClose.trans ?_ (raise_keepsClose ..))
  exact ⟨rfl, rfl, rfl, rfl, fun _ h => h⟩

theorem putSlotIv_keepsClose {sl : Slot} (h : sl.interval ≠ n) (s : State) : KeepsClose n s (putSlotIv sl s) :=
  ⟨slotOfIv_putSlotIv_other h, rfl, rfl, rfl, fun _ h => h⟩

/-- The slots that are issued again are those of other intervals (R152, R159). -/
theorem reissueAll_keepsClose (us n : Nat) (s : State) : KeepsClose n s (reissueAll us n s) := by
  refine foldl_keepsClose (fun t x hx => ?_) s
  have hne : x.interval ≠ n := by
    have h := (List.mem_filter.1 hx).2
    simp only [Bool.and_eq_true, bne_iff_ne] at h
    exact h.1.2
  have hput := (issue_keepsClose t.wei.classes x false us t).trans
    (putSlotIv_keepsClose (sl := (issue t.wei.classes x false us t).1) hne _)
  refine (hput.trans (bump_keepsClose 0x50030 1 _)).trans (KeepsClose.trans ?_ (raise_keepsClose ..))
  exact ⟨rfl, rfl, rfl, rfl, fun _ h => h⟩

theorem surveyFill_keepsClose (s : State) : KeepsClose n s (surveyFill s) :=
  .ite (.refl n s) ⟨rfl, rfl, rfl, rfl, fun _ h => h⟩

end Keeps

/-! ### Damage found in the close FIFO (R390, R391) -/

theorem readBad_wei (q : Nat) (s : State) (pos : Nat) : (readBad q s pos).wei = s.wei := by
  unfold readBad
  split
  · rfl
  · split <;> rfl

theorem fabricBad_wei (q : Nat) (bad : List Nat) (s : State) : (fabricBad q bad s).wei = s.wei := by
  refine List.foldlRecOn bad _ (motive := fun t : State => t.wei = s.wei) rfl fun t h k _ => Eq.trans ?_ h
  split
  · split
    · rfl
    · exact (raise_wei ..).trans (readBad_wei ..)
  · rfl

/-- Nothing is found in an empty queue. -/
theorem fabricBad_of_empty {q : Nat} {s : State} (h : queue s q = []) (bad : List Nat) : fabricBad q bad s = s :=
  List.foldlRecOn bad _ (motive := fun t : State => t = s) rfl fun t ht k _ => by simp [ht, h]

/-! ### The course of a close (R152, R171) -/

/-- The interval's first records, and the node areas emptied of the results before them. -/
def areasEmptied (sl : Slot) (s : State) : State :=
  { (gather sl s).2 with wei := { (gather sl s).2.wei with nodes := tmap {} emptyArea (gather sl s).2.wei.nodes } }

/-- The issue of the interval that closes, under the class table frozen for it. -/
def closeIssue (us : Nat) (sl : Slot) (s : State) : Slot × State :=
  issue s.wei.frzClasses { sl with recs := (gather sl s).1 } true us (areasEmptied sl s)

/-- The slot published: the issue with the late parts that waited. -/
def closedSlot (us : Nat) (sl : Slot) (s : State) : Slot :=
  (fifoParts false (closeIssue us sl s).2).foldl (fun x p => applyLate p x (closeIssue us sl s).2.wei.checks) (closeIssue us sl s).1

/-- The state with the slot published and the close FIFO empty, each poisoned part of it stale. -/
def closePublished (us : Nat) (sl : Slot) (s : State) : State :=
  (fifoParts true (closeIssue us sl s).2).foldl (fun t p => stalePart p t)
    (bump 0x50020 (fifoParts false (closeIssue us sl s).2).length
      (queueDepthSeen 6 (setQueue 6 [] (putSlotIv (closedSlot us sl s) (closeIssue us sl s).2))))

/-- The Weir once interval `n` is closed: its banks are clear, and its ended check meters and anchor energies gone. -/
def weirClosed (n us : Nat) (w : WeirState) : WeirState :=
  { w with
    nodes := tmap {} (fun x : WNode => setBank n {} x) w.nodes
    checks := (w.checks.filter (fun c => match c.last with | some l => decide (n < l) | none => true)).map
      (fun c : CheckM => if evenBank n then { c with bankA := {} } else { c with bankB := {} })
    anchors := w.anchors.filter (fun a => decide (n < a.interval))
    closing := none, lastClosed := some n, closeUs := us, closeMax := max w.closeMax us, overrun := decide (40000 < us) }

/-- The state in which an interval is closed. -/
def closeEnded (n us : Nat) (t : State) : State := { t with wei := weirClosed n us t.wei }

/-- The closed interval is told of, and an overrun besides. -/
def closeTold (n us : Nat) (t : State) : State :=
  if 40000 < us then raise 17 (n % 2 ^ 32) us (raise 16 (n % 2 ^ 32) us t) else raise 16 (n % 2 ^ 32) us t

theorem closeEnd_of_slot {n us again : Nat} {bad : List Nat} {sl : Slot} {s : State} (hc : s.wei.closing = some n)
    (hs : slotOfIv (fabricBad 6 bad s) n = some sl) : closeEnd us again bad s =
      surveyFill (reissueAll again n (closeTold n us (closeEnded n us (closePublished us sl (fabricBad 6 bad s))))) := by
  simp only [closeEnd, hc, hs]
  rfl

section Close
variable {n us : Nat} {sl : Slot} {s : State}

theorem closeIssue_keepsClose (n us : Nat) (sl : Slot) (s : State) : KeepsClose n s (closeIssue us sl s).2 :=
  ((gather_keepsClose sl s).trans (nodes_keepsClose _ _)).trans (issue_keepsClose ..)

theorem closedSlot_interval (us : Nat) (sl : Slot) (s : State) : (closedSlot us sl s).interval = sl.interval :=
  (applyLate_fold_header ..).1

theorem closedSlot_closed (us : Nat) (sl : Slot) (s : State) : (closedSlot us sl s).closed = true :=
  (applyLate_fold_header ..).2

/-- With no late part waiting the slot published is the issue itself. -/
theorem closedSlot_of_empty (h : queue s 6 = []) (us : Nat) (sl : Slot) : closedSlot us sl s = (closeIssue us sl s).1 := by
  have hq : queue (closeIssue us sl s).2 6 = [] := (closeIssue_keepsClose 0 us sl s).fifo.trans h
  simp only [closedSlot, fifoParts, hq, List.filterMap_nil, List.foldl_nil]

/-- Counts and stale parts beside it, what is published is the slot, with an empty close FIFO. -/
theorem closePublished_keepsClose (n us : Nat) (sl : Slot) (s : State) :
    KeepsClose n (setQueue 6 [] (putSlotIv (closedSlot us sl s) (closeIssue us sl s).2)) (closePublished us sl s) :=
  ((queueDepthSeen_eventOnly ..).keepsClose.trans (bump_keepsClose ..)).trans
    (foldl_keepsClose (fun t p _ => stalePart_keepsClose p t) _)

theorem queue_closePublished (us : Nat) (sl : Slot) (s : State) : queue (closePublished us sl s) 6 = [] :=
  (closePublished_keepsClose 0 us sl s).fifo.trans (queue_setQueue_same ..)

theorem slotOfIv_closePublished (us : Nat) (h : slotOfIv s n = some sl) : slotOfIv (closePublished us sl s) n = some (closedSlot us sl s) := by
  have hissue : slotOfIv (closeIssue us sl s).2 n = some sl := (closeIssue_keepsClose n us sl s).slot.trans h
  rw [(closePublished_keepsClose n us sl s).slot]
  exact slotOfIv_putSlotIv_same ((closedSlot_interval ..).trans (interval_of_slotOfIv h)) hissue

theorem slotOfIv_closeEnded (n us m : Nat) (t : State) : slotOfIv (closeEnded n us t) m = slotOfIv t m := rfl

theorem queue_closeEnded (n us q : Nat) (t : State) : queue (closeEnded n us t) q = queue t q := rfl

theorem closeTold_eventOnly (n us : Nat) (t : State) : EventOnly t (closeTold n us t) := by
  unfold closeTold
  split
  · exact (raise_eventOnly ..).trans (raise_eventOnly ..)
  · exact raise_eventOnly ..

theorem raised_closeTold (n us : Nat) (t : State) : raised 16 (closeTold n us t) = true := by
  unfold closeTold
  split
  · exact raised_mono (raise_eventOnly ..) (raised_raise _ _ _ _ (by decide))
  · exact raised_raise _ _ _ _ (by decide)

theorem raised_closeTold_of_overrun (h : 40000 < us) (n : Nat) (t : State) : raised 17 (closeTold n us t) = true := by
  rw [closeTold, if_pos h]
  exact raised_raise _ _ _ _ (by decide)

end Close

/-! ### The statement -/

theorem exec_closeComplete {us again : U32} {bad : List (Fin 65536)} {s : State} (h : halted s .wei 8 = false) :
    exec (.closeComplete us again bad) s = .next (closeEnd us.toNat again.toNat (bad.map (·.val)) s) :=
  congrArg Host.Outcome.next (if_neg (by simp [h]))

/-- Settles O42: an issue writes balanced records alone, and what a close does after its issue keeps the slot it published. -/
theorem residualsOfAClose : Obligations.residuals_of_a_close := by
  unfold Obligations.residuals_of_a_close
  refine ⟨issue_recs_balanced, fun us again bad n x s hh hc hx => ?_⟩
  have hx' : slotOfIv (fabricBad 6 (bad.map (·.val)) s) n = some x := by rw [slotOfIv, fabricBad_wei]; exact hx
  have hslot := (slotOfIv_closeEnded n us.toNat n _).trans (slotOfIv_closePublished us.toNat hx')
  have htold (t : State) := (reissueAll_keepsClose again.toNat n (closeTold n us.toNat t)).trans (surveyFill_keepsClose _)
  have hkeep (t : State) := (closeTold_eventOnly n us.toNat t).keepsClose.trans (htold t)
  refine ⟨_, (exec_closeComplete hh).trans (congrArg _ (closeEnd_of_slot hc hx')), (hkeep _).closing, (hkeep _).lastClosed,
    (htold _).raised 16 (raised_closeTold ..), (hkeep _).fifo.trans ((queue_closeEnded ..).trans (queue_closePublished ..)),
    fun hus => (htold _).raised 17 (raised_closeTold_of_overrun hus ..), _, (hkeep _).slot.trans hslot,
    closedSlot_closed .., fun hq => ?_⟩
  rw [fabricBad_of_empty hq, closedSlot_of_empty hq]
  exact issue_recs_balanced _ _ _ _ _

end Sys2Proof.Machine
end

section
/-! PROOF. The Weir group's commands (R152, R156–R158, R161, R162, R174, R176, R374). -/

namespace Sys2Proof.Machine

/-! ### WEIR_ENABLE (R152) -/

/-- The Weir enabled on the present cell of the grid. -/
def weirMarkedOn (s : State) : State := { s with wei := { s.wei with en := true, grid := gridNow s } }

/-- The state in which a Weir that was disabled is enabled: the interval machine starts. -/
def weirOn (s : State) : State := openNow (weirMarkedOn s)

/-- The node areas of a disabled Weir: no banks, and MEASURED clear of the entries that a CHECK_UNBIND had ended. -/
def weirOffNodes (w : WeirState) : Tab WNode :=
  (w.checks.filter (fun c => c.last.isSome)).foldl (fun t c => tmod {} t (nodeKey c.lvl c.num) (fun x => { x with measured := false }))
    (tmap {} (fun x : WNode => { x with bankA := {}, bankB := {} }) w.nodes)

/-- The Weir without banks, history and intervals under way. -/
def weirOff (grid : Nat) (w : WeirState) : WeirState :=
  { w with
    en := false, grid := grid, openIv := none, late := none, closing := none, slots := [], anchors := [], nodes := weirOffNodes w
    checks := (w.checks.filter (fun c => c.last.isNone)).map (fun c => { c with bankA := {}, bankB := {}, first := 0 }) }

/-- The state with the Weir disabled and the close FIFO empty. -/
def weirDisabled (s : State) : State := queueDepthSeen 6 (setQueue 6 [] { s with wei := weirOff (gridNow s) s.wei })

section Enable
variable {e : Nat} {s : State}

theorem weirEnableCmd_of_bad (h : 1 < e) : weirEnableCmd e s = .fail .badParam s := if_pos h

theorem weirEnableCmd_of_same (h : (e = 1 ∧ s.wei.en = true) ∨ (e = 0 ∧ s.wei.en = false)) : weirEnableCmd e s = .ok s 0 [] := by
  rcases h with ⟨rfl, h⟩ | ⟨rfl, h⟩ <;> simp [weirEnableCmd, h]

theorem weirEnableCmd_of_no_space (h : s.wei.en = false) (hd : dramFits s.cfg s = false) :
    weirEnableCmd 1 s = .fail .noSpace s := by simp [weirEnableCmd, h, hd, refuse]

theorem weirEnableCmd_on (h : s.wei.en = false) (hd : dramFits s.cfg s = true) : weirEnableCmd 1 s = .ok (weirOn s) 0 [] := by
  simp [weirEnableCmd, h, hd, weirOn, weirMarkedOn]

theorem weirEnableCmd_off (h : s.wei.en = true) : weirEnableCmd 0 s = .ok (weirDisabled s) 0 [] := by
  simp only [weirEnableCmd, h]
  rfl

theorem openNow_of_unset (h : s.fan.st = .unset) : openNow s = s := by simp [openNow, h]

theorem openNow_of_set (hen : s.wei.en = true) (ho : s.wei.openIv = none) (h : s.fan.st ≠ .unset) :
    openNow s = openInterval (intervalNow s) true s := by simp [openNow, hen, ho, h]

theorem weirOn_of_unset (h : s.fan.st = .unset) : (weirOn s).wei.openIv = s.wei.openIv := by
  rw [weirOn, openNow_of_unset (s := weirMarkedOn s) h]
  rfl

theorem weirOn_of_set (h : s.fan.st ≠ .unset) (ho : s.wei.openIv = none) :
    (weirOn s).wei.openIv = some (intervalNow s) ∧ (weirOn s).wei.openStart = true := by
  rw [weirOn, openNow_of_set (s := weirMarkedOn s) rfl ho h]
  exact ⟨rfl, rfl⟩

theorem weirOn_en (s : State) : (weirOn s).wei.en = true := by
  unfold weirOn openNow openInterval
  split <;> rfl

theorem weirDisabled_wei (s : State) : (weirDisabled s).wei = weirOff (gridNow s) s.wei := (queueDepthSeen_eventOnly ..).wei

theorem queue_weirDisabled (s : State) : queue (weirDisabled s) 6 = [] :=
  ((queueDepthSeen_eventOnly ..).queues 6 (by decide)).trans (queue_setQueue_same ..)

end Enable

/-! ### LOSS_CLASS and NODE_CLASS (R162) -/

section Classes
variable {l k n : Nat} {s : State}

theorem lossClassCmd_of_bad (h : l < 2 ∨ 5 < l) (v : LossClass) : lossClassCmd l k v s = .fail .badParam s := if_pos h

theorem lossClassCmd_of_level (h2 : 2 ≤ l) (h5 : l ≤ 5) (v : LossClass) : lossClassCmd l k v s =
    .ok { s with wei := { s.wei with classes := tset {} s.wei.classes (l * 256 + k) v } } 0 [] := if_neg (by omega)

theorem nodeClassCmd_of_inactive (h : (node s (nodeKey l n)).active = false) : nodeClassCmd l k n s = .fail .refusedState s := by
  simp [nodeClassCmd, h, refuse]

theorem nodeClassCmd_of_active (h : (node s (nodeKey l n)).active = true) :
    nodeClassCmd l k n s = .ok (setWnode (nodeKey l n) { wnode s (nodeKey l n) with lclass := k } s) 0 [] := by
  simp [nodeClassCmd, h]

end Classes

/-! ### CHECK_BIND and CHECK_UNBIND (R161) -/

/-- The check-meter table has an entry of the endpoint, or one of the node. -/
def checkTaken (s : State) (i k : Nat) : Bool := s.wei.checks.any (fun c => c.idx == i || nodeKey c.lvl c.num == k)

/-- What CHECK_BIND asks of its endpoint and node first: bound, without a leg, and active. -/
structure CheckPossible (s : State) (i k : Nat) : Prop where
  bound : (entry s i).state ≠ .free
  noLeg : (entry s i).leg.toNat = noLeg
  active : (node s k).active = true

/-- The state with one more check meter, in force from the open interval on. -/
def checkBound (i l n : Nat) (s : State) : State :=
  setWnode (nodeKey l n) { wnode s (nodeKey l n) with measured := true }
    { s with wei := { s.wei with checks := s.wei.checks ++ [{ idx := i, lvl := l, num := n, first := s.wei.openIv.getD 0 }] } }

section Check
variable {i l n : Nat} {s : State}

theorem checkBindCmd_of_free (h : (entry s i).state = .free) : checkBindCmd i l n s = .fail .notFound s := if_pos h

theorem checkBindCmd_of_refused (hb : (entry s i).state ≠ .free)
    (h : (entry s i).leg.toNat ≠ noLeg ∨ (node s (nodeKey l n)).active = false) : checkBindCmd i l n s = .fail .refusedState s :=
  (if_neg hb).trans (if_pos (h.imp_right fun ha => by simp [ha]))

/-- Past its first conditions CHECK_BIND judges what is there already, then the level, then the room. -/
theorem checkBindCmd_of_possible (h : CheckPossible s i (nodeKey l n)) : checkBindCmd i l n s =
    if checkTaken s i (nodeKey l n) = true ∨ (3 < l ∧ (node s (nodeKey l n)).anchor = true) then .fail .existing s
    else if 3 < l then .fail .badParam s
    else if 16384 ≤ s.wei.checks.length then .fail .noSpace s
    else .ok (checkBound i l n s) 0 [] :=
  (if_neg h.bound).trans (if_neg (by simp [h.noLeg, h.active]))

theorem checkBindCmd_of_existing (h : CheckPossible s i (nodeKey l n))
    (he : checkTaken s i (nodeKey l n) = true ∨ (3 < l ∧ (node s (nodeKey l n)).anchor = true)) :
    checkBindCmd i l n s = .fail .existing s := by rw [checkBindCmd_of_possible h, if_pos he]

theorem checkBindCmd_of_level (h : CheckPossible s i (nodeKey l n)) (hl : 3 < l) (ha : (node s (nodeKey l n)).anchor = false)
    (ht : checkTaken s i (nodeKey l n) = false) : checkBindCmd i l n s = .fail .badParam s := by
  rw [checkBindCmd_of_possible h, if_neg (by simp [ht, ha]), if_pos hl]

/-- Of a leg or transformer, where neither it nor the endpoint has an entry, only the room is judged. -/
theorem checkBindCmd_of_untaken (h : CheckPossible s i (nodeKey l n)) (hl : l ≤ 3) (ht : checkTaken s i (nodeKey l n) = false) :
    checkBindCmd i l n s = if 16384 ≤ s.wei.checks.length then .fail .noSpace s else .ok (checkBound i l n s) 0 [] := by
  have hnew : ¬ (checkTaken s i (nodeKey l n) = true ∨ (3 < l ∧ (node s (nodeKey l n)).anchor = true)) :=
    not_or.2 ⟨Bool.eq_false_iff.1 ht, fun ha => Nat.not_lt.2 hl ha.1⟩
  rw [checkBindCmd_of_possible h, if_neg hnew, if_neg (Nat.not_lt.2 hl)]

theorem checkBindCmd_of_full (h : CheckPossible s i (nodeKey l n)) (hl : l ≤ 3) (ht : checkTaken s i (nodeKey l n) = false)
    (hf : 16384 ≤ s.wei.checks.length) : checkBindCmd i l n s = .fail .noSpace s := by
  rw [checkBindCmd_of_untaken h hl ht, if_pos hf]

theorem checkBindCmd_of_room (h : CheckPossible s i (nodeKey l n)) (hl : l ≤ 3) (ht : checkTaken s i (nodeKey l n) = false)
    (hr : s.wei.checks.length < 16384) : checkBindCmd i l n s = .ok (checkBound i l n s) 0 [] := by
  rw [checkBindCmd_of_untaken h hl ht, if_neg (Nat.not_le.2 hr)]

theorem isCheck_checkBound (i l n : Nat) (s : State) : isCheck (checkBound i l n s) i = true :=
  List.any_eq_true.2 ⟨_, List.mem_append_right _ (List.mem_singleton_self _), by simp⟩

theorem measured_checkBound (i l n : Nat) (s : State) : (wnode (checkBound i l n s) (nodeKey l n)).measured = true := by
  simp [checkBound]

theorem checkUnbindCmd_of_no_check (h : isCheck s i = false) : checkUnbindCmd i s = .fail .notFound s := if_neg (by simp [h])

theorem checkUnbindCmd_of_check (h : isCheck s i = true) : checkUnbindCmd i s = .ok (checkRemove i s) 0 [] := if_pos h

/-- What is left of a removed check meter's entries has an end. -/
theorem isCheck_checkRemove (i : Nat) (s : State) : isCheck (checkRemove i s) i = false := by
  simp only [isCheck, List.any_eq_false, checkRemove, List.mem_filter, List.mem_map]
  rintro x ⟨⟨c, -, rfl⟩, -⟩
  by_cases h : c.idx = i ∧ c.last.isNone = true
  · simp [h]
  · rw [if_neg h]
    simpa using h

end Check

/-! ### INTERVAL_RESULTS (R156–R158) -/

/-- Records of a slot, in the order of R72. -/
def slotRecords (x : Slot) (first count : Nat) : List Byte := ((List.range count).map (fun r => slotRec x (recKey (first + r)))).flatten

section Results
variable {n a k : Nat} {s : State} {x : Slot}

theorem intervalResultsCmd_of_no_closed (h : ∀ x, slotOfIv s n = some x → x.closed = false) :
    intervalResultsCmd n a k s = .fail .notFound s := by
  cases hx : slotOfIv s n with
  | none => simp only [intervalResultsCmd, hx, refuse]
  | some x => simp [intervalResultsCmd, hx, h x hx, refuse]

theorem intervalResultsCmd_of_closed (hx : slotOfIv s n = some x) (hc : x.closed = true) : intervalResultsCmd n a k s =
    if 266496 < a + k then .fail .badParam s
    else if k = 0 then .ok s x.rev (slotHeader x ++ ((List.range 266496).map (fun r => slotRec x (recKey r))).flatten)
    else .ok s x.rev (slotRecords x a k) := by
  simp only [intervalResultsCmd, hx, hc, Bool.not_true, Bool.false_eq_true, if_false]
  rfl

end Results

/-! ### AFFINITY_TEST (R174, R374) -/

/-- The legs that a NEIGHBOUR test's packet names, each with its references. -/
def packetLegs (c : Ctx) (n k : Nat) : List Cand :=
  (List.range k).map (fun j => ⟨ofLe (slice c.xin (4 * n + 20 * j) 4),
    (wordsAt c.xin (4 * n + 20 * j + 4) 4).filter (fun r => r != 0xFFFFFFFF)⟩)

/-- The candidates of a commanded test: the three phases, or the packet's legs. -/
def candidates (c : Ctx) (mode n k : Nat) : List Cand := if mode = 0 then [⟨1, []⟩, ⟨2, []⟩, ⟨3, []⟩] else packetLegs c n k

/-- The state with one commanded test more for each index the packet names. -/
def testsStarted (c : Ctx) (mode n k : Nat) (s : State) : State :=
  { s with wei := { s.wei with tests := s.wei.tests ++ (wordsAt c.xin 0 n).map (fun i =>
    { idx := i, feeder := mode == 0, commanded := true, startS := nowS s, cands := candidates c mode n k }) } }

/-- The packet of an AFFINITY_TEST is a good one: indices that are bound, and FEEDER without legs or NEIGHBOUR with two to six active
ones. -/
structure TestOk (c : Ctx) (mode n k : Nat) (s : State) : Prop where
  nonempty : 0 < n
  most : n ≤ 256
  bound : ∀ i ∈ wordsAt c.xin 0 n, i < 2 ^ 20 ∧ (entry s i).state ≠ .free
  legs : (mode = 0 ∧ k = 0) ∨ (mode = 1 ∧ 2 ≤ k ∧ k ≤ 6 ∧ ∀ l ∈ packetLegs c n k, legActive s l.key = true)

theorem affinityTestCmd_of_ok {c : Ctx} {mode n k : Nat} {s : State} (h : TestOk c mode n k s) :
    affinityTestCmd c mode n k s = if freeTests s < n then .fail .busy s else .ok (testsStarted c mode n k s) n [] := by
  have hfree : (wordsAt c.xin 0 n).any (fun i => decide (i < 2 ^ 20) && (entry s i).state == .free) = false :=
    List.any_eq_false.2 fun i hi => by simp [(h.bound i hi).2]
  have hidx : (wordsAt c.xin 0 n).all (fun i => decide (i < 2 ^ 20)) = true :=
    List.all_eq_true.2 fun i hi => decide_eq_true (h.bound i hi).1
  have hgood : ¬ (n = 0 ∨ 256 < n ∨ 1 < mode ∨ (!(wordsAt c.xin 0 n).all (fun i => decide (i < 2 ^ 20))) = true ∨ (mode = 0 ∧ k ≠ 0) ∨
      (mode = 1 ∧ (k < 2 ∨ 6 < k ∨ (!(candidates c mode n k).all (fun l => legActive s l.key)) = true))) := by
    obtain ⟨hn, hn', -, hl⟩ := h
    rcases hl with ⟨rfl, rfl⟩ | ⟨rfl, h2, h6, hl⟩
    · simp only [hidx, Bool.not_true, Bool.false_eq_true, Nat.zero_ne_one, false_and, or_false, false_or]; omega
    · have hall : (candidates c 1 n k).all (fun l => legActive s l.key) = true := List.all_eq_true.2 hl
      simp only [hidx, hall, Bool.not_true, Bool.false_eq_true, or_false, false_or]; omega
  exact (if_neg (by rw [hfree]; exact Bool.false_ne_true)).trans (if_neg hgood)

/-! ### AFFINITY_ABORT (R374) -/

theorem queueLoss_wei (q : Nat) (s : State) : (queueLoss q s).wei = s.wei := by
  simp only [queueLoss]
  split
  · exact raise_wei ..
  · rfl

theorem pushOver_wei (q : Nat) (b : QBody) (s : State) : (pushOver q b s).2.wei = s.wei := by
  simp only [pushOver]
  split
  · exact (queueDepthSeen_eventOnly ..).wei.trans (queueLoss_wei ..)
  · exact (queueDepthSeen_eventOnly ..).wei

/-- A report changes the report queue, not the Weir's own state. -/
theorem weirReport_wei (b : List Byte) (s : State) : (weirReport b s).wei = s.wei := by
  simp only [weirReport]
  split
  · exact (raise_wei ..).trans (pushOver_wei ..)
  · exact pushOver_wei ..

theorem abortReport_wei (t : AffTest) (s : State) : (abortReport t s).wei = s.wei := by
  unfold abortReport
  split
  · rfl
  · exact weirReport_wei ..

theorem abortReports_wei (l : List AffTest) (s : State) : (l.foldl (fun u t => abortReport t u) s).wei = s.wei :=
  List.foldlRecOn l _ (motive := fun u : State => u.wei = s.wei) rfl fun u h t _ => (abortReport_wei t u).trans h

/-- The survey puts in tests of its own alone. -/
theorem mem_surveyFill {s : State} {x : AffTest} (h : x ∈ (surveyFill s).wei.tests) : x ∈ s.wei.tests ∨ x.commanded = false := by
  unfold surveyFill at h
  split at h
  · exact .inl h
  · refine (List.mem_append.1 h).imp_right fun h => ?_
    obtain ⟨i, -, rfl⟩ := List.mem_map.1 h
    rfl

theorem surveyFill_of_off {s : State} (h : frz s 10 0 = 0) : surveyFill s = s := if_pos (.inl h)

/-- The tests an abort names: all of them, or those of its indices. -/
def aborted (c : Ctx) (all n : Nat) (t : AffTest) : Bool := all == 1 || (wordsAt c.xin 0 n).contains t.idx

/-- The aborted tests are reported. -/
def abortsTold (c : Ctx) (all n : Nat) (s : State) : State := (s.wei.tests.filter (aborted c all n)).foldl (fun u t => abortReport t u) s

/-- The state without the aborted tests, before the survey takes their slots. -/
def testsAborted (c : Ctx) (all n : Nat) (s : State) : State :=
  { abortsTold c all n s with wei := { (abortsTold c all n s).wei with
    tests := (abortsTold c all n s).wei.tests.filter (fun t => !aborted c all n t) } }

section Abort
variable {c : Ctx} {all n : Nat} {s : State}

theorem affinityAbortCmd_of_bad (h : ∃ w ∈ wordsAt c.xin 0 n, 2 ^ 20 ≤ w) : affinityAbortCmd c 0 n s = .fail .badParam s := by
  obtain ⟨w, hw, hbig⟩ := h
  have hall : (wordsAt c.xin 0 n).all (fun w => decide (w < 2 ^ 20)) = false :=
    List.all_eq_false.2 ⟨w, hw, by simpa using hbig⟩
  exact if_pos (.inr ⟨rfl, by rw [hall]; rfl⟩)

theorem affinityAbortCmd_of_good (h : all = 1 ∨ (all = 0 ∧ ∀ w ∈ wordsAt c.xin 0 n, w < 2 ^ 20)) :
    affinityAbortCmd c all n s = .ok (surveyFill (testsAborted c all n s)) 0 [] := by
  refine if_neg ?_
  rcases h with rfl | ⟨rfl, h⟩
  · omega
  · have hall : (wordsAt c.xin 0 n).all (fun w => decide (w < 2 ^ 20)) = true :=
      List.all_eq_true.2 fun w hw => decide_eq_true (h w hw)
    rw [hall]
    decide

/-- The reports change no test. -/
theorem tests_testsAborted (c : Ctx) (all n : Nat) (s : State) :
    (testsAborted c all n s).wei.tests = s.wei.tests.filter (fun t => !aborted c all n t) := by
  simp only [testsAborted, abortsTold, abortReports_wei]

theorem frz_testsAborted (c : Ctx) (all n pid scope : Nat) (s : State) : frz (testsAborted c all n s) pid scope = frz s pid scope := by
  simp only [frz, testsAborted, abortsTold, abortReports_wei]

/-- With the survey off no test comes in the place of the aborted ones. -/
theorem tests_after_abort (h : frz s 10 0 = 0) (c : Ctx) (all n : Nat) :
    (surveyFill (testsAborted c all n s)).wei.tests = s.wei.tests.filter (fun t => !aborted c all n t) := by
  rw [surveyFill_of_off ((frz_testsAborted ..).trans h), tests_testsAborted]

theorem tests_filter_abort_all (c : Ctx) (n : Nat) (l : List AffTest) : l.filter (fun t => !aborted c 1 n t) = [] := by
  simp [aborted]

theorem tests_filter_abort_list (c : Ctx) (n : Nat) (l : List AffTest) :
    l.filter (fun t => !aborted c 0 n t) = l.filter (fun t => !(wordsAt c.xin 0 n).contains t.idx) := by
  simp [aborted]

end Abort

/-! ### What each command answers (R374) -/

section Answers
variable {c : Ctx} {s : State}

theorem weirEnable_answers {e : Byte} (h : accepts (.weirEnable c e) s = true) :
    (1 < e.toNat → exec (.weirEnable c e) s = .next (reply c .badParam 0 c.xin.length s)) ∧
    ((e = 1 ∧ s.wei.en = true) ∨ (e = 0 ∧ s.wei.en = false) → exec (.weirEnable c e) s = .next (finish c .ok 0 [] s)) ∧
    (e = 1 → s.wei.en = false → dramFits s.cfg s = false → exec (.weirEnable c e) s = .next (reply c .noSpace 0 c.xin.length s)) ∧
    (e = 1 → s.wei.en = false → dramFits s.cfg s = true → exec (.weirEnable c e) s = .next (finish c .ok 0 [] (weirOn s))) ∧
    (e = 0 → s.wei.en = true → exec (.weirEnable c e) s = .next (finish c .ok 0 [] (weirDisabled s))) := by
  have hfail {st : Status} (hb : weirEnableCmd e.toNat s = .fail st s) :
      exec (.weirEnable c e) s = .next (reply c st 0 c.xin.length s) := congrArg _ (command_of_fail h rfl rfl hb)
  have hok {t : State} (hb : weirEnableCmd e.toNat s = .ok t 0 []) : exec (.weirEnable c e) s = .next (finish c .ok 0 [] t) :=
    congrArg _ (command_of_ok h rfl rfl hb)
  refine ⟨fun hb => hfail (weirEnableCmd_of_bad hb), fun hs => hok (weirEnableCmd_of_same ?_), ?_, ?_, ?_⟩
  · exact hs.imp (fun ⟨he, hn⟩ => ⟨congrArg BitVec.toNat he, hn⟩) fun ⟨he, hn⟩ => ⟨congrArg BitVec.toNat he, hn⟩
  · rintro rfl hn hd; exact hfail (weirEnableCmd_of_no_space hn hd)
  · rintro rfl hn hd; exact hok (weirEnableCmd_on hn hd)
  · rintro rfl hn; exact hok (weirEnableCmd_off hn)

theorem checkBind_refused {i : Idx} {l : Byte} {n : U32} {st : Status} (h : accepts (.checkBind c i l n) s = true)
    (hn : n.toNat < levelCount l.toNat) (hb : checkBindCmd i.toNat l.toNat n.toNat s = .fail st s) :
    exec (.checkBind c i l n) s = .next (reply c st 0 c.xin.length s) :=
  congrArg _ (command_of_fail h rfl (nodeForm_of_lt hn) hb)

theorem checkBind_done {i : Idx} {l : Byte} {n : U32} {t : State} (h : accepts (.checkBind c i l n) s = true)
    (hn : n.toNat < levelCount l.toNat) (hb : checkBindCmd i.toNat l.toNat n.toNat s = .ok t 0 []) :
    exec (.checkBind c i l n) s = .next (finish c .ok 0 [] t) :=
  congrArg _ (command_of_ok h rfl (nodeForm_of_lt hn) hb)

theorem intervalResults_refused {n : U64} {a k : U32} {st : Status} (h : accepts (.intervalResults c n a k) s = true)
    (hx : c.xlen = (if k.toNat = 0 then 12791872 else 48 * k.toNat))
    (hb : intervalResultsCmd n.toNat a.toNat k.toNat s = .fail st s) :
    exec (.intervalResults c n a k) s = .next (reply c st 0 c.xin.length s) :=
  congrArg _ (command_of_fail h rfl (decide_eq_true hx) hb)

theorem intervalResults_done {n : U64} {a k : U32} {r : Nat} {d : List Byte} (h : accepts (.intervalResults c n a k) s = true)
    (hx : c.xlen = (if k.toNat = 0 then 12791872 else 48 * k.toNat))
    (hb : intervalResultsCmd n.toNat a.toNat k.toNat s = .ok s r d) :
    exec (.intervalResults c n a k) s = .next (finish c .ok r d s) :=
  congrArg _ (command_of_ok h rfl (decide_eq_true hx) hb)

end Answers

/-! ### The statement -/

/-- Settles O40: each command's form first, then the case of its body, and what the changed tables then hold. -/
theorem weirCommands : Obligations.weir_commands := by
  unfold Obligations.weir_commands
  refine ⟨fun c e s h => ?_, fun c l k a b d e f s h => ?_, fun c l k n s h hn => ?_, fun c i l n s h hn => ?_, fun c i s h => ?_,
    fun c n a k s h hx => ?_, fun c m n k s h hx h0 h256 hw => ?_, fun c n s h hx => ?_, fun c n s h hx => ?_⟩
  · obtain ⟨hbad, hsame, hspace, hon, hoff⟩ := weirEnable_answers h
    refine ⟨hbad, hsame, hspace, fun he hn hd => ?_, fun he hn => ?_⟩
    · exact ⟨_, hon he hn hd, weirOn_en s, weirOn_of_unset, weirOn_of_set⟩
    · refine ⟨_, hoff he hn, ?_⟩
      rw [weirDisabled_wei]
      exact ⟨rfl, rfl, rfl, rfl, rfl, queue_weirDisabled s⟩
  · exact ⟨fun hl => congrArg _ (command_of_fail h rfl rfl (lossClassCmd_of_bad hl _)),
      fun h2 h5 => congrArg _ (command_of_ok h rfl rfl (lossClassCmd_of_level h2 h5 _))⟩
  · exact ⟨fun ha => congrArg _ (command_of_fail h rfl (nodeForm_of_lt hn) (nodeClassCmd_of_inactive ha)),
      fun ha => congrArg _ (command_of_ok h rfl (nodeForm_of_lt hn) (nodeClassCmd_of_active ha))⟩
  · refine ⟨fun hf => ?_, fun hb hr => ?_, fun hb hleg ha hl ht => ⟨fun hfull => ?_, fun hroom => ?_⟩, fun hb hleg ha he => ?_,
      fun hb hleg ha hl hanch ht => ?_⟩
    · exact checkBind_refused h hn (checkBindCmd_of_free hf)
    · exact checkBind_refused h hn (checkBindCmd_of_refused hb hr)
    · exact checkBind_refused h hn (checkBindCmd_of_full ⟨hb, hleg, ha⟩ hl ht hfull)
    · exact ⟨_, checkBind_done h hn (checkBindCmd_of_room ⟨hb, hleg, ha⟩ hl ht hroom), isCheck_checkBound .., measured_checkBound .., rfl⟩
    · exact checkBind_refused h hn (checkBindCmd_of_existing ⟨hb, hleg, ha⟩ he)
    · exact checkBind_refused h hn (checkBindCmd_of_level ⟨hb, hleg, ha⟩ hl hanch ht)
  · exact ⟨fun hc => congrArg _ (command_of_fail h rfl rfl (checkUnbindCmd_of_no_check hc)),
      fun hc => ⟨_, congrArg _ (command_of_ok h rfl rfl (checkUnbindCmd_of_check hc)), isCheck_checkRemove .., rfl⟩⟩
  · refine ⟨fun hnone => intervalResults_refused h hx (intervalResultsCmd_of_no_closed hnone), fun x hs hc => ?_⟩
    have hbody := intervalResultsCmd_of_closed (a := a.toNat) (k := k.toNat) hs hc
    refine ⟨fun hbig => ?_, fun hle hk => ?_, fun ha hk => ?_⟩
    · exact intervalResults_refused h hx (hbody.trans (if_pos hbig))
    · exact intervalResults_done h hx (hbody.trans ((if_neg (by omega)).trans (if_neg (by omega))))
    · exact intervalResults_done h hx (hbody.trans ((if_neg (by omega)).trans (if_pos hk)))
  · intro legs hlegs
    have hm (x : Byte) : (m = x) = (m.toNat = x.toNat) := propext BitVec.toNat_eq
    have hk : k = 0 ↔ k.toNat = 0 := BitVec.toNat_eq
    have hm0 : (m == 0) = (m.toNat == 0) := by rw [Bool.eq_iff_iff, beq_iff_eq, beq_iff_eq, hm]; rfl
    have hok : TestOk c m.toNat n.toNat k.toNat s := ⟨h0, h256, hw, hlegs.imp (fun ⟨a, b⟩ => ⟨(hm 0).mp a, hk.1 b⟩)
      fun ⟨a, b⟩ => ⟨(hm 1).mp a, b⟩⟩
    have hbody := affinityTestCmd_of_ok hok
    refine ⟨fun hbusy => ?_, fun hroom => ?_⟩
    · exact congrArg _ (command_of_fail h rfl (decide_eq_true hx) (hbody.trans (if_pos hbusy)))
    · refine (congrArg _ (command_of_ok h rfl (decide_eq_true hx) (hbody.trans (if_neg (by omega))))).trans ?_
      simp only [testsStarted, candidates, hm0, hm]
      rfl
  · refine ⟨_, congrArg _ (command_of_ok h rfl (decide_eq_true hx) (affinityAbortCmd_of_good (.inl rfl))), fun x ht => ?_, fun hf => ?_⟩
    · refine (mem_surveyFill ht).elim (fun ht => ?_) id
      rw [tests_testsAborted, tests_filter_abort_all] at ht
      exact absurd ht List.not_mem_nil
    · exact (tests_after_abort hf ..).trans (tests_filter_abort_all ..)
  · refine ⟨fun hbad => ?_, fun hgood => ⟨_, ?_, fun hf => (tests_after_abort hf ..).trans (tests_filter_abort_list ..)⟩⟩
    · exact congrArg _ (command_of_fail h rfl (decide_eq_true hx) (affinityAbortCmd_of_bad hbad))
    · exact congrArg _ (command_of_ok h rfl (decide_eq_true hx) (affinityAbortCmd_of_good (.inr ⟨rfl, hgood⟩)))

end Sys2Proof.Machine
end

section
/-! PROOF. Scripts of a radio port, its lock, and what becomes of a received PPDU (R181, R182, R186–R191, R195, R198, R375). -/

namespace Sys2Proof.Machine

/-- An accepted command of good form whose effect ends later has started, its transfer moved (R355, R365). -/
theorem command_of_later {i : Instr} {k : HostCmd} {form : Bool} {body : State → CmdRes} {s t : State} (h : accepts i s = true)
    (hk : hostCmd i = some k) (hf : form = true) (hb : body s = .later t) :
    command i form body s = onJob (jobOf k.c s) (fun e => { e with started := true, moved := k.c.xin.length }) t := by
  rw [command_accepted h hk hf, hb]

/-! ### SCRIPT_LOAD (R375) -/

/-- A script kept loaded until a restart of its port puts it in force. -/
def scriptLoaded (p k : Nat) (l : List SpiTx) (s : State) : State :=
  setVport p { vport s p with loaded := tset [] (vport s p).loaded k l } s

section ScriptLoad
variable {c : Ctx} {p k n : Nat} {s : State}

theorem scriptLoadCmd_of_bad (h : 8 ≤ p ∨ 4 ≤ k ∨ n = 0 ∨ 16 < n ∨ scriptFits (paramN s .vane 7 0) (spiList c.xin n) = false) :
    scriptLoadCmd c p k n s = .fail .badParam s := by
  refine if_pos ?_
  rcases h with h | h | h | h | h <;> simp [h]

theorem scriptLoadCmd_of_good (hp : p < 8) (hk : k < 4) (h0 : 0 < n) (hn : n ≤ 16)
    (hz : (List.range n).all (fun j => byteAt c.xin (12 * j + 3) == 0) = true)
    (hl : (spiList c.xin n).all (fun x => decide (1 ≤ x.len ∧ x.len ≤ 8 ∧ x.chk ≤ x.len)) = true)
    (hf : scriptFits (paramN s .vane 7 0) (spiList c.xin n) = true) :
    scriptLoadCmd c p k n s = .ok (scriptLoaded p k (spiList c.xin n) s) 0 [] := by
  refine if_neg ?_
  rw [hz, hl, hf]
  simp only [Bool.not_true, Bool.false_eq_true, or_false]
  omega

end ScriptLoad

/-! ### CHANNEL (R186, R375) -/

/-- A command that waits for a port's channel script. -/
def chanWaits (p : Nat) (w : Nat × Nat) (s : State) : State :=
  setVport p { vport s p with chanWait := (vport s p).chanWait ++ [w] } s

theorem vport_chanWaits (p : Nat) (w : Nat × Nat) (s : State) :
    vport (chanWaits p w s) p = { vport s p with chanWait := (vport s p).chanWait ++ [w] } := vport_setVport_same ..

section Channel
variable {c : Ctx} {p : Nat} {w : Nat × Nat} {x : SpiTx} {l : List SpiTx} {s : State}

theorem channelScriptCmd_of_no_group (hg : grp s 0 = false) : channelScriptCmd c p s = .fail .refusedState s :=
  if_pos (by simp [hg])

theorem channelScriptCmd_of_bad_port (hg : grp s 0 = true) (hp : 8 ≤ p) : channelScriptCmd c p s = .fail .badParam s :=
  (if_neg (by simp [hg])).trans (if_pos hp)

theorem channelScriptCmd_of_clock (hg : grp s 0 = true) (hp : p < 8) : channelScriptCmd c p s =
    if unclockedPort s p then .fail .poweredDown (openRecord 0 s) else .later (nextChannel p (chanWaits p (jobOf c s) s)) :=
  (if_neg (by simp [hg])).trans (if_neg (Nat.not_le.2 hp))

/-- A port that sends or runs a script serves no waiting command yet. -/
theorem nextChannel_of_busy (h : (vport s p).running.isSome = true ∨ (vport s p).tx.isSome = true) : nextChannel p s = s := if_pos h

/-- A free port answers them at once where its channel script is empty. -/
theorem nextChannel_of_empty (hr : (vport s p).running = none) (ht : (vport s p).tx = none) (hx : script (vport s p) 2 = []) :
    nextChannel p s = (vport s p).chanWait.foldl (fun t w => replyLater w .ok 0 t)
      (if (vport s p).chanWait = [] then s else setVport p { vport s p with chanWait := [] } s) := by
  refine (if_neg (by simp [hr, ht])).trans ?_
  rw [hx]

/-- A free port begins its channel script for the first of them. -/
theorem nextChannel_of_script {rest : List (Nat × Nat)} (hr : (vport s p).running = none) (ht : (vport s p).tx = none)
    (hx : script (vport s p) 2 = x :: l) (hw : (vport s p).chanWait = w :: rest) : nextChannel p s =
      emit (.spi p x.bytes) (setVport p { vport s p with running := some (2, 0, some w), chanWait := rest } s) := by
  refine (if_neg (by simp [hr, ht])).trans ?_
  rw [hx, hw]

theorem nextChannel_of_none (hx : script (vport s p) 2 = x :: l) (hw : (vport s p).chanWait = []) : nextChannel p s = s := by
  refine (ite_eq_left_iff).2 fun _ => ?_
  rw [hx, hw]

theorem nextChannel_chanWaits_of_busy (h : (vport s p).running.isSome = true ∨ (vport s p).tx.isSome = true) :
    nextChannel p (chanWaits p w s) = chanWaits p w s :=
  nextChannel_of_busy (by rw [vport_chanWaits]; exact h)

theorem nextChannel_chanWaits_of_script (hr : (vport s p).running = none) (ht : (vport s p).tx = none)
    (hw : (vport s p).chanWait = []) (hx : script (vport s p) 2 = x :: l) : nextChannel p (chanWaits p w s) =
      emit (.spi p x.bytes) (setVport p { vport s p with chanWait := [], running := some (2, 0, some w) } (chanWaits p w s)) := by
  have hv := vport_chanWaits p w s
  rw [hw] at hv
  rw [nextChannel_of_script (w := w) (rest := []) (by rw [hv, hr]) (by rw [hv, ht]) (by rw [hv]; exact hx) (by rw [hv]; rfl), hv]

theorem nextChannel_chanWaits_of_empty (hr : (vport s p).running = none) (ht : (vport s p).tx = none)
    (hw : (vport s p).chanWait = []) (hx : script (vport s p) 2 = []) : nextChannel p (chanWaits p w s) =
      replyLater w .ok 0 (setVport p (vport s p) (chanWaits p w s)) := by
  have hv := vport_chanWaits p w s
  have hback : { vport s p with chanWait := [] } = vport s p := by rw [← hw]
  rw [hw] at hv
  rw [nextChannel_of_empty (by rw [hv, hr]) (by rw [hv, ht]) (by rw [hv]; exact hx), hv]
  simp only [List.nil_append, List.cons_ne_nil, if_false, List.foldl_cons, List.foldl_nil, hback]

end Channel

/-! ### The transactions of a script (R182) -/

section Transactions
variable {p : Nat} {miso : List Byte} {k n : Nat} {cmd : Option (Nat × Nat)} {x : SpiTx} {s t : State}

theorem spiDone_of_good {y : SpiTx} (hr : (vport s p).running = some (k, n, cmd)) (hx : (script (vport s p) k)[n]? = some x)
    (hc : x.chk = 0 ∨ byteAt miso (x.chk - 1) = x.exp) (hy : (script (vport s p) k)[n + 1]? = some y) :
    spiDone p miso s = emit (.spi p y.bytes) (setVport p { vport s p with running := some (k, n + 1, cmd) } s) := by
  simp only [spiDone, hr, hx, hy, if_pos hc]

/-- The port is in IDLE, sends nothing, and a failed check is told of. -/
structure Idled (p : Nat) (t : State) : Prop where
  idle : (vport t p).idle = true
  tx : (vport t p).tx = none
  told : raised 30 t = true

theorem Idled.of_same (h : Idled p s) (hv : t.van = s.van) (he : t.evt = s.evt) : Idled p t where
  idle := by rw [vport, hv]; exact h.idle
  tx := by rw [vport, hv]; exact h.tx
  told := by rw [raised, he]; exact h.told

theorem Idled.setVport {v : VPort} (h : Idled p s) (hi : v.idle = true) (ht : v.tx = none) : Idled p (setVport p v s) where
  idle := by rw [vport_setVport_same, hi]
  tx := by rw [vport_setVport_same, ht]
  told := h.told

theorem Idled.replyLater (h : Idled p s) (w : Nat × Nat) (st : Status) : Idled p (replyLater w st 0 s) := h.of_same rfl rfl

/-- Serving the commands that wait leaves a port in IDLE. -/
theorem Idled.nextChannel (h : Idled p s) : Idled p (nextChannel p s) := by
  cases hr : (vport s p).running with
  | some r => rwa [nextChannel_of_busy (.inl (by rw [hr]; rfl))]
  | none =>
    cases hx : script (vport s p) 2 with
    | nil =>
      rw [nextChannel_of_empty hr h.tx hx]
      refine List.foldlRecOn _ _ (motive := Idled p) ?_ fun t ht w _ => ht.replyLater w _
      split
      · exact h
      · exact h.setVport h.idle h.tx
    | cons x l =>
      cases hw : (vport s p).chanWait with
      | nil => rwa [nextChannel_of_none hx hw]
      | cons w rest =>
        rw [nextChannel_of_script hr h.tx hx hw]
        exact (h.setVport (v := { vport s p with running := some _, chanWait := _ }) h.idle h.tx).of_same rfl rfl

/-- The script that takes a port to IDLE leaves it there, ended at once or begun. -/
theorem Idled.startScript (h : Idled p s) : Idled p (startScript p 3 s) := by
  unfold Machine.startScript
  split
  · refine Idled.nextChannel (h.setVport (v := { vport s p with running := none, idle := (vport s p).idle && 3 == 3 }) ?_ h.tx)
    simp [h.idle]
  · exact (h.setVport (v := { vport s p with running := some _ }) h.idle h.tx).of_same rfl rfl

/-- A port whose check byte does not match, in IDLE and told of. -/
def checkFailed (p k n : Nat) (s : State) : State :=
  raise 30 p (16 * k + n) (setVport p { vport s p with running := none, tx := none, idle := true } s)

theorem checkFailed_idled (p k n : Nat) (s : State) : Idled p (checkFailed p k n s) where
  idle := by rw [checkFailed, (raise_eventOnly ..).vport, vport_setVport_same]
  tx := by rw [checkFailed, (raise_eventOnly ..).vport, vport_setVport_same]
  told := raised_raise _ _ _ _ (by decide)

/-- A frame that was to go on air is not sent. -/
def unsent (f : Option TxFrame) (s : State) : State :=
  match f with
  | some f => if f.uni.isSome then dropItem f.item s else s
  | none => s

/-- A CHANNEL command whose script failed is answered so. -/
def failReplied (cmd : Option (Nat × Nat)) (s : State) : State :=
  match cmd with
  | some w => replyLater w .verifyFailed 0 s
  | none => s

theorem Idled.unsent (h : Idled p s) (f : Option TxFrame) : Idled p (unsent f s) := by
  unfold Machine.unsent
  split
  · split
    · exact h.of_same rfl rfl
    · exact h
  · exact h

theorem Idled.failReplied (h : Idled p s) (cmd : Option (Nat × Nat)) : Idled p (failReplied cmd s) := by
  cases cmd with
  | none => exact h
  | some w => exact h.replyLater w _

theorem spiDone_of_bad (hr : (vport s p).running = some (k, n, cmd)) (hx : (script (vport s p) k)[n]? = some x)
    (h0 : x.chk ≠ 0) (hb : byteAt miso (x.chk - 1) ≠ x.exp) : spiDone p miso s =
      if k = 3 then failReplied cmd (unsent (vport s p).tx (checkFailed p k n s))
      else startScript p 3 (failReplied cmd (unsent (vport s p).tx (checkFailed p k n s))) := by
  simp only [spiDone, hr, hx, if_neg (not_or.2 ⟨h0, hb⟩)]
  rfl

theorem spiDone_idles (hr : (vport s p).running = some (k, n, cmd)) (hx : (script (vport s p) k)[n]? = some x)
    (h0 : x.chk ≠ 0) (hb : byteAt miso (x.chk - 1) ≠ x.exp) : Idled p (spiDone p miso s) := by
  have hidled := ((checkFailed_idled p k n s).unsent (vport s p).tx).failReplied cmd
  rw [spiDone_of_bad hr hx h0 hb]
  split
  · exact hidled
  · exact hidled.startScript

end Transactions

/-! ### Lane lock (R181) -/

section Lock
variable {p : Fin 8} {l : List U32} {s : State}

/-- A port without its lock, told of. -/
def lockLost (p : Nat) (s : State) : State := raise 29 p 0 (setVport p { vport s p with lock := false } s)

theorem exec_iqSyncLoss_of_loss (hd : dark s .van = false) (hk : (vport s p.val).lock = true) (hl : laneLoses iqSync l = true) :
    exec (.iqSyncLoss p l) s = .next (lockLost p.val s) := congrArg _ (if_neg (by simp [hd, hk, hl]))

theorem exec_iqSyncLoss_of_none (h : (vport s p.val).lock = false ∨ laneLoses iqSync l = false) :
    exec (.iqSyncLoss p l) s = .next s := congrArg _ (if_pos (by rcases h with h | h <;> simp [h]))

theorem exec_iqLock_of_lock (hd : dark s .van = false) (hg : listens s 0 = true) (hc : s.dev.unclocked.contains (.rfiq p) = false)
    (hl : laneLocks iqSync l = true) :
    exec (.iqLock p l) s = .next (setVport p.val { vport s p.val with lock := true } s) :=
  congrArg _ (if_neg (by rw [hd, hg, hc, hl]; decide))

theorem exec_iqLock_of_none (h : listens s 0 = false ∨ s.dev.unclocked.contains (.rfiq p) = true ∨ laneLocks iqSync l = false) :
    exec (.iqLock p l) s = .next s := by
  refine congrArg _ (if_pos ?_)
  rcases h with h | h | h
  · exact .inr (.inl (by simp [h]))
  · exact .inr (.inr (.inl h))
  · exact .inr (.inr (.inr (by simp [h])))

end Lock

/-- The SYNC fields stand at bits 31:30 and 15:14 (R181). -/
theorem iqSync_iff (w : U32) : iqSync w = true ↔ w.extractLsb 31 30 = 2#2 ∧ w.extractLsb 15 14 = 1#2 := by
  rw [iqSync, decide_eq_true_eq, BitVec.toNat_eq, BitVec.toNat_eq, BitVec.extractLsb_toNat, BitVec.extractLsb_toNat,
    Nat.shiftRight_eq_div_pow, Nat.shiftRight_eq_div_pow]
  rfl

/-! ### Received PPDUs (R187–R195, R198) -/

theorem ppduReceived_of_deaf {p : Fin 8} {x : Ppdu} {s : State} (h : portLive s p = false ∨ listens s 0 = false ∨
    (vport s p.val).lock = false ∨ (vport s p.val).tx.isSome = true) : ppduReceived p x s = s := by
  refine if_pos ?_
  rcases h with h | h | h | h <;> simp [h]

/-- A port receives: it is live and listens, has its lock and does not send. -/
structure Receives (p : Fin 8) (s : State) : Prop where
  live : portLive s p = true
  hears : listens s 0 = true
  lock : (vport s p.val).lock = true
  silent : (vport s p.val).tx = none

/-- A PPDU whose PSDU parses as a data frame that the filter of R187 lets pass and that is no acknowledgement awaited. -/
structure DataFrame (p : Fin 8) (x : Ppdu) (m : Mac) (s : State) : Prop where
  phr : x.phr = true
  fcs : x.fcs = true
  fits : x.psdu.length + (if x.fcs4 then 4 else 2) ≤ 2047
  parsed : macParse x.psdu = some m
  unasked : isAck s p.val x m = none
  passes : macFilter s p.val m = true
  data : m.ftype ≠ 0

/-- The receive stamp of a frame (R188). -/
def heardNs (p : Nat) (x : Ppdu) (s : State) : Nat := nowNs s - rxLat s p - x.air.toNat

/-- The tick at which a PPDU ended at the antenna. -/
def heardEnd (p : Nat) (s : State) : Nat := s.elapsed - nsTicks (rxLat s p)

/-- The frame Millrace gets of a received one, but for its HOPS (R188, R189). -/
def heardBare (p : Nat) (x : Ppdu) (m : Mac) (s : State) : Frame := {
  bytes := m.payload, path := 1, port := p, rxNs := heardNs p x s, rssi := rssiByte s p x.power, bcast := !toPort s p m
  ret := .radio p ((vport s p).ppdu + 1) (!(!toPort s p m) && m.ar) (heardEnd p s) }

def heardFrame (p : Nat) (x : Ppdu) (m : Mac) (s : State) : Frame :=
  { heardBare p x m s with hops := hopsOf s (!toPort s p m) (gTtl (heardBare p x m s)) }

/-- The acknowledgement that may fall due for it, by the index its sender resolves to. -/
def heardDue (p : Nat) (x : Ppdu) (m : Mac) (s : State) : AckDue := {
  ppdu := (vport s p).ppdu + 1, endAt := heardEnd p s, seq := m.seq, dst := m.src, fcs4 := x.fcs4
  idx := if gEuiForm (heardFrame p x m s) then ((resolve s (heardFrame p x m s)).res.map (·.1)).getD 0xFFFFFFFF
    else gIndex (heardFrame p x m s) }

/-- The port counts the frame, and notes its acknowledgement where it asks for one. -/
def heardPort (p : Nat) (x : Ppdu) (m : Mac) (s : State) : VPort := { vport s p with
  ppdu := (vport s p).ppdu + 1
  acks := if !(!toPort s p m) && m.ar then (vport s p).acks ++ [heardDue p x m s] else (vport s p).acks }

/-- The state in which the frame is handed to its lane. -/
def heardNoted (p : Nat) (x : Ppdu) (m : Mac) (s : State) : State := bump (vanCtr p 0) 1 (setVport p (heardPort p x m s) s)

/-- Resolution of the sender changes nothing else of a frame (R47). -/
theorem resolve_res (s : State) (f : Frame) : resolve s f = { f with res := (resolve s f).res } := by
  unfold resolve
  split
  · split <;> rfl
  · rfl

/-- With a lane running, a frame stands behind those that wait in its lane (R93, R103). -/
theorem presentLocal_of_running {s : State} (h : s.ing.run ≠ 0) (f : Frame) : ∃ k,
    presentLocal f s = setLane k { lane s k with input := (lane s k).input ++ [resolve s f] } s :=
  ⟨laneOf s.ing.mapRun (resolve s f), if_neg h⟩

section Received
variable {p : Fin 8} {x : Ppdu} {m : Mac} {s : State}

/-- Such a port is kept from none of what it receives. -/
theorem Receives.not_deaf (h : Receives p s) :
    ¬ ((!portLive s p) = true ∨ (!listens s 0) = true ∨ (!(vport s p.val).lock) = true ∨ (vport s p.val).tx.isSome = true) := by
  simp [h.live, h.hears, h.lock, h.silent]

theorem ppduReceived_of_bad (h : Receives p s) (hb : x.phr = false ∨ x.fcs = false) :
    ppduReceived p x s = bump (vanCtr p.val 1) 1 s :=
  (if_neg h.not_deaf).trans (if_pos (by rcases hb with hb | hb <;> simp [hb]))

theorem ppduReceived_of_data (h : Receives p s) (hd : DataFrame p x m s) : ppduReceived p x s =
    if s.dev.quiet then bump (vanCtr p.val 8) 1 s
    else if byteAt m.payload 0 / 64 = 2 then bump (vanCtr p.val 9) 1 s
    else presentLocal (heardFrame p.val x m s) (heardNoted p.val x m s) := by
  obtain ⟨hphr, hfcs, hfits, hparsed, hunasked, hpasses, hdata⟩ := hd
  refine (if_neg h.not_deaf).trans ((if_neg (by simp [hphr, hfcs, Nat.not_lt.2 hfits])).trans ?_)
  simp only [hparsed, hunasked, hpasses, Bool.not_true, Bool.false_eq_true, if_false, hdata]
  rfl

/-- A reading frame is counted and handed on, its acknowledgement noted. -/
theorem ppduReceived_hands_on (h : Receives p s) (hd : DataFrame p x m s) (hq : s.dev.quiet = false)
    (hb : byteAt m.payload 0 / 64 ≠ 2) (hr : s.ing.run ≠ 0) : ∃ k, ppduReceived p x s =
      setLane k { lane s k with input := (lane s k).input ++ [resolve (heardNoted p.val x m s) (heardFrame p.val x m s)] }
        (heardNoted p.val x m s) := by
  rw [ppduReceived_of_data h hd, if_neg (by simp [hq]), if_neg hb]
  exact presentLocal_of_running (s := heardNoted p.val x m s) hr _

theorem length_acks_heardPort (p : Nat) (x : Ppdu) (m : Mac) (s : State) :
    (heardPort p x m s).acks.length = (vport s p).acks.length + b2n (toPort s p m && m.ar) := by
  simp only [heardPort, Bool.not_not]
  split
  · next h => simp [h, b2n]
  · next h => simp [h, b2n]

end Received

/-! ### The statement -/

theorem exec_spiTransactionDone {p : Fin 8} {miso : List Byte} {s : State} (h : dark s .van = false) :
    exec (.spiTransactionDone p miso) s = .next (spiDone p.val miso s) := next_of_light h

section Channel
variable {c : Ctx} {p : Byte} {s : State}

theorem exec_channel_of_fail {st : Status} {t : State} (h : accepts (.channel c p) s = true)
    (hb : channelScriptCmd c p.toNat s = .fail st t) : exec (.channel c p) s = .next (reply c st 0 c.xin.length t) :=
  congrArg _ (command_of_fail h rfl rfl hb)

/-- CHANNEL joins those that wait for its port, which serves them where it is free. -/
theorem exec_channel_of_later {t : State} (h : accepts (.channel c p) s = true) (hg : grp s 0 = true) (hp : p.toNat < 8)
    (hu : unclockedPort s p.toNat = false) (ht : nextChannel p.toNat (chanWaits p.toNat (jobOf c s) s) = t) :
    exec (.channel c p) s = .next (onJob (jobOf c s) (fun e => { e with started := true, moved := c.xin.length }) t) :=
  congrArg _ (command_of_later h rfl rfl ((channelScriptCmd_of_clock hg hp).trans ((if_neg (by simp [hu])).trans (congrArg _ ht))))

end Channel

/-- Settles O43: the two commands by what their bodies answer, a script by its check bytes, lock by the lane's words, and a PPDU by
what its port and its frame are. -/
theorem radioScriptsAndReception : Obligations.radio_scripts_and_reception := by
  unfold Obligations.radio_scripts_and_reception
  refine ⟨fun c p k n s h hx hp hk h0 hn hz hl hf => ?_, fun c p k n s h hx hb => ?_, fun c p s h => ⟨fun hg => ?_, fun hg hp => ?_,
      fun hg hp => ⟨fun hu => ?_, fun hu => ⟨fun hb => ?_, fun x l hr ht hw hs => ?_, fun hr ht hw hs => ?_⟩⟩⟩,
    fun p miso k n cmd x s hd hr hx => ⟨fun y hc hy => ?_, fun h0 hb => ?_⟩,
    fun p s hd => ⟨fun l hk hl => ⟨_, exec_iqSyncLoss_of_loss hd hk hl, ?_, raised_raise _ _ _ _ (by decide)⟩,
      fun l => exec_iqSyncLoss_of_none, fun l => exec_iqLock_of_lock hd, fun l => exec_iqLock_of_none⟩,
    iqSync_iff, fun p x s => ⟨fun h => congrArg _ (ppduReceived_of_deaf h), fun hlive hhears hlock hsilent => ?_⟩⟩
  · exact congrArg _ (command_of_ok h rfl (decide_eq_true hx) (scriptLoadCmd_of_good hp hk h0 hn hz hl hf))
  · exact congrArg _ (command_of_fail h rfl (decide_eq_true hx)
      (scriptLoadCmd_of_bad (hb.imp_right (Or.imp_right (Or.imp_left BitVec.toNat_eq.1)))))
  · exact exec_channel_of_fail h (channelScriptCmd_of_no_group hg)
  · exact exec_channel_of_fail h (channelScriptCmd_of_bad_port hg hp)
  · exact exec_channel_of_fail h ((channelScriptCmd_of_clock hg hp).trans (if_pos hu))
  · exact exec_channel_of_later h hg hp hu (nextChannel_chanWaits_of_busy hb)
  · refine (exec_channel_of_later h hg hp hu (nextChannel_chanWaits_of_script hr ht hw hs)).trans ?_
    rw [chanWaits, hw]
    rfl
  · refine ⟨_, exec_channel_of_later h hg hp hu (nextChannel_chanWaits_of_empty hr ht hw hs), ?_, rfl⟩
    exact vport_setVport_same ..
  · rw [exec_spiTransactionDone hd, spiDone_of_good hr hx hc hy]
  · obtain ⟨hidle, htx, htold⟩ := spiDone_idles hr hx h0 hb
    exact ⟨_, exec_spiTransactionDone hd, hidle, htx, htold⟩
  · rw [lockLost, (raise_eventOnly ..).vport, vport_setVport_same]
  · have hr : Receives p s := ⟨hlive, hhears, hlock, hsilent⟩
    refine ⟨fun hb => congrArg _ (ppduReceived_of_bad hr hb), fun m hphr hfcs hfits hparsed hunasked hpasses hdata => ?_⟩
    have hd : DataFrame p x m s := ⟨hphr, hfcs, hfits, hparsed, hunasked, hpasses, hdata⟩
    refine ⟨fun hq => congrArg _ ((ppduReceived_of_data hr hd).trans (if_pos hq)), fun hq hb hrun => ?_⟩
    obtain ⟨k, hk⟩ := ppduReceived_hands_on hr hd hq hb hrun
    have hport : vport (heardNoted p.val x m s) p.val = heardPort p.val x m s := vport_setVport_same ..
    refine ⟨_, k, _, congrArg Host.Outcome.next hk, congrArg Lane.input (lane_setLane_same ..), ?_⟩
    rw [resolve_res]
    refine ⟨rfl, rfl, rfl, rfl, rfl, cnt_bump_same .., ?_, congrArg VPort.ppdu hport, ?_⟩
    · simp only [heardFrame, heardBare, Bool.not_not, heardEnd]
    · exact (congrArg (fun v => v.acks.length) hport).trans (length_acks_heardPort ..)

end Sys2Proof.Machine
end
